-- ==== Sys2Proof/Word.lean ====
section
/-! DEFINITION. The words the links carry. Every multi-byte number of the Tacelo 7416 is sent high byte
first (spec 11, "Frame and Record Layouts"); the helpers that take numbers apart stand in Machine/Codes.lean. -/

namespace Sys2Proof

/-- One character of a serial line: eight data bits (R19, R134). -/
abbrev Byte := BitVec 8

/-- A two-byte number, such as the scan number or a CRC-16. -/
abbrev Half := BitVec 16

end Sys2Proof
end

