-- ==== Sys2Proof/Config.lean ====
section
/-! DEFINITION. What the part fixes for good: its codes, its time constants, and the choices the manual
leaves open, which are constants without a body. -/

namespace Sys2Proof.Config

/-- The configuration format version byte (R148, R155): 03h. -/
def formatVersion : Byte := 0x03

/-- The part code of IDENTIFY PART (R155): 7416h. -/
def partCode : Half := 0x7416

/-- The sync byte of seat-line frames (R23): C3h. -/
def syncByte : Byte := 0xC3

/-- Time is counted in quanta of 125 microseconds, the largest unit that divides both 1 ms and the
3.125 ms reminder tick of test mode (log entry 2). -/
def quantaPerMs : Nat := 8

/-- Scan period in RUN, 100 ms (R20). -/
def runPeriod : Nat := 100 * quantaPerMs

/-- Scan period in ECO, 1000 ms (R20). -/
def ecoPeriod : Nat := 1000 * quantaPerMs

/-- Reminder tick spacing, 100 ms (R92). -/
def reminderSpacing : Nat := 100 * quantaPerMs

/-- Reminder tick spacing in test mode, 3.125 ms (R92). -/
def reminderSpacingTest : Nat := 25

/-- The freshness time of a vehicle report, 1000 ms (R122). -/
def freshnessTime : Nat := 1000 * quantaPerMs

/-- One half of the INDETERMINATE alternation on PSO, 50 ms (R109). -/
def psoHalf : Nat := 50 * quantaPerMs

/-- How many times faster the watch timer and the eco countdown run in test mode (R131). -/
def testModeFactor : Nat := 32

/-- FREE VALUE (log entry 4): which of several timers that end at one moment is taken first. The manual
says that either may be taken first (for example R112, R124, R129). -/
opaque expiryPick : Nat → Nat

/-- FREE VALUE (log entry 5): whether line B begins its round before line A where both rounds open with a
skip at one scan tick; R21 leaves the order of the two lines open. -/
opaque lineBFirst : Nat → Bool

end Sys2Proof.Config
end

