-- ==== Sys2Proof/Syntax.lean ====
section
/-! DEFINITION. The commands and events of the part: one constructor for each row of
spec/opcode_table.json. A port command carries the port on which its frame arrived, the operand bytes as
the frame held them and the check byte, so that every frame of R134 to R138 can be written, sound or not. -/

namespace Sys2Proof

/-- The three command ports (spec 09). -/
inductive Port where
  | safety
  | cabin
  | service
deriving DecidableEq, Repr

/-- The two seat lines (R19). -/
inductive Line where
  | a
  | b
deriving DecidableEq, Repr

/-- A seating position; index 0 is position 1 and index 15 is position 16. -/
abbrev Pos := Fin 16

/-- What a save writes beside the completion mark: items (2) to (5) of R148 as bytes, and item (6), the CRC. -/
structure StoreImage where
  body : List Byte
  crc : Half
deriving DecidableEq, Repr

/-- The commands and events, in the order of spec/opcode_table.json. Log entry 25 (DESIGN CHOICE). -/
inductive Instr where
  | powerOn
  | resetLineAssert
  | resetLineRelease
  | configurationLoadEnd
  | scanTick
  | replyWindowClose (l : Line)
  /-- `chars` are the characters received in the exchange, in order. -/
  | seatReplyReceived (l : Line) (chars : List Byte)
  | seatReplyGap (l : Line) (chars : List Byte)
  | exchangeLimit (l : Line) (chars : List Byte)
  | reminderTick
  | graceTimerExpiry (n : Pos)
  | visualTimerExpiry (n : Pos)
  | audibleTimerExpiry (n : Pos)
  | holdTimerExpiry
  | freshnessTimerExpiry
  | watchTimerExpiry
  | ecoCountdownExpiry
  | ageLimitReached (p : Port)
  /-- `readBack` is what the written store holds when it is read back (R151). -/
  | saveEnd (readBack : StoreImage)
  | interByteLimit (p : Port)
  | frameDiscarded (p : Port)
  | discardingGapEnd (p : Port)
  | unknownCommand (p : Port) (cmd chk : Byte)
  | identifyPart (p : Port) (chk : Byte)
  | readStatus (p : Port) (chk : Byte)
  | readSummary (p : Port) (chk : Byte)
  | readPosition (p : Port) (n chk : Byte)
  | readNotice (p : Port) (chk : Byte)
  | readSuppression (p : Port) (chk : Byte)
  | hold (p : Port) (chk : Byte)
  | release (p : Port) (chk : Byte)
  | readSnapshot (p : Port) (d chk : Byte)
  | popSnapshot (p : Port) (chk : Byte)
  | vehicleState (p : Port) (ignition speed gear door chk : Byte)
  | confirmAudible (p : Port) (n chk : Byte)
  | mute (p : Port) (n chk : Byte)
  | dismissLeftBehind (p : Port) (chk : Byte)
  | readMapEntry (p : Port) (n chk : Byte)
  | readStaged (p : Port) (n chk : Byte)
  | stageEntry (p : Port) (n : Byte) (entry : Vector Byte 17) (chk : Byte)
  | swapBindings (p : Port) (a b chk : Byte)
  | discardStage (p : Port) (chk : Byte)
  | commitMap (p : Port) (chk : Byte)
  | zeroCapture (p : Port) (n chk : Byte)
  | readProfile (p : Port) (n chk : Byte)
  | setProfile (p : Port) (n : Byte) (profile : Vector Byte 31) (chk : Byte)
  | readSettings (p : Port) (chk : Byte)
  | setSettings (p : Port) (settings : Vector Byte 24) (chk : Byte)
  | saveConfig (p : Port) (chk : Byte)
  | readNode (p : Port) (line address chk : Byte)
  /-- TEST MODE with an operand other than OFF: 01h is ON, anything above is outside the set (R131). -/
  | testModeOn (p : Port) (operand chk : Byte)
  /-- TEST MODE with the operand 00h, OFF. -/
  | testModeOff (p : Port) (chk : Byte)
  /-- `sample` is the operand after `n`: L, N, P, mat state, buckle code, tag count and two tag records. -/
  | injectSample (p : Port) (n : Byte) (sample : Vector Byte 20) (chk : Byte)
  | endInject (p : Port) (n chk : Byte)
  | clearSnapshots (p : Port) (chk : Byte)
  | resetPart (p : Port) (chk : Byte)
  | resetPartReplySent
  | replyEnd (p : Port)
deriving DecidableEq, Repr

end Sys2Proof
end

