-- ==== Sys2Proof/Machine/State.lean ====
section
/-! DEFINITION. The state of the part as plain data, block by block as the manual lists the blocks (spec 00,
section 2), and the state right after reset. A running or stopped timer is an `Option Nat`: none is stopped,
`some t` is running with t quanta of 125 microseconds left (Config.quantaPerMs). -/

namespace Sys2Proof.Machine

/-! ## Codes as names (spec 11.5) -/

/-- Seat kind of a map entry (R1). -/
inductive SeatKind where
  | driver
  | front
  | rear
deriving DecidableEq, Repr

/-- How much of the identity an entry compares (R4). -/
inductive MatchMode where
  | exact
  | variant
  | model
  | any
deriving DecidableEq, Repr

/-- Reminder class of a map entry (R1). -/
inductive ReminderClass where
  | full
  | visual
  | none
deriving DecidableEq, Repr

/-- Fit state of a position (spec 01, 1.4). -/
inductive FitState where
  | unchecked
  | fits
  | misfit
  | noSlot
deriving DecidableEq, Repr

/-- The twelve occupant classes (R71). -/
inductive OccClass where
  | unresolved
  | absent
  | fault
  | empty
  | object
  | csEmpty
  | csRf
  | csFf
  | csUnspec
  | booster
  | small
  | adult
deriving DecidableEq, Repr

/-- Why a stable class is FAULT (R72). -/
inductive FaultCause where
  | none
  | nodeLost
  | misfit
  | noSlot
  | matFault
deriving DecidableEq, Repr

/-- Child-seat states and readings (spec 04, 4.1). -/
inductive ChildSeat where
  | none
  | baseOnly
  | carrierRf
  | seatRf
  | seatFf
  | seatUnspec
  | boosterSeat
  | conflict
deriving DecidableEq, Repr

/-- Belt states (spec 06, 6.1). -/
inductive Belt where
  | none
  | latched
  | unlatched
  | fault
deriving DecidableEq, Repr

/-- Reminder states (R92). -/
inductive ReminderStep where
  | idle
  | grace
  | visual
  | audible
  | muted
  | lapsed
deriving DecidableEq, Repr

/-- Node states (spec 02, 2.5). -/
inductive NodeState where
  | unseen
  | online
  | silent
  | lost
deriving DecidableEq, Repr

/-- The loss verdict of a node record (spec 02, 2.5). -/
inductive Verdict where
  | none
  | absent
  | fault
deriving DecidableEq, Repr

/-- Suppression states (R107). -/
inductive Suppression where
  | enable
  | suppress
  | indeterminate
deriving DecidableEq, Repr

/-- Ignition values; UNKNOWN stands from a reset to the first report (R133). -/
inductive Ignition where
  | unknown
  | off
  | acc
  | run
deriving DecidableEq, Repr

/-- Gear values (R122). -/
inductive Gear where
  | park
  | other
deriving DecidableEq, Repr

/-- Driver door values (R122). -/
inductive Door where
  | closed
  | opened
deriving DecidableEq, Repr

/-- Scan modes (R20). -/
inductive ScanMode where
  | run
  | eco
deriving DecidableEq, Repr

/-- Configuration state: the result of the last start-up load (R152). -/
inductive ConfigState where
  | loaded
  | defaulted
deriving DecidableEq, Repr

/-- The two poll commands (R23). -/
inductive PollCommand where
  | identify
  | sample
deriving DecidableEq, Repr

/-- The notice kinds (R141). -/
inductive NoticeKind where
  | classChanged
  | suppressionChanged
  | holdExpired
  | beltChanged
  | reminderChanged
  | audibleRequest
  | leftBehind
  | nodeChanged
  | commitApplied
  | captureDone
  | saveDone
  | configDefaulted
  | testModeEnded
deriving DecidableEq, Repr

/-! ## Tables over the positions, the lines and the ports -/

/-- One entry for each of the 16 positions. -/
abbrev PerPos (α : Type) := Vector α 16

/-- One entry for each seat line. -/
structure PerLine (α : Type) where
  a : α
  b : α
deriving DecidableEq, Repr

/-- One entry for each port. -/
structure PerPort (α : Type) where
  safety : α
  cabin : α
  service : α
deriving DecidableEq, Repr

/-! ## Configuration -/

/-- A map entry (R1). Address, slot and profile are held as indices: address index 0 is address 1, slot
index 0 is slot 1. -/
structure MapEntry where
  enabled : Bool
  kind : SeatKind
  row : Nat
  line : Line
  address : Fin 6
  slot : Fin 4
  identity : BitVec 24
  matchMode : MatchMode
  childCapable : Bool
  airbagZone : Bool
  beltSensed : Bool
  reminderClass : ReminderClass
  profile : Fin 4
  z : Int
  g : Nat
  k : Nat
deriving DecidableEq, Repr

/-- A profile: band thresholds (R46), child-seat parameters (R67) and classification parameters (R76). -/
structure Profile where
  t1u : Nat
  t1d : Nat
  t2u : Nat
  t2d : Nat
  t3u : Nat
  t3d : Nat
  cinch : Nat
  csU : Nat
  csD : Nat
  nMin : Nat
  kRigid : Nat
  kHuman : Nat
  resolve : Nat
  vEmpty : Nat
  vObject : Nat
  vCsEmpty : Nat
  vCsRf : Nat
  vCsFf : Nat
  vCsUnspec : Nat
  vBooster : Nat
  vSmall : Nat
  vAdult : Nat
deriving DecidableEq, Repr

/-- The settings (R148): times in reminder ticks, speed in km/h, delays in s, ages in ms. -/
structure Settings where
  graceTime : Nat
  visualTime : Nat
  audibleTime : Nat
  speedThreshold : Nat
  reissueInterval : Nat
  holdLimit : Nat
  firstDelay : Nat
  repeatTime : Nat
  ecoTime : Nat
  trigger : PerPort Nat
  ageLimit : PerPort Nat
deriving DecidableEq, Repr

/-- The live configuration: map, profiles and settings (spec 10). -/
structure LiveConfig where
  map : PerPos MapEntry
  profiles : Vector Profile 4
  settings : Settings
deriving DecidableEq, Repr

/-- The nonvolatile store (R148): the completion mark, and the bytes and CRC a save writes. -/
structure Store where
  complete : Bool
  image : StoreImage
deriving DecidableEq, Repr

/-! ## Samples -/

/-- A tag record (R57). The orientation is the two-bit code of R154, 3 being no valid code. -/
structure TagRecord where
  id : BitVec 32
  orientation : BitVec 2
  weak : Bool
  mass : Byte
deriving DecidableEq, Repr

/-- A slot sample as a node sends it or a tester injects it (R35, R132): the raw fields at full width. -/
structure SlotSample where
  statusFault : Bool
  buckle : BitVec 2
  load : Nat
  cells : Nat
  peak : Nat
  tags : List TagRecord
deriving DecidableEq, Repr

/-! ## The record of one position -/

/-- Load Conditioner state of a position (spec 03, 3.1). F is always floor(F16 / 16) and is computed.
Log entry 21 (DEDUCED). -/
structure LoadRec where
  w : Nat
  f16 : Nat
  seeded : Bool
  band : Nat
  n : Nat
  k : Nat
deriving DecidableEq, Repr

/-- Child Seat Recognizer state of a position (spec 04, 4.1). -/
structure ChildRec where
  accepted : ChildSeat
  pending : ChildSeat
  pendingCount : Nat
  dropout : Nat
  tags : List TagRecord
  loadFlag : Bool
deriving DecidableEq, Repr

/-- Occupant Classifier state of a position (R72). -/
structure ClassRec where
  stable : OccClass
  cause : FaultCause
  candidate : OccClass
  agreement : Nat
  lastInstant : OccClass
  sequence : BitVec 8
  resolveMark : Bool
deriving DecidableEq, Repr

/-- Buckle decoder state of a position (spec 06, 6.1). -/
structure BeltRec where
  belt : Belt
  pending : Belt
  count : Nat
deriving DecidableEq, Repr

/-- Reminder machine state of a position (R92). -/
structure ReminderRec where
  step : ReminderStep
  timer : Nat
  confirmed : Bool
  reissues : Nat
  scans : Nat
deriving DecidableEq, Repr

/-- Everything the part holds for one position: fit state and capabilities in effect (R5, R7), the blocks'
records, the watched flag (R125) and the injection (R132). -/
structure PosRec where
  fit : FitState
  childCap : Bool
  beltCap : Bool
  load : LoadRec
  child : ChildRec
  cls : ClassRec
  buckle : BeltRec
  reminder : ReminderRec
  watched : Bool
  injection : Option SlotSample
deriving DecidableEq, Repr

/-! ## The blocks -/

/-- What a valid IDENTITY reply recorded: identity, slot count and, per slot, tag reader and buckle sensor. -/
structure NodeIdentity where
  id : BitVec 24
  slots : Nat
  caps : List (Bool × Bool)
deriving DecidableEq, Repr

/-- A node record (spec 02, 2.5). -/
structure NodeRec where
  state : NodeState
  misses : Nat
  identity : Option NodeIdentity
  verdict : Verdict
  timeouts : Nat
  crcErrors : Nat
  formatErrors : Nat
deriving DecidableEq, Repr

/-- An exchange in progress on a seat line: the polled address, the poll command and the poll frame sent. -/
structure Exchange where
  address : Fin 6
  command : PollCommand
  frame : List Byte
deriving DecidableEq, Repr

/-- One seat line: its six node records and the exchange in progress, if any. -/
structure LineState where
  nodes : Vector NodeRec 6
  exchange : Option Exchange
deriving DecidableEq, Repr

/-- The Line Scanner (spec 02). `probing` says whether the scan running now is a probe scan (R22). Log entry 21 (DEDUCED). -/
structure Scanner where
  number : Half
  timer : Option Nat
  probeCount : Nat
  firstScan : Bool
  probing : Bool
  lines : PerLine LineState
deriving DecidableEq, Repr

/-- The staging area and the deferred-commit flag, with which the staging lock is held (R8). -/
structure Staging where
  entries : PerPos (Option MapEntry)
  deferred : Bool
deriving DecidableEq, Repr

/-- A zero capture in flight (spec 03, 3.5). -/
structure Capture where
  position : Pos
  count : Nat
  sum : Nat
deriving DecidableEq, Repr

/-- What a snapshot holds for one position (R117). -/
structure SnapshotEntry where
  stable : OccClass
  belt : Belt
  child : ChildSeat
deriving DecidableEq, Repr

/-- A snapshot (R117). -/
structure Snapshot where
  number : Nat
  scan : Half
  suppression : Suppression
  table : PerPos SnapshotEntry
deriving DecidableEq, Repr

/-- The decision line PSO (R109). Alternating carries the present level (true is high) and the quanta left
of the present half. Log entry 26 (DESIGN CHOICE). -/
inductive Pso where
  | low
  | high
  | alternating (level : Bool) (left : Nat)
deriving DecidableEq, Repr

/-- The Restraint Interface (spec 07). HOLD is active exactly while the hold timer runs. -/
structure Restraint where
  suppression : Suppression
  sequence : BitVec 8
  hold : Option Nat
  holdCount : Nat
  lastExpired : Bool
  snapshots : List Snapshot
  pso : Pso
deriving DecidableEq, Repr

/-- The Vehicle State Unit (spec 08). The state is FRESH exactly while the freshness timer runs, and the
watch is active exactly while the watch timer runs; standstill is computed from these (R124). -/
structure Vehicle where
  ignition : Ignition
  speed : Nat
  gear : Gear
  door : Door
  freshTimer : Option Nat
  watch : Option Nat
  mode : ScanMode
  eco : Option Nat
  testMode : Bool
deriving DecidableEq, Repr

/-- The frame assembler of a port (R134). -/
inductive Assembler where
  | idle
  | assembling (received : List Byte)
  | discarding
deriving DecidableEq, Repr

/-- A queued notice (R141) with the quanta it has waited since its time of entry. Log entry 33 (PRESUMED). -/
structure Notice where
  kind : NoticeKind
  subject : Nat
  payload : Half
  scan : Half
  waited : Nat
deriving DecidableEq, Repr

/-- One port (spec 09). `reply` holds the reply in progress as the bytes sent, check byte included. -/
structure PortState where
  assembler : Assembler
  reply : Option (List Byte)
  queue : List Notice
  overflow : Bool
  drops : Nat
  attention : Bool
deriving DecidableEq, Repr

/-- Where the part stands about resets (R152, R153): running, RESET_N held low, the start-up load running, or
the reply to RESET PART being sent. -/
inductive Phase where
  | running
  | resetLow
  | loading
  | resetReply
deriving DecidableEq, Repr

/-! ## The state -/

/-- The whole part. `pending` is the queue of waiting commands, first in first out, `incoming` the characters that have
reached the receive pins of the ports and wait to be taken, first in first out (log entry 13), and `freeCount` the counter the
model's free choices are taken from (log entry 4); all three are the model's own. -/
structure State where
  phase : Phase
  config : LiveConfig
  configState : ConfigState
  store : Store
  saveImage : Option StoreImage
  staging : Staging
  scanner : Scanner
  positions : PerPos PosRec
  capture : Option Capture
  reminderTimer : Option Nat
  restraint : Restraint
  vehicle : Vehicle
  ports : PerPort PortState
  freeCount : Nat
  incoming : List (Port × Byte)
  pending : List Instr
deriving DecidableEq, Repr

/-- Faults of the model. -/
inductive Fault where
  /-- Raised by the meaning of UNKNOWN COMMAND alone, for a term whose command byte names a command (R137): no
  frame of that row exists. Safe: the machine stops where the part has no such event. -/
  | notThatRow
deriving DecidableEq, Repr

/-- Refusals of the model. -/
inductive Refusal where
  /-- Raised by exec for a row that has no meaning yet. Safe. No arm of this model raises it. -/
  | notModelled (mnemonic : String)
deriving DecidableEq, Repr

/-! ## Accessors -/

namespace PerPos

/-- The table whose entry at p is `f p`. -/
def ofFn {α : Type} (f : Pos → α) : PerPos α :=
  #v[f 0, f 1, f 2, f 3, f 4, f 5, f 6, f 7, f 8, f 9, f 10, f 11, f 12, f 13, f 14, f 15]

end PerPos

/-- The positions in ascending order. -/
def allPos : List Pos := [0, 1, 2, 3, 4, 5, 6, 7, 8, 9, 10, 11, 12, 13, 14, 15]

namespace PerLine

/-- The entry of a line. -/
def get {α : Type} (t : PerLine α) : Line → α
  | .a => t.a
  | .b => t.b

/-- The table with one line's entry replaced. -/
def set {α : Type} (t : PerLine α) (l : Line) (x : α) : PerLine α :=
  match l with
  | .a => { t with a := x }
  | .b => { t with b := x }

end PerLine

namespace PerPort

/-- The entry of a port. -/
def get {α : Type} (t : PerPort α) : Port → α
  | .safety => t.safety
  | .cabin => t.cabin
  | .service => t.service

/-- The table with one port's entry replaced. -/
def set {α : Type} (t : PerPort α) (p : Port) (x : α) : PerPort α :=
  match p with
  | .safety => { t with safety := x }
  | .cabin => { t with cabin := x }
  | .service => { t with service := x }

end PerPort

/-- The record of a position. -/
def State.pos (s : State) (p : Pos) : PosRec := s.positions.get p

/-- The state with one position's record replaced. -/
def State.setPos (s : State) (p : Pos) (r : PosRec) : State :=
  { s with positions := s.positions.set p.val r p.isLt }

/-- The live map entry of a position. -/
def State.entry (s : State) (p : Pos) : MapEntry := s.config.map.get p

/-- The live profile that a position's entry selects. -/
def State.profileOf (s : State) (p : Pos) : Profile := s.config.profiles.get (s.entry p).profile

/-- The node record at a line and address. -/
def State.node (s : State) (l : Line) (a : Fin 6) : NodeRec := (s.scanner.lines.get l).nodes.get a

/-- The state with one line's state replaced. -/
def State.setLine (s : State) (l : Line) (x : LineState) : State :=
  { s with scanner := { s.scanner with lines := s.scanner.lines.set l x } }

/-- The state with one node record replaced. -/
def State.setNode (s : State) (l : Line) (a : Fin 6) (r : NodeRec) : State :=
  let ls := s.scanner.lines.get l
  s.setLine l { ls with nodes := ls.nodes.set a.val r a.isLt }

/-- The state of a port. -/
def State.port (s : State) (p : Port) : PortState := s.ports.get p

/-- The state with one port's state replaced. -/
def State.setPort (s : State) (p : Port) (x : PortState) : State :=
  { s with ports := s.ports.set p x }

/-! ## Reset values -/

/-- Load Conditioner values after a reset or an unseeding event (R44, R54). -/
def LoadRec.cleared : LoadRec := { w := 0, f16 := 0, seeded := false, band := 0, n := 0, k := 0 }

/-- Recognizer values after a reset or without the capability (R68, R70). -/
def ChildRec.cleared : ChildRec :=
  { accepted := .none, pending := .none, pendingCount := 0, dropout := 0, tags := [], loadFlag := false }

/-- Classifier values after a reset (R88), with a given record sequence. Log entry 28 (DEDUCED). -/
def ClassRec.fresh (enabled : Bool) (sequence : BitVec 8) : ClassRec :=
  let c := if enabled then OccClass.unresolved else OccClass.absent
  { stable := c, cause := .none, candidate := c, agreement := 0, lastInstant := .unresolved,
    sequence := sequence, resolveMark := false }

/-- Buckle decoder values after a reset or without the capability (R91, R106). -/
def BeltRec.cleared : BeltRec := { belt := .none, pending := .none, count := 0 }

/-- Reminder values after a reset (R106). -/
def ReminderRec.cleared : ReminderRec :=
  { step := .idle, timer := 0, confirmed := false, reissues := 0, scans := 0 }

/-- A position's record after a reset (R18, R54, R70, R88, R106, R133), with a given record sequence. -/
def PosRec.fresh (enabled : Bool) (sequence : BitVec 8) : PosRec :=
  { fit := .unchecked, childCap := false, beltCap := false, load := .cleared, child := .cleared,
    cls := .fresh enabled sequence, buckle := .cleared, reminder := .cleared, watched := false,
    injection := none }

/-- A node record after a reset (R27). -/
def NodeRec.fresh : NodeRec :=
  { state := .unseen, misses := 0, identity := none, verdict := .none, timeouts := 0, crcErrors := 0,
    formatErrors := 0 }

/-- A seat line after a reset (R38). -/
def LineState.fresh : LineState :=
  { nodes := #v[.fresh, .fresh, .fresh, .fresh, .fresh, .fresh], exchange := none }

/-- A port after a reset (R147). -/
def PortState.fresh : PortState :=
  { assembler := .idle, reply := none, queue := [], overflow := false, drops := 0, attention := false }

/-- The Vehicle State Unit after a reset (R133). -/
def Vehicle.fresh : Vehicle :=
  { ignition := .unknown, speed := 0, gear := .other, door := .closed, freshTimer := none, watch := none,
    mode := .run, eco := none, testMode := false }

/-- The staging area after a reset (R18). -/
def Staging.empty : Staging := { entries := PerPos.ofFn fun _ => none, deferred := false }

/-- PSO as it begins to alternate: a high half of 50 ms (R109). -/
def Pso.startAlternating : Pso := .alternating true Config.psoHalf

/-! ## The default configuration (R3, R46, R67, R76, R148) -/

/-- The row the default map gives a position (R3). -/
def defaultRow (p : Pos) : Nat :=
  if p.val < 3 then 1 else if p.val < 6 then 2 else if p.val < 9 then 3 else if p.val < 12 then 4 else 5

/-- The default map entry of a position (R3). -/
def defaultEntry (p : Pos) : MapEntry :=
  { enabled := p = 0 ∨ p = 2
    kind := if p = 0 then .driver else if p.val < 3 then .front else .rear
    row := defaultRow p
    line := .a
    address := if p = 2 then 1 else 0
    slot := 0
    identity := 0
    matchMode := .any
    childCapable := p = 2
    airbagZone := p = 2
    beltSensed := p = 0 ∨ p = 2
    reminderClass := if p = 0 ∨ p = 2 then .full else .none
    profile := 0
    z := 0
    g := 1024
    k := 2 }

/-- The default profile (R46, R67, R76). -/
def defaultProfile : Profile :=
  { t1u := 60, t1d := 40, t2u := 360, t2d := 300, t3u := 920, t3d := 840, cinch := 100, csU := 60, csD := 30,
    nMin := 6, kRigid := 11, kHuman := 40, resolve := 3, vEmpty := 8, vObject := 6, vCsEmpty := 4, vCsRf := 2,
    vCsFf := 2, vCsUnspec := 2, vBooster := 3, vSmall := 3, vAdult := 5 }

/-- The default settings (R148). -/
def defaultSettings : Settings :=
  { graceTime := 60, visualTime := 200, audibleTime := 960, speedThreshold := 10, reissueInterval := 8,
    holdLimit := 10, firstDelay := 30, repeatTime := 60, ecoTime := 120,
    trigger := ⟨1, 1, 1⟩, ageLimit := ⟨100, 100, 100⟩ }

/-- The default configuration that a failed store check loads (R152). -/
def defaultConfig : LiveConfig :=
  { map := PerPos.ofFn defaultEntry
    profiles := #v[defaultProfile, defaultProfile, defaultProfile, defaultProfile]
    settings := defaultSettings }

/-- The store of a part in which nothing has been saved: mark INCOMPLETE and zero bytes (log entry 3). -/
def Store.unwritten : Store := { complete := false, image := { body := List.replicate 421 0, crc := 0 } }

/-- CONFIG_DEFAULTED with reason INCOMPLETE, as the first load of an unwritten store queues it (R152). -/
def Notice.firstDefaulted : Notice :=
  { kind := .configDefaulted, subject := 0, payload := 1, scan := 0, waited := 0 }

/-- The machine right after reset: power has come up and the start-up load has ended, with nothing in the
store (R18, R38, R54, R70, R88, R106, R121, R133, R147, R152; log entry 3). -/
def State.reset : State :=
  { phase := .running
    config := defaultConfig
    configState := .defaulted
    store := .unwritten
    saveImage := none
    staging := .empty
    scanner := { number := 0, timer := some 0, probeCount := 0, firstScan := true, probing := false,
                 lines := ⟨.fresh, .fresh⟩ }
    positions := PerPos.ofFn fun p => .fresh (defaultEntry p).enabled 0
    capture := none
    reminderTimer := some Config.reminderSpacing
    restraint := { suppression := .indeterminate, sequence := 0, hold := none, holdCount := 0,
                   lastExpired := false, snapshots := [], pso := .startAlternating }
    vehicle := .fresh
    ports := ⟨.fresh, .fresh, { PortState.fresh with queue := [.firstDefaulted], attention := true }⟩
    freeCount := 0
    incoming := []
    pending := [] }

end Sys2Proof.Machine
end

