-- ==== Sys2Proof/Machine/Codes.lean ====
section
/-! DEFINITION. Bytes and codes: numbers as bytes, high byte first (spec 11), the code tables of spec 11.5 in
both directions, and the command codes with their operand lengths (spec 11.2). -/

namespace Sys2Proof.Machine

/-! ## Numbers as bytes -/

/-- The byte at an index of a record; 0 beyond its end. -/
def byteAt (b : List Byte) (i : Nat) : Byte := b.getD i 0

/-- One byte of a number that fits it. -/
def oneByte (n : Nat) : Byte := BitVec.ofNat 8 n

/-- A two-byte number, high byte first. -/
def twoBytes (n : Nat) : List Byte := [oneByte (n / 256), oneByte n]

/-- A 16-bit word, high byte first. -/
def halfBytes (x : Half) : List Byte := twoBytes x.toNat

/-- The number two bytes carry, high byte first. -/
def fromBytes (hi lo : Byte) : Nat := hi.toNat * 256 + lo.toNat

/-- The two-byte number at an index of a record. -/
def numberAt (b : List Byte) (i : Nat) : Nat := fromBytes (byteAt b i) (byteAt b (i + 1))

/-- A signed number as two bytes, two's complement. -/
def signedBytes (z : Int) : List Byte := twoBytes (z % 65536).toNat

/-- The signed number two bytes carry in two's complement. -/
def signedAt (b : List Byte) (i : Nat) : Int :=
  let n := numberAt b i
  if n < 32768 then (n : Int) else (n : Int) - 65536

/-- A yes/no or flag byte (spec 11.5). -/
def flagByte (b : Bool) : Byte := if b then 1 else 0

/-- A byte of flags, bit 0 first, its other bits zero: in reply data these bits are sent as zero. Log entry 38 (DESIGN CHOICE). -/
def flagsByte (fs : List Bool) : Byte :=
  oneByte (fs.foldr (fun f n => 2 * n + f.toNat) 0)

/-- The index that a byte counting from 1 to n names. -/
def indexFromOne (n : Nat) (b : Byte) : Option (Fin n) :=
  if h : 1 ≤ b.toNat ∧ b.toNat ≤ n then some ⟨b.toNat - 1, by omega⟩ else none

/-- The index that a byte counting from 0 to n - 1 names. -/
def indexFromZero (n : Nat) (b : Byte) : Option (Fin n) :=
  if h : b.toNat < n then some ⟨b.toNat, h⟩ else none

/-- The position a byte 1 to 16 names. -/
def positionOf (b : Byte) : Option Pos := indexFromOne 16 b

/-- The number of a position, 1 to 16. -/
def posNumber (p : Pos) : Nat := p.val + 1

/-! ## Codes (spec 11.5) -/

/-- Seat kind codes. -/
def SeatKind.code : SeatKind → Nat
  | .driver => 0
  | .front => 1
  | .rear => 2

/-- The seat kind of a code. -/
def SeatKind.ofCode : Nat → Option SeatKind
  | 0 => some .driver
  | 1 => some .front
  | 2 => some .rear
  | _ => none

/-- Match mode codes. -/
def MatchMode.code : MatchMode → Nat
  | .exact => 0
  | .variant => 1
  | .model => 2
  | .any => 3

/-- The match mode of a code. -/
def MatchMode.ofCode : Nat → Option MatchMode
  | 0 => some .exact
  | 1 => some .variant
  | 2 => some .model
  | 3 => some .any
  | _ => none

/-- Reminder class codes. -/
def ReminderClass.code : ReminderClass → Nat
  | .full => 0
  | .visual => 1
  | .none => 2

/-- The reminder class of a code. -/
def ReminderClass.ofCode : Nat → Option ReminderClass
  | 0 => some .full
  | 1 => some .visual
  | 2 => some .none
  | _ => Option.none

/-- Seat line codes (spec 11.2). -/
def lineCode : Line → Nat
  | .a => 0
  | .b => 1

/-- The seat line of a code. -/
def lineOfCode : Nat → Option Line
  | 0 => some .a
  | 1 => some .b
  | _ => none

/-- Fit state codes. -/
def FitState.code : FitState → Nat
  | .unchecked => 0
  | .fits => 1
  | .misfit => 2
  | .noSlot => 3

/-- Occupant class codes (R71). -/
def OccClass.code : OccClass → Nat
  | .unresolved => 0
  | .absent => 1
  | .fault => 2
  | .empty => 3
  | .object => 4
  | .csEmpty => 5
  | .csRf => 6
  | .csFf => 7
  | .csUnspec => 8
  | .booster => 9
  | .small => 10
  | .adult => 11

/-- Fault cause codes. -/
def FaultCause.code : FaultCause → Nat
  | .none => 0
  | .nodeLost => 1
  | .misfit => 2
  | .noSlot => 3
  | .matFault => 4

/-- Child-seat state codes. -/
def ChildSeat.code : ChildSeat → Nat
  | .none => 0
  | .baseOnly => 1
  | .carrierRf => 2
  | .seatRf => 3
  | .seatFf => 4
  | .seatUnspec => 5
  | .boosterSeat => 6
  | .conflict => 7

/-- Belt state codes. -/
def Belt.code : Belt → Nat
  | .none => 0
  | .latched => 1
  | .unlatched => 2
  | .fault => 3

/-- Reminder state codes. -/
def ReminderStep.code : ReminderStep → Nat
  | .idle => 0
  | .grace => 1
  | .visual => 2
  | .audible => 3
  | .muted => 4
  | .lapsed => 5

/-- Node state codes. -/
def NodeState.code : NodeState → Nat
  | .unseen => 0
  | .online => 1
  | .silent => 2
  | .lost => 3

/-- Loss verdict codes. -/
def Verdict.code : Verdict → Nat
  | .none => 0
  | .absent => 1
  | .fault => 2

/-- Suppression state codes. -/
def Suppression.code : Suppression → Nat
  | .enable => 0
  | .suppress => 1
  | .indeterminate => 2

/-- Ignition codes. -/
def Ignition.code : Ignition → Nat
  | .unknown => 0
  | .off => 1
  | .acc => 2
  | .run => 3

/-- The ignition value of a code that a report may carry: UNKNOWN is none of them (R122). -/
def Ignition.ofReport : Nat → Option Ignition
  | 1 => some .off
  | 2 => some .acc
  | 3 => some .run
  | _ => none

/-- Gear codes. -/
def Gear.code : Gear → Nat
  | .park => 0
  | .other => 1

/-- The gear of a code. -/
def Gear.ofCode : Nat → Option Gear
  | 0 => some .park
  | 1 => some .other
  | _ => none

/-- Driver door codes. -/
def Door.code : Door → Nat
  | .closed => 0
  | .opened => 1

/-- The driver door of a code. -/
def Door.ofCode : Nat → Option Door
  | 0 => some .closed
  | 1 => some .opened
  | _ => none

/-- Scan mode codes. -/
def ScanMode.code : ScanMode → Nat
  | .run => 0
  | .eco => 1

/-- Configuration state codes. -/
def ConfigState.code : ConfigState → Nat
  | .loaded => 0
  | .defaulted => 1

/-- Port codes of IDENTIFY PART (spec 11.4). -/
def portCode : Port → Nat
  | .safety => 0
  | .cabin => 1
  | .service => 2

/-- Notice kind codes (spec 11.4); 00h is NONE. -/
def NoticeKind.code : NoticeKind → Nat
  | .classChanged => 1
  | .suppressionChanged => 2
  | .holdExpired => 3
  | .beltChanged => 4
  | .reminderChanged => 5
  | .audibleRequest => 6
  | .leftBehind => 7
  | .nodeChanged => 8
  | .commitApplied => 9
  | .captureDone => 10
  | .saveDone => 11
  | .configDefaulted => 12
  | .testModeEnded => 13

/-- The status byte of a reply (R137). -/
inductive Status where
  | ok
  | accepted
  | deferred
  | badCheck
  | unknown
  | notPermitted
  | badArg
  | busy
  | locked
  | conflict
  | tooLate
deriving DecidableEq, Repr

/-- Status codes (R137). -/
def Status.code : Status → Nat
  | .ok => 0x00
  | .accepted => 0x01
  | .deferred => 0x02
  | .badCheck => 0x10
  | .unknown => 0x11
  | .notPermitted => 0x12
  | .badArg => 0x13
  | .busy => 0x14
  | .locked => 0x15
  | .conflict => 0x16
  | .tooLate => 0x17

/-! ## Command codes (spec 11.2) -/

/-- The operand length of each command code; none for a byte that names no command (R134). -/
def operandLength (cmd : Byte) : Option Nat :=
  match cmd.toNat with
  | 0x01 => some 0
  | 0x02 => some 0
  | 0x03 => some 0
  | 0x04 => some 1
  | 0x05 => some 0
  | 0x20 => some 0
  | 0x21 => some 0
  | 0x22 => some 0
  | 0x23 => some 1
  | 0x24 => some 0
  | 0x40 => some 4
  | 0x41 => some 1
  | 0x42 => some 1
  | 0x43 => some 0
  | 0x60 => some 1
  | 0x61 => some 1
  | 0x62 => some 18
  | 0x63 => some 2
  | 0x64 => some 0
  | 0x65 => some 0
  | 0x66 => some 1
  | 0x67 => some 1
  | 0x68 => some 32
  | 0x69 => some 0
  | 0x6A => some 24
  | 0x6B => some 0
  | 0x6C => some 2
  | 0x6D => some 1
  | 0x6E => some 21
  | 0x6F => some 1
  | 0x70 => some 0
  | 0x71 => some 0
  | _ => none

/-- The length of a frame, which its command byte alone decides (R134): an unknown command makes two bytes. -/
def frameLength (cmd : Byte) : Nat :=
  match operandLength cmd with
  | some n => n + 2
  | none => 2

/-- Whether a port has the right to a command code (R138). -/
def permitted (p : Port) (cmd : Byte) : Bool :=
  let c := cmd.toNat
  (0x01 ≤ c && c ≤ 0x05) ||
    match p with
    | .safety => 0x20 ≤ c && c ≤ 0x24
    | .cabin => 0x40 ≤ c && c ≤ 0x43
    | .service => 0x60 ≤ c && c ≤ 0x71

/-- The sum of the bytes of a frame, modulo 256 (R137). -/
def byteSum (bs : List Byte) : Byte := bs.foldl (· + ·) 0

/-- The check byte that makes a frame's byte sum 0 modulo 256 (R137). -/
def checkByte (bs : List Byte) : Byte := - byteSum bs

end Sys2Proof.Machine
end

