-- ==== Sys2Proof/Decode.lean ====
section
/-! DEFINITION. Decoding. spec/opcode_table.json gives no row any bits, so no word spells a command. The frames of the port
commands (R134, spec 11.2) are written and read here by their bytes. -/

namespace Sys2Proof

/-- The command that a word spells by the table's bits. The table gives no row bits: none. Log entry 31 (DESIGN CHOICE). -/
def decodeTableWord (_nbits _w : Nat) : Option Instr := none

open Machine in
/-- The bytes of a command frame on a port: command byte, operands, check byte (R134, spec 11.2). None for an event. -/
def Instr.frame : Instr → Option (List Byte)
  | .powerOn | .resetLineAssert | .resetLineRelease | .configurationLoadEnd | .scanTick | .replyWindowClose _
  | .seatReplyReceived _ _ | .seatReplyGap _ _ | .exchangeLimit _ _ | .reminderTick | .graceTimerExpiry _
  | .visualTimerExpiry _ | .audibleTimerExpiry _ | .holdTimerExpiry | .freshnessTimerExpiry | .watchTimerExpiry
  | .ecoCountdownExpiry | .ageLimitReached _ | .saveEnd _ | .interByteLimit _ | .frameDiscarded _
  | .discardingGapEnd _ | .resetPartReplySent | .replyEnd _ => none
  | .unknownCommand _ cmd chk => some [cmd, chk]
  | .identifyPart _ chk => some [0x01, chk]
  | .readStatus _ chk => some [0x02, chk]
  | .readSummary _ chk => some [0x03, chk]
  | .readPosition _ n chk => some [0x04, n, chk]
  | .readNotice _ chk => some [0x05, chk]
  | .readSuppression _ chk => some [0x20, chk]
  | .hold _ chk => some [0x21, chk]
  | .release _ chk => some [0x22, chk]
  | .readSnapshot _ d chk => some [0x23, d, chk]
  | .popSnapshot _ chk => some [0x24, chk]
  | .vehicleState _ ignition speed gear door chk => some [0x40, ignition, speed, gear, door, chk]
  | .confirmAudible _ n chk => some [0x41, n, chk]
  | .mute _ n chk => some [0x42, n, chk]
  | .dismissLeftBehind _ chk => some [0x43, chk]
  | .readMapEntry _ n chk => some [0x60, n, chk]
  | .readStaged _ n chk => some [0x61, n, chk]
  | .stageEntry _ n entry chk => some (0x62 :: n :: entry.toList ++ [chk])
  | .swapBindings _ a b chk => some [0x63, a, b, chk]
  | .discardStage _ chk => some [0x64, chk]
  | .commitMap _ chk => some [0x65, chk]
  | .zeroCapture _ n chk => some [0x66, n, chk]
  | .readProfile _ n chk => some [0x67, n, chk]
  | .setProfile _ n profile chk => some (0x68 :: n :: profile.toList ++ [chk])
  | .readSettings _ chk => some [0x69, chk]
  | .setSettings _ settings chk => some (0x6A :: settings.toList ++ [chk])
  | .saveConfig _ chk => some [0x6B, chk]
  | .readNode _ line address chk => some [0x6C, line, address, chk]
  | .testModeOn _ operand chk => some [0x6D, operand, chk]
  | .testModeOff _ chk => some [0x6D, 0x00, chk]
  | .injectSample _ n sample chk => some (0x6E :: n :: sample.toList ++ [chk])
  | .endInject _ n chk => some [0x6F, n, chk]
  | .clearSnapshots _ chk => some [0x70, chk]
  | .resetPart _ chk => some [0x71, chk]

/-- The operands of a frame as a vector of a fixed number of bytes, from an index. -/
def operandVector (n : Nat) (b : List Byte) (i : Nat) : Vector Byte n := Vector.ofFn fun j => b.getD (i + j.val) 0

open Machine in
/-- The command that the bytes of a complete frame on a port spell; none when their number is not the length that the
command byte decides (R134). -/
def decodeFrame (p : Port) (b : List Byte) : Option Instr :=
  match b with
  | [] => none
  | cmd :: rest =>
    if b.length = frameLength cmd then
      let x (i : Nat) : Byte := rest.getD i 0
      let chk := rest.getLastD 0
      match cmd.toNat with
      | 0x01 => some (.identifyPart p chk)
      | 0x02 => some (.readStatus p chk)
      | 0x03 => some (.readSummary p chk)
      | 0x04 => some (.readPosition p (x 0) chk)
      | 0x05 => some (.readNotice p chk)
      | 0x20 => some (.readSuppression p chk)
      | 0x21 => some (.hold p chk)
      | 0x22 => some (.release p chk)
      | 0x23 => some (.readSnapshot p (x 0) chk)
      | 0x24 => some (.popSnapshot p chk)
      | 0x40 => some (.vehicleState p (x 0) (x 1) (x 2) (x 3) chk)
      | 0x41 => some (.confirmAudible p (x 0) chk)
      | 0x42 => some (.mute p (x 0) chk)
      | 0x43 => some (.dismissLeftBehind p chk)
      | 0x60 => some (.readMapEntry p (x 0) chk)
      | 0x61 => some (.readStaged p (x 0) chk)
      | 0x62 => some (.stageEntry p (x 0) (operandVector 17 rest 1) chk)
      | 0x63 => some (.swapBindings p (x 0) (x 1) chk)
      | 0x64 => some (.discardStage p chk)
      | 0x65 => some (.commitMap p chk)
      | 0x66 => some (.zeroCapture p (x 0) chk)
      | 0x67 => some (.readProfile p (x 0) chk)
      | 0x68 => some (.setProfile p (x 0) (operandVector 31 rest 1) chk)
      | 0x69 => some (.readSettings p chk)
      | 0x6A => some (.setSettings p (operandVector 24 rest 0) chk)
      | 0x6B => some (.saveConfig p chk)
      | 0x6C => some (.readNode p (x 0) (x 1) chk)
      | 0x6D => some (if x 0 = 0 then .testModeOff p chk else .testModeOn p (x 0) chk)
      | 0x6E => some (.injectSample p (x 0) (operandVector 20 rest 1) chk)
      | 0x6F => some (.endInject p (x 0) chk)
      | 0x70 => some (.clearSnapshots p chk)
      | 0x71 => some (.resetPart p chk)
      | _ => some (.unknownCommand p cmd chk)
    else none

end Sys2Proof
end

