-- ==== Sys2Proof/Machine/Operands.lean ====
section
/-! DEFINITION. The records that frames and the store carry, read from bytes and written to bytes (spec 11.1,
11.3): map entries, profiles, settings, tag records and samples; and the CRC-16 of R24. -/

namespace Sys2Proof.Machine

/-! ## CRC-16 (R24) -/

/-- One of the eight steps of the CRC register. -/
def crcStep (r : Half) : Half :=
  if r.getLsbD 15 then (r <<< 1) ^^^ 0x3D65 else r <<< 1

/-- n steps of the CRC register. -/
def crcSteps : Nat → Half → Half
  | 0, r => r
  | n + 1, r => crcSteps n (crcStep r)

/-- The register after one byte of the covered span. -/
def crcByte (r : Half) (b : Byte) : Half := crcSteps 8 (r ^^^ (b.zeroExtend 16 <<< 8))

/-- The CRC-16 over a span, starting at FFFFh. -/
def crc16 (bs : List Byte) : Half := bs.foldl crcByte 0xFFFF

/-! ## Ranges (R1, R46, R67, R76, R148) -/

/-- Whether a number lies within a to b. -/
def within (a b n : Nat) : Bool := a ≤ n && n ≤ b

/-- The fields of a map entry that are numbers lie in their ranges (R1). -/
def MapEntry.inRange (e : MapEntry) : Bool :=
  within 1 5 e.row && (-512 ≤ e.z && e.z ≤ 511) && within 896 1152 e.g && e.k ≤ 4

/-- The band thresholds lie in range and keep the order of R46. -/
def Profile.bandsOk (p : Profile) : Bool :=
  within 1 4000 p.t1u && within 1 4000 p.t1d && within 1 4000 p.t2u && within 1 4000 p.t2d &&
  within 1 4000 p.t3u && within 1 4000 p.t3d &&
  (p.t1d < p.t1u && p.t1u ≤ p.t2d && p.t2d < p.t2u && p.t2u ≤ p.t3d && p.t3d < p.t3u)

/-- The child-seat parameters lie in range, with CSd below CSu (R67). -/
def Profile.childOk (p : Profile) : Bool :=
  p.cinch ≤ 400 && within 1 4000 p.csU && p.csD ≤ 3999 && p.csD < p.csU

/-- The classification parameters lie in range (R76). -/
def Profile.votesOk (p : Profile) : Bool :=
  within 1 16 p.nMin && p.kRigid ≤ 255 && p.kHuman ≤ 255 && within 1 15 p.resolve &&
  within 1 15 p.vEmpty && within 1 15 p.vObject && within 1 15 p.vCsEmpty && within 1 15 p.vCsRf &&
  within 1 15 p.vCsFf && within 1 15 p.vCsUnspec && within 1 15 p.vBooster && within 1 15 p.vSmall &&
  within 1 15 p.vAdult

/-- A profile that SET PROFILE takes and a stored profile that passes the store check (R149, R152). -/
def Profile.valid (p : Profile) : Bool := p.bandsOk && p.childOk && p.votesOk

/-- Settings within the ranges and sets of R148. -/
def Settings.valid (s : Settings) : Bool :=
  s.graceTime ≤ 600 && s.visualTime ≤ 1200 && s.audibleTime ≤ 1800 && s.speedThreshold ≤ 60 &&
  [1, 4, 8, 16].contains s.reissueInterval && within 1 60 s.holdLimit && within 10 300 s.firstDelay &&
  within 10 300 s.repeatTime && [30, 120, 300, 900].contains s.ecoTime &&
  within 1 8 s.trigger.safety && within 1 8 s.trigger.cabin && within 1 8 s.trigger.service &&
  within 10 1000 s.ageLimit.safety && within 10 1000 s.ageLimit.cabin && within 10 1000 s.ageLimit.service

/-! ## Map entries (spec 11.3) -/

/-- A 24-bit identity as its three bytes: model, variant with serial bits 11 to 8, serial bits 7 to 0. -/
def identityBytes (x : BitVec 24) : List Byte :=
  [x.extractLsb' 16 8, x.extractLsb' 8 8, x.extractLsb' 0 8]

/-- The identity that three bytes carry. -/
def identityAt (b : List Byte) (i : Nat) : BitVec 24 := byteAt b i ++ byteAt b (i + 1) ++ byteAt b (i + 2)

/-- A map entry as 17 bytes. -/
def MapEntry.bytes (e : MapEntry) : List Byte :=
  [flagsByte [e.enabled, e.childCapable, e.airbagZone, e.beltSensed], oneByte e.kind.code, oneByte e.row,
    oneByte (lineCode e.line), oneByte (e.address.val + 1), oneByte (e.slot.val + 1)] ++
  identityBytes e.identity ++
  [oneByte e.matchMode.code, oneByte e.reminderClass.code, oneByte e.profile.val] ++
  signedBytes e.z ++ twoBytes e.g ++ [oneByte e.k]

/-- The map entry that 17 bytes carry, when every field is in its range or set; a flags byte with any of bits
7 to 4 set is outside its set (R155). -/
def MapEntry.ofBytes (b : List Byte) : Option MapEntry := do
  let kind ← SeatKind.ofCode (byteAt b 1).toNat
  let line ← lineOfCode (byteAt b 3).toNat
  let address ← indexFromOne 6 (byteAt b 4)
  let slot ← indexFromOne 4 (byteAt b 5)
  let matchMode ← MatchMode.ofCode (byteAt b 9).toNat
  let reminderClass ← ReminderClass.ofCode (byteAt b 10).toNat
  let profile ← indexFromZero 4 (byteAt b 11)
  let flags := byteAt b 0
  let e : MapEntry :=
    { enabled := flags.getLsbD 0, kind := kind, row := (byteAt b 2).toNat, line := line, address := address,
      slot := slot, identity := identityAt b 6, matchMode := matchMode, childCapable := flags.getLsbD 1,
      airbagZone := flags.getLsbD 2, beltSensed := flags.getLsbD 3, reminderClass := reminderClass,
      profile := profile, z := signedAt b 12, g := numberAt b 14, k := (byteAt b 16).toNat }
  if b.length = 17 ∧ flags.toNat < 16 ∧ e.inRange then some e else none

/-! ## Profiles (spec 11.3) -/

/-- A profile as 31 bytes. -/
def Profile.bytes (p : Profile) : List Byte :=
  twoBytes p.t1u ++ twoBytes p.t1d ++ twoBytes p.t2u ++ twoBytes p.t2d ++ twoBytes p.t3u ++ twoBytes p.t3d ++
  twoBytes p.cinch ++ twoBytes p.csU ++ twoBytes p.csD ++
  [oneByte p.nMin, oneByte p.kRigid, oneByte p.kHuman, oneByte p.resolve, oneByte p.vEmpty, oneByte p.vObject,
    oneByte p.vCsEmpty, oneByte p.vCsRf, oneByte p.vCsFf, oneByte p.vCsUnspec, oneByte p.vBooster,
    oneByte p.vSmall, oneByte p.vAdult]

/-- The profile that 31 bytes carry, when it is valid. -/
def Profile.ofBytes (b : List Byte) : Option Profile :=
  let p : Profile :=
    { t1u := numberAt b 0, t1d := numberAt b 2, t2u := numberAt b 4, t2d := numberAt b 6, t3u := numberAt b 8,
      t3d := numberAt b 10, cinch := numberAt b 12, csU := numberAt b 14, csD := numberAt b 16,
      nMin := (byteAt b 18).toNat, kRigid := (byteAt b 19).toNat, kHuman := (byteAt b 20).toNat,
      resolve := (byteAt b 21).toNat, vEmpty := (byteAt b 22).toNat, vObject := (byteAt b 23).toNat,
      vCsEmpty := (byteAt b 24).toNat, vCsRf := (byteAt b 25).toNat, vCsFf := (byteAt b 26).toNat,
      vCsUnspec := (byteAt b 27).toNat, vBooster := (byteAt b 28).toNat, vSmall := (byteAt b 29).toNat,
      vAdult := (byteAt b 30).toNat }
  if b.length = 31 ∧ p.valid then some p else none

/-! ## Settings (spec 11.3) -/

/-- The settings as 24 bytes. -/
def Settings.bytes (s : Settings) : List Byte :=
  twoBytes s.graceTime ++ twoBytes s.visualTime ++ twoBytes s.audibleTime ++
  [oneByte s.speedThreshold, oneByte s.reissueInterval, oneByte s.holdLimit] ++
  twoBytes s.firstDelay ++ twoBytes s.repeatTime ++ twoBytes s.ecoTime ++
  [oneByte s.trigger.safety, oneByte s.trigger.cabin, oneByte s.trigger.service] ++
  twoBytes s.ageLimit.safety ++ twoBytes s.ageLimit.cabin ++ twoBytes s.ageLimit.service

/-- The settings that 24 bytes carry, when they are valid. -/
def Settings.ofBytes (b : List Byte) : Option Settings :=
  let s : Settings :=
    { graceTime := numberAt b 0, visualTime := numberAt b 2, audibleTime := numberAt b 4,
      speedThreshold := (byteAt b 6).toNat, reissueInterval := (byteAt b 7).toNat, holdLimit := (byteAt b 8).toNat,
      firstDelay := numberAt b 9, repeatTime := numberAt b 11, ecoTime := numberAt b 13,
      trigger := ⟨(byteAt b 15).toNat, (byteAt b 16).toNat, (byteAt b 17).toNat⟩,
      ageLimit := ⟨numberAt b 18, numberAt b 20, numberAt b 22⟩ }
  if b.length = 24 ∧ s.valid then some s else none

/-! ## Tags and samples (spec 11.1) -/

/-- The tag record that six bytes at an index carry; bits 6 to 2 of its fifth byte are not consulted (R154). -/
def tagAt (b : List Byte) (i : Nat) : TagRecord :=
  { id := byteAt b i ++ byteAt b (i + 1) ++ byteAt b (i + 2) ++ byteAt b (i + 3)
    orientation := (byteAt b (i + 4)).extractLsb' 0 2
    weak := (byteAt b (i + 4)).getLsbD 7
    mass := byteAt b (i + 5) }

/-- A tag record as six bytes, with the unused bits of its fifth byte zero (log entry 6). -/
def TagRecord.bytes (t : TagRecord) : List Byte :=
  [t.id.extractLsb' 24 8, t.id.extractLsb' 16 8, t.id.extractLsb' 8 8, t.id.extractLsb' 0 8,
    oneByte (t.orientation.toNat + if t.weak then 128 else 0), t.mass]

/-- The slot block at the head of some payload bytes, and the bytes after it; none when it is cut short or its
tag count is 3 (R25 case 9, R154). -/
def takeSlotBlock (b : List Byte) : Option (SlotSample × List Byte) :=
  let status := byteAt b 0
  let tags := (status.extractLsb' 4 2).toNat
  if tags ≤ 2 ∧ 6 + 6 * tags ≤ b.length then
    some
      ({ statusFault := status.getLsbD 0, buckle := status.extractLsb' 1 2, load := numberAt b 1,
         cells := (byteAt b 3).toNat, peak := numberAt b 4,
         tags := if tags = 0 then [] else if tags = 1 then [tagAt b 6] else [tagAt b 6, tagAt b 12] },
       b.drop (6 + 6 * tags))
  else none

/-- Exactly n slot blocks, with no byte left over. -/
def takeSlotBlocks : Nat → List Byte → Option (List SlotSample)
  | 0, b => if b.isEmpty then some [] else none
  | n + 1, b =>
    match takeSlotBlock b with
    | none => none
    | some (x, rest) => (takeSlotBlocks n rest).map (x :: ·)

/-- The sample that the operands of INJECT SAMPLE after n carry, when its codes are in their sets (R132). Tag
records beyond the tag count are not kept. -/
def injectedSample (b : List Byte) : Option SlotSample :=
  let mat := (byteAt b 5).toNat
  let buckle := (byteAt b 6).toNat
  let tags := (byteAt b 7).toNat
  if mat ≤ 1 ∧ buckle ≤ 3 ∧ tags ≤ 2 then
    some
      { statusFault := mat = 1, buckle := BitVec.ofNat 2 buckle, load := numberAt b 0,
        cells := (byteAt b 2).toNat, peak := numberAt b 3,
        tags := if tags = 0 then [] else if tags = 1 then [tagAt b 8] else [tagAt b 8, tagAt b 14] }
  else none

/-- The mat-fault indication of a delivered sample (R35). -/
def SlotSample.matFault (x : SlotSample) : Bool :=
  x.statusFault || 4095 < x.load || 16 < x.cells || 1023 < x.peak

/-- The identity payload of an IDENTITY reply, when its slot count agrees with its length (R25 case 9). Bits 7
to 2 of a capability byte are not consulted (R154). -/
def identityPayload (b : List Byte) : Option NodeIdentity :=
  let slots := (byteAt b 3).toNat
  if within 1 4 slots ∧ b.length = 4 + slots then
    some { id := identityAt b 0, slots := slots,
           caps := (b.drop 4).map fun c => (c.getLsbD 0, c.getLsbD 1) }
  else none

/-! ## The map conditions (R2) -/

/-- Whether two entries have the same binding. -/
def MapEntry.sameBinding (e f : MapEntry) : Bool :=
  e.line = f.line && e.address = f.address && e.slot = f.slot

/-- Whether an entry is the enabled holder of the airbag zone (R107). -/
def MapEntry.isAirbag (e : MapEntry) : Bool := e.enabled && e.airbagZone

/-- Condition (a): no two enabled entries share a binding. -/
def bindingsDistinct (m : PerPos MapEntry) : Bool :=
  allPos.all fun p => allPos.all fun q =>
    p = q || !((m.get p).enabled && (m.get q).enabled && (m.get p).sameBinding (m.get q))

/-- Condition (b): at most one enabled entry has airbag zone YES, and it is FRONT. -/
def airbagUnique (m : PerPos MapEntry) : Bool :=
  allPos.all fun p => !(m.get p).isAirbag ||
    ((m.get p).kind = .front && allPos.all fun q => p = q || !(m.get q).isAirbag)

/-- Condition (c): position 1 is enabled and DRIVER. -/
def driverFirst (m : PerPos MapEntry) : Bool := (m.get 0).enabled && (m.get 0).kind = .driver

/-- Condition (d): no other entry is DRIVER. -/
def driverOnly (m : PerPos MapEntry) : Bool := allPos.all fun p => p = 0 || (m.get p).kind ≠ .driver

/-- Condition (e): DRIVER and FRONT entries have row 1 and REAR entries have rows 2 to 5. -/
def rowsAgree (m : PerPos MapEntry) : Bool :=
  allPos.all fun p =>
    if (m.get p).kind = .rear then within 2 5 (m.get p).row else (m.get p).row = 1

/-- The five conditions of R2. -/
def mapConsistent (m : PerPos MapEntry) : Bool :=
  bindingsDistinct m && airbagUnique m && driverFirst m && driverOnly m && rowsAgree m

/-! ## The store (R148, R152) -/

/-- The profiles in order. -/
def LiveConfig.profileList (c : LiveConfig) : List Profile :=
  [c.profiles.get 0, c.profiles.get 1, c.profiles.get 2, c.profiles.get 3]

/-- Items (2) to (5) of R148 as bytes: version, 16 map entries, four profiles, settings (log entry 7). -/
def LiveConfig.body (c : LiveConfig) : List Byte :=
  Config.formatVersion :: (allPos.flatMap fun p => (c.map.get p).bytes) ++
    (c.profileList.flatMap Profile.bytes) ++ c.settings.bytes

/-- The save image of a live configuration (R151). -/
def LiveConfig.image (c : LiveConfig) : StoreImage := { body := c.body, crc := crc16 c.body }

/-- The bytes of a body from an offset, as many as asked. -/
def slice (b : List Byte) (offset length : Nat) : List Byte := (b.drop offset).take length

/-- The map that a store body carries, when every field is in range. -/
def storedMap (b : List Byte) : Option (PerPos MapEntry) := do
  let e (i : Nat) : Option MapEntry := MapEntry.ofBytes (slice b (1 + 17 * i) 17)
  let e0 ← e 0
  let e1 ← e 1
  let e2 ← e 2
  let e3 ← e 3
  let e4 ← e 4
  let e5 ← e 5
  let e6 ← e 6
  let e7 ← e 7
  let e8 ← e 8
  let e9 ← e 9
  let e10 ← e 10
  let e11 ← e 11
  let e12 ← e 12
  let e13 ← e 13
  let e14 ← e 14
  let e15 ← e 15
  some #v[e0, e1, e2, e3, e4, e5, e6, e7, e8, e9, e10, e11, e12, e13, e14, e15]

/-- The configuration that a store body carries, when every field is in range and every profile in order
(check 4 of R152). -/
def storedConfig (b : List Byte) : Option LiveConfig := do
  let map ← storedMap b
  let p0 ← Profile.ofBytes (slice b 273 31)
  let p1 ← Profile.ofBytes (slice b 304 31)
  let p2 ← Profile.ofBytes (slice b 335 31)
  let p3 ← Profile.ofBytes (slice b 366 31)
  let settings ← Settings.ofBytes (slice b 397 24)
  if b.length = 421 then some { map := map, profiles := #v[p0, p1, p2, p3], settings := settings } else none

/-- Why a store is not loaded (R152). -/
inductive LoadFailure where
  | incomplete
  | crc
  | version
  | range
  | mapConflict
deriving DecidableEq, Repr

/-- The reason codes of CONFIG_DEFAULTED (spec 11.4). -/
def LoadFailure.code : LoadFailure → Nat
  | .incomplete => 1
  | .crc => 2
  | .version => 3
  | .range => 4
  | .mapConflict => 5

/-- The five checks of the start-up load in order, stopping at the first failure (R152). -/
def checkStore (s : Store) : Except LoadFailure LiveConfig :=
  if !s.complete then .error .incomplete
  else if crc16 s.image.body ≠ s.image.crc then .error .crc
  else if byteAt s.image.body 0 ≠ Config.formatVersion then .error .version
  else
    match storedConfig s.image.body with
    | none => .error .range
    | some c => if mapConsistent c.map then .ok c else .error .mapConflict

end Sys2Proof.Machine
end

