-- ==== Sys2Proof/Machine/Flags.lean ====
section
/-! DEFINITION. The judgements that several blocks read: standstill, freshness, what is in flight, the groups of
classes, the airbag position, the conditions of the eco countdown, and the service gate. -/

namespace Sys2Proof.Machine

/-! ## Vehicle state -/

/-- The vehicle state is FRESH while the freshness timer runs (R122, R123). -/
def Vehicle.isFresh (v : Vehicle) : Bool := v.freshTimer.isSome

/-- Standstill (R124). -/
def Vehicle.standstill (v : Vehicle) : Bool :=
  v.isFresh && (v.ignition ≠ .run || (v.speed = 0 && v.gear = .park))

/-- Standstill as the blocks read it. -/
def State.standstill (s : State) : Bool := s.vehicle.standstill

/-- Ignition RUN and speed at or above the threshold (R93). -/
def State.underway (s : State) : Bool :=
  s.vehicle.ignition = .run && s.config.settings.speedThreshold ≤ s.vehicle.speed

/-! ## What is in flight -/

/-- HOLD is active while the hold timer runs (R111, R114, R115). -/
def State.holdActive (s : State) : Bool := s.restraint.hold.isSome

/-- A save is in flight while its image is held (R151). -/
def State.saving (s : State) : Bool := s.saveImage.isSome

/-- The watch is active while its timer runs (R125, R128). -/
def State.watching (s : State) : Bool := s.vehicle.watch.isSome

/-- Every position's reminder state is IDLE (R129). -/
def State.remindersIdle (s : State) : Bool := allPos.all fun p => (s.pos p).reminder.step = .idle

/-- The conditions under which the eco countdown runs (R129). -/
def State.ecoConditions (s : State) : Bool :=
  s.vehicle.mode = .run && s.vehicle.ignition = .off && !s.watching && !s.holdActive && s.capture.isNone &&
  !s.saving && !s.staging.deferred && s.remindersIdle

/-- The eco countdown's full time (R129). -/
def State.ecoFull (s : State) : Nat := s.config.settings.ecoTime * 1000 * Config.quantaPerMs

/-! ## Classes -/

/-- Reminder-eligible classes (R71). -/
def OccClass.eligible : OccClass → Bool
  | .small | .adult | .booster => true
  | .unresolved | .absent | .fault | .empty | .object | .csEmpty | .csRf | .csFf | .csUnspec => false

/-- Left-behind watched classes (R71). -/
def OccClass.leftBehind : OccClass → Bool
  | .csRf | .csFf | .csUnspec | .booster | .small => true
  | .unresolved | .absent | .fault | .empty | .object | .csEmpty | .adult => false

/-- A position under a direct class: ABSENT, or FAULT with a cause other than MAT_FAULT (R71). -/
def ClassRec.underDirect (c : ClassRec) : Bool :=
  c.stable = .absent || (c.stable = .fault && (c.cause = .nodeLost || c.cause = .misfit || c.cause = .noSlot))

/-- A frozen position: its stable class is FAULT while its reminder is not IDLE (R99). -/
def PosRec.frozen (r : PosRec) : Bool := r.cls.stable = .fault && r.reminder.step ≠ .idle

/-- The timer of a position runs (R92). -/
def PosRec.timerRuns (r : PosRec) (c : ReminderClass) : Bool :=
  !r.frozen &&
    match r.reminder.step with
    | .grace => true
    | .visual => c = .full
    | .audible => true
    | .idle | .muted | .lapsed => false

/-! ## The airbag position -/

/-- The airbag position, if one is mapped (R107). -/
def State.airbag (s : State) : Option Pos := allPos.find? fun p => (s.entry p).isAirbag

/-- The suppression decision (R107). -/
def State.decision (s : State) : Suppression :=
  match s.airbag with
  | none => .suppress
  | some p =>
    match (s.pos p).cls.stable with
    | .adult => .enable
    | .unresolved | .fault => .indeterminate
    | .absent | .empty | .object | .csEmpty | .csRf | .csFf | .csUnspec | .booster | .small => .suppress

/-! ## The service gate -/

/-- What the service gate answers, if it refuses (R139). -/
def State.gate (s : State) : Option Status :=
  if !s.standstill || s.holdActive then some .locked
  else if s.saving then some .busy
  else none

/-! ## The node of a position -/

/-- The node record at a position's binding. -/
def State.boundNode (s : State) (p : Pos) : NodeRec := s.node (s.entry p).line (s.entry p).address

/-- Whether an enabled position is bound to a node address (R5, R34). -/
def State.boundTo (s : State) (l : Line) (a : Fin 6) (p : Pos) : Bool :=
  (s.entry p).enabled && (s.entry p).line = l && (s.entry p).address = a

/-- The subject of NODE_CHANGED for an address: 17 to 22 for line A, 23 to 28 for line B (R36). -/
def nodeSubject (l : Line) (a : Fin 6) : Nat :=
  match l with
  | .a => 17 + a.val
  | .b => 23 + a.val

/-- Whether a position can be captured or injected: enabled, fitting, its node ONLINE (R48 case 6, R132 case 5). -/
def State.serves (s : State) (p : Pos) : Bool :=
  (s.entry p).enabled && (s.pos p).fit = .fits && (s.boundNode p).state = .online

end Sys2Proof.Machine
end

