-- ==== Sys2Proof/Machine/Ops.lean ====
section
/-! DEFINITION. The operations that every block uses: walking the positions, posting notices and judging the
attention lines (R142, R145), and starting and stopping the eco countdown and the wake (R129, R130). -/

namespace Sys2Proof.Machine

/-! ## Walking the positions -/

/-- Take an operation at each listed position in turn. -/
def State.forPositions (ps : List Pos) (f : Pos → State → State) (s : State) : State :=
  ps.foldl (fun s p => f p s) s

/-- Take an operation at every position in ascending order. -/
def State.forAll (f : Pos → State → State) (s : State) : State := s.forPositions allPos f

/-- Change one position's record. -/
def State.modPos (s : State) (p : Pos) (f : PosRec → PosRec) : State := s.setPos p (f (s.pos p))

/-- A 16-bit mask of positions: bit 0 for position 1 through bit 15 for position 16 (R13, R127, R131). -/
def maskOf (f : Pos → Bool) : Half :=
  BitVec.ofNat 16 ((allPos.map fun p => if f p then 2 ^ p.val else 0).sum)

/-! ## Attention lines and notices -/

/-- A port's age limit in quanta (R146). -/
def State.ageLimit (s : State) (p : Port) : Nat := s.config.settings.ageLimit.get p * Config.quantaPerMs

/-- The condition under which a port's attention line is asserted (R145). -/
def State.wantsAttention (s : State) (p : Port) : Bool :=
  s.config.settings.trigger.get p ≤ (s.port p).queue.length ||
    match (s.port p).queue with
    | [] => false
    | n :: _ => s.ageLimit p ≤ n.waited

/-- Judge a port's attention line (R145). -/
def State.judgeAttention (s : State) (p : Port) : State :=
  s.setPort p { s.port p with attention := s.wantsAttention p }

/-- The largest number of notices a queue holds (R142). -/
def queueLimit : Nat := 16

/-- Whether a queued notice has a kind and subject (R142). -/
def Notice.about (n : Notice) (kind : NoticeKind) (subject : Nat) : Bool := n.kind = kind && n.subject = subject

/-- A queue in which the entry of a kind and subject takes a new payload and scan number, keeping its place and
its time of entry (R142). -/
def coalesce (q : List Notice) (kind : NoticeKind) (subject : Nat) (payload scan : Half) : List Notice :=
  q.map fun n => if n.about kind subject then { n with payload := payload, scan := scan } else n

/-- A port that receives a notice: updated in place, appended, or overflowing (R142). -/
def PortState.receive (x : PortState) (kind : NoticeKind) (subject : Nat) (payload scan : Half) : PortState :=
  if x.queue.any (·.about kind subject) then { x with queue := coalesce x.queue kind subject payload scan }
  else if x.queue.length < queueLimit then
    { x with queue := x.queue ++ [{ kind := kind, subject := subject, payload := payload, scan := scan, waited := 0 }] }
  else { x with overflow := true }

/-- Post a notice to one port, with the scan number standing, and judge its attention line (R142). -/
def State.post (s : State) (p : Port) (kind : NoticeKind) (subject : Nat) (payload : Half) : State :=
  (s.setPort p ((s.port p).receive kind subject payload s.scanner.number)).judgeAttention p

/-- A payload whose two bytes are numbers (spec 11.4). -/
def payloadOf (first second : Nat) : Half := oneByte first ++ oneByte second

/-! ## Eco countdown and wake -/

/-- Start a running eco countdown again from full (R129). -/
def State.restartEco (s : State) : State :=
  { s with vehicle := { s.vehicle with eco := s.vehicle.eco.map fun _ => s.ecoFull } }

/-- Judge the eco countdown: it stops when a condition fails, and starts from full when all hold (R129).
Log entry 29 (DEDUCED). -/
def State.judgeEco (s : State) : State :=
  { s with vehicle := { s.vehicle with
      eco := if s.ecoConditions then some (s.vehicle.eco.getD s.ecoFull) else none } }

/-- The scan period of a mode (R20). -/
def ScanMode.period : ScanMode → Nat
  | .run => Config.runPeriod
  | .eco => Config.ecoPeriod

/-- Change the scan mode: the scan timer starts again with the period of the new mode, and the eco countdown is stopped (R20,
R129). -/
def State.setMode (s : State) (m : ScanMode) : State :=
  { s with
    vehicle := { s.vehicle with mode := m, eco := none }
    scanner := { s.scanner with timer := some m.period } }

/-- A wake event: in ECO the part returns to RUN and the countdown is judged (R130). -/
def State.wake (s : State) : State :=
  if s.vehicle.mode = .eco then (s.setMode .run).judgeEco else s

/-- A received frame, reported to the Vehicle State Unit: it wakes the part in ECO and starts a running countdown
again in RUN (R129, R130, R136). -/
def State.frameReported (s : State) : State :=
  if s.vehicle.mode = .eco then s.wake else s.restartEco

end Sys2Proof.Machine
end

