-- ==== Sys2Proof/Machine/Load.lean ====
section
/-! DEFINITION. The Load Conditioner (spec 03): corrected load, filter, concentration, band. -/

namespace Sys2Proof.Machine

/-- The corrected load W (R41). -/
def correctedLoad (load : Nat) (z : Int) (g : Nat) : Nat :=
  let d := min (max ((load : Int) - z) 0) 4095
  min (d.toNat * g / 1024) 4000

/-- One step of the filter in sixteenths: floor of the gap over 2 to the k (R43). -/
def stepFilter (f16 w k : Nat) : Nat :=
  let e : Int := (w : Int) * 16 - (f16 : Int)
  ((f16 : Int) + e / (2 ^ k : Nat)).toNat

/-- The concentration index K (R45). -/
def concentration (load cells peak : Nat) : Nat :=
  if 1 ≤ load ∧ 1 ≤ cells then min (peak * cells * 8 / load) 255 else 0

/-- The rising threshold of a band 1 to 3 (R46). -/
def Profile.tu (p : Profile) : Nat → Nat
  | 1 => p.t1u
  | 2 => p.t2u
  | _ => p.t3u

/-- The falling threshold of a band 1 to 3 (R46). -/
def Profile.td (p : Profile) : Nat → Nat
  | 1 => p.t1d
  | 2 => p.t2d
  | _ => p.t3d

/-- The rising pass, at most n bands upward (R47). -/
def risePass (p : Profile) (f : Nat) : Nat → Nat → Nat
  | 0, b => b
  | n + 1, b => if b < 3 ∧ p.tu (b + 1) ≤ f then risePass p f n (b + 1) else b

/-- The falling pass, at most n bands downward (R47). -/
def fallPass (p : Profile) (f : Nat) : Nat → Nat → Nat
  | 0, b => b
  | n + 1, b => if 0 < b ∧ f < p.td b then fallPass p f n (b - 1) else b

/-- The band after a sample: the falling pass is taken only if the rising pass did not raise it (R47). -/
def updateBand (p : Profile) (f b : Nat) : Nat :=
  let up := risePass p f 3 b
  if b < up then up else fallPass p f 3 b

/-- The filtered load F (spec 03, 3.1). -/
def LoadRec.f (r : LoadRec) : Nat := r.f16 / 16

/-- The Load Conditioner on a delivered sample; a mat fault leaves every value held (R39, R40, R42). -/
def LoadRec.take (r : LoadRec) (e : MapEntry) (p : Profile) (x : SlotSample) : LoadRec :=
  if x.matFault then r
  else
    let w := correctedLoad x.load e.z e.g
    let f16 := if r.seeded then stepFilter r.f16 w e.k else w * 16
    { w := w, f16 := f16, seeded := true, band := updateBand p (f16 / 16) r.band, n := x.cells,
      k := concentration x.load x.cells x.peak }

end Sys2Proof.Machine
end

