-- ==== Sys2Proof/Machine/ChildSeats.lean ====
section
/-! DEFINITION. The Child Seat Recognizer (spec 04): screening, readings, acceptance, tare and child-load flag. -/

namespace Sys2Proof.Machine

/-- What a tag marks (R57). -/
inductive TagKind where
  | base
  | carrier
  | convertible
  | booster
  | foreign
deriving DecidableEq, Repr

/-- The kind of a tag: the upper four bits of its ID (R57). -/
def TagRecord.kind (t : TagRecord) : TagKind :=
  match (t.id.extractLsb' 28 4).toNat with
  | 1 => .base
  | 2 => .carrier
  | 3 => .convertible
  | 4 => .booster
  | _ => .foreign

/-- The pairing code of a tag: the next twelve bits of its ID (R57). -/
def TagRecord.pairing (t : TagRecord) : BitVec 12 := t.id.extractLsb' 16 12

/-- Whether screening keeps a tag after those already kept (R58). -/
def keepTag (kept : List TagRecord) (t : TagRecord) : Bool :=
  t.kind ≠ .foreign && t.orientation ≠ 3 && !kept.any fun u => u.id = t.id

/-- The screened tags, in the order the node sent them (R58). -/
def screenTags (tags : List TagRecord) : List TagRecord :=
  tags.foldl (fun kept t => if keepTag kept t then kept ++ [t] else kept) []

/-- What a convertible seat reads by its orientation (R59). -/
def seatReading (t : TagRecord) : ChildSeat :=
  if t.orientation = 1 then .seatRf else if t.orientation = 2 then .seatFf else .seatUnspec

/-- The reading of one tag (R59). -/
def oneTagReading (t : TagRecord) : ChildSeat :=
  match t.kind with
  | .base => .baseOnly
  | .carrier => .carrierRf
  | .convertible => seatReading t
  | .booster => .boosterSeat
  | .foreign => .none

/-- The reading of two tags by their kinds and pairing codes (R60). -/
def twoTagReading (t u : TagRecord) : ChildSeat :=
  if t.pairing = u.pairing then
    match t.kind, u.kind with
    | .base, .carrier => .carrierRf
    | .carrier, .base => .carrierRf
    | .base, .convertible => seatReading u
    | .convertible, .base => seatReading t
    | _, _ => .conflict
  else .conflict

/-- The reading of a set of tags (R59, R60); a sample holds at most two. -/
def tagReading : List TagRecord → ChildSeat
  | [] => .none
  | [t] => oneTagReading t
  | t :: u :: _ => twoTagReading t u

/-- The GOOD tags of a screened set. -/
def goodTags (tags : List TagRecord) : List TagRecord := tags.filter fun t => !t.weak

/-- The acceptance step on a screened set of tags: confirmation, dropout, or a count toward R (R61 to R63). -/
def ChildRec.accept (c : ChildRec) (screened : List TagRecord) : ChildRec :=
  let good := goodTags screened
  let r := tagReading good
  if r = c.accepted ∨ tagReading screened = c.accepted then
    { c with pending := .none, pendingCount := 0, dropout := 0, tags := if r = c.accepted then good else c.tags }
  else if r = .none then
    if c.dropout + 1 < 4 then { c with pending := .none, pendingCount := 0, dropout := c.dropout + 1 }
    else { c with accepted := .none, pending := .none, pendingCount := 0, dropout := 0, tags := [] }
  else if r = c.pending ∧ 2 ≤ c.pendingCount + 1 then
    { c with accepted := r, pending := .none, pendingCount := 0, dropout := 0, tags := good }
  else { c with pending := r, pendingCount := if r = c.pending then c.pendingCount + 1 else 1 }

/-- The tare: the stored tags' masses and the cinch allowance (R64). -/
def ChildRec.tare (c : ChildRec) (p : Profile) : Nat := (c.tags.map fun t => t.mass.toNat).sum + p.cinch

/-- The net child load (R64). -/
def ChildRec.net (c : ChildRec) (p : Profile) (f : Nat) : Nat := f - c.tare p

/-- The child-load flag after the acceptance step (R65, R66). -/
def ChildRec.judgeFlag (c : ChildRec) (p : Profile) (f : Nat) (matFault : Bool) : Bool :=
  if c.accepted = .none then false
  else if matFault then c.loadFlag
  else if c.loadFlag then p.csD ≤ c.net p f
  else p.csU ≤ c.net p f

/-- The Recognizer on a delivered sample (R56, R68): `f` is the filtered load handed on. -/
def ChildRec.take (c : ChildRec) (capable : Bool) (p : Profile) (f : Nat) (x : SlotSample) : ChildRec :=
  if capable then
    let c := c.accept (screenTags x.tags)
    { c with loadFlag := c.judgeFlag p f x.matFault }
  else .cleared

end Sys2Proof.Machine
end

