-- ==== Sys2Proof/Machine/Reminders.lean ====
section
/-! DEFINITION. The Belt Reminder Unit (spec 06): the buckle decoder and the reminder machine. -/

namespace Sys2Proof.Machine

/-! ## Buckle decoder -/

/-- The belt state a buckle code decodes to (R89). -/
def decodeBuckle (code : BitVec 2) : Belt :=
  if code = 1 then .latched else if code = 2 then .unlatched else .fault

/-- Debounce a decoded state (R90). -/
def BeltRec.debounce (b : BeltRec) (d : Belt) : BeltRec :=
  if d = b.belt then { b with pending := .none, count := 0 }
  else if d = b.pending ∧ b.count = 1 then { belt := d, pending := .none, count := 0 }
  else { b with pending := d, count := 1 }

/-- Post BELT_CHANGED with a position's belt state (R90, R91). -/
def State.postBelt (s : State) (p : Pos) : State :=
  s.post .cabin .beltChanged (posNumber p) (payloadOf 0 (s.pos p).buckle.belt.code)

/-! ## Transitions of the reminder machine -/

/-- Give a position's reminder a record. -/
def State.setReminder (s : State) (p : Pos) (r : ReminderRec) : State :=
  s.modPos p fun x => { x with reminder := r }

/-- Post REMINDER_CHANGED with a position's reminder state (R100). -/
def State.postReminder (s : State) (p : Pos) : State :=
  s.post .cabin .reminderChanged (posNumber p) (payloadOf 0 (s.pos p).reminder.step.code)

/-- Move a position's reminder to a step with a timer value, and post the change (R100). -/
def State.moveReminder (s : State) (p : Pos) (step : ReminderStep) (timer : Nat) : State :=
  (s.setReminder p { (s.pos p).reminder with step := step, timer := timer }).postReminder p

/-- Post AUDIBLE_REQUEST with a position's re-issue count (R97, R101). -/
def State.postAudible (s : State) (p : Pos) : State :=
  s.post .cabin .audibleRequest (posNumber p) (payloadOf 0 (s.pos p).reminder.reissues)

/-- Return to IDLE (R95, R98). -/
def State.toIdle (s : State) (p : Pos) : State := s.moveReminder p .idle 0

/-- The audible timer expires (R97). -/
def State.lapse (s : State) (p : Pos) : State := s.moveReminder p .lapsed 0

/-- Entry to AUDIBLE; an audible time of 0 expires at once (R97). -/
def State.enterAudible (s : State) (p : Pos) : State :=
  let time := s.config.settings.audibleTime
  let s := s.setReminder p { (s.pos p).reminder with confirmed := false, reissues := 0, scans := 0 }
  let s := (s.moveReminder p .audible time).postAudible p
  if time = 0 then s.lapse p else s

/-- Entry to VISUAL; a visual time of 0 expires at once while the reminder class is FULL (R95, R96). -/
def State.enterVisual (s : State) (p : Pos) : State :=
  let time := s.config.settings.visualTime
  let s := s.moveReminder p .visual time
  if time = 0 ∧ (s.entry p).reminderClass = .full then s.enterAudible p else s

/-- Entry to GRACE; a grace time of 0 expires at once (R94). -/
def State.enterGrace (s : State) (p : Pos) : State :=
  let time := s.config.settings.graceTime
  let s := s.moveReminder p .grace time
  if time = 0 then s.enterVisual p else s

/-! ## Evaluation -/

/-- The belt state asks for a reminder (R94). -/
def Belt.unfastened : Belt → Bool
  | .unlatched | .fault => true
  | .none | .latched => false

/-- A cause of return that GRACE shares with the later steps (R95, R98): belt LATCHED or NONE, a class neither
eligible nor FAULT, ignition not RUN, or reminder class NONE. -/
def State.reminderEnds (s : State) (p : Pos) : Bool :=
  let r := s.pos p
  !r.buckle.belt.unfastened || (!r.cls.stable.eligible && r.cls.stable ≠ .fault) ||
    s.vehicle.ignition ≠ .run || (s.entry p).reminderClass = .none

/-- Evaluate a position's reminder (R93 to R98). Log entry 20 (DEDUCED). -/
def State.evaluate (s : State) (p : Pos) : State :=
  let r := s.pos p
  match r.reminder.step with
  | .idle =>
    if r.cls.stable.eligible && r.buckle.belt.unfastened && (s.entry p).reminderClass ≠ .none && s.underway then
      s.enterGrace p
    else s
  | .grace =>
    if s.reminderEnds p || s.vehicle.speed < s.config.settings.speedThreshold then s.toIdle p else s
  | .visual =>
    if s.reminderEnds p then s.toIdle p
    else if (s.entry p).reminderClass = .full && r.reminder.timer = 0 && !r.frozen then s.enterAudible p
    else s
  | .audible | .muted | .lapsed => if s.reminderEnds p then s.toIdle p else s

/-- The buckle decoder on a delivered sample, and the evaluation that follows it (R89 to R91, R93 (a)). -/
def State.takeBuckle (s : State) (p : Pos) (x : SlotSample) : State :=
  let r := s.pos p
  let b := if r.beltCap then r.buckle.debounce (decodeBuckle x.buckle) else .cleared
  let s := s.modPos p fun y => { y with buckle := b }
  let s := if b.belt ≠ r.buckle.belt then s.postBelt p else s
  s.evaluate p

/-- The belt capability is lost: the belt state becomes NONE, and when it was not NONE the change is posted and
the reminder evaluated (R91, R93 (e)). -/
def State.loseBelt (s : State) (p : Pos) : State :=
  let r := s.pos p
  let s := s.modPos p fun y => { y with buckle := .cleared }
  if r.buckle.belt ≠ .none then (s.postBelt p).evaluate p else s

/-! ## Ticks -/

/-- Lower a position's running timer by one tick (R92). -/
def PosRec.tick (r : PosRec) (c : ReminderClass) : PosRec :=
  if r.timerRuns c then { r with reminder := { r.reminder with timer := r.reminder.timer - 1 } } else r

/-- One scan tick at a position: an unconfirmed, unfrozen AUDIBLE position counts a scan and asks again at the
re-issue interval (R101). -/
def State.countScan (s : State) (p : Pos) : State :=
  let r := (s.pos p).reminder
  if r.step = .audible ∧ r.confirmed = false ∧ (s.pos p).frozen = false then
    if s.config.settings.reissueInterval ≤ r.scans + 1 then
      (s.setReminder p { r with reissues := min (r.reissues + 1) 15, scans := 0 }).postAudible p
    else s.setReminder p { r with scans := r.scans + 1 }
  else s

end Sys2Proof.Machine
end

