-- ==== Sys2Proof/Machine/Decision.lean ====
section
/-! DEFINITION. The suppression decision and the decision line PSO (R107 to R109), and the snapshot stack (R117). -/

namespace Sys2Proof.Machine

/-- The pattern of PSO for a suppression state; an alternation begins with a high half (R109). -/
def Suppression.line : Suppression → Pso
  | .enable => .low
  | .suppress => .high
  | .indeterminate => .startAlternating

/-- Derive the decision; when it differs from the suppression state the sequence rises, the line changes and
SUPPRESSION_CHANGED is posted (R107, R108). -/
def State.deriveSuppression (s : State) : State :=
  let d := s.decision
  if d = s.restraint.suppression then s
  else
    let seq := s.restraint.sequence + 1
    let s := { s with restraint := { s.restraint with suppression := d, sequence := seq, pso := d.line } }
    s.post .safety .suppressionChanged 0 (payloadOf d.code seq.toNat)

/-- The snapshot of the table as it stands, with the hold count as its number (R117). -/
def State.snapshot (s : State) : Snapshot :=
  { number := s.restraint.holdCount
    scan := s.scanner.number
    suppression := s.restraint.suppression
    table := PerPos.ofFn fun p =>
      { stable := (s.pos p).cls.stable, belt := (s.pos p).buckle.belt, child := (s.pos p).child.accepted } }

/-- The most snapshots the stack holds (R117). -/
def stackLimit : Nat := 4

/-- Push a snapshot, newest first; a full stack drops its oldest (R117). -/
def State.pushSnapshot (s : State) : State :=
  { s with restraint := { s.restraint with snapshots := (s.snapshot :: s.restraint.snapshots).take stackLimit } }

end Sys2Proof.Machine
end

