-- ==== Sys2Proof/Machine/Classes.lean ====
section
/-! DEFINITION. The Occupant Classifier (spec 05): instant class, votes, direct classes, return to UNRESOLVED, the
effects of a class change, and HOLD. -/

namespace Sys2Proof.Machine

/-! ## Effects of a class change (R80) -/

/-- The payload of CLASS_CHANGED: class and cause in the first byte, the record sequence in the second. -/
def ClassRec.payload (c : ClassRec) : Half :=
  payloadOf (c.stable.code * 16 + c.cause.code) c.sequence.toNat

/-- Post CLASS_CHANGED to the safety and cabin ports (R86). -/
def State.postClass (s : State) (p : Pos) : State :=
  let payload := (s.pos p).cls.payload
  (s.post .safety .classChanged (posNumber p) payload).post .cabin .classChanged (posNumber p) payload

/-- While the watch is active, a class that is watched marks its position (R126). -/
def State.markWatched (s : State) (p : Pos) : State :=
  if s.watching && (s.pos p).cls.stable.leftBehind then s.modPos p fun r => { r with watched := true } else s

/-- The effects of R80 in order; `derive` says whether step (4) is taken, which the apply of a commit leaves to
its own step (2). -/
def State.classEffects (derive : Bool) (p : Pos) (s : State) : State :=
  let s := s.modPos p fun r => { r with cls := { r.cls with sequence := r.cls.sequence + 1 } }
  let s := (s.postClass p).evaluate p
  let s := if derive ∧ s.airbag = some p then s.deriveSuppression else s
  (s.markWatched p).restartEco

/-- Set a position's stable class and fault cause; the candidate becomes the class with agreement 0. -/
def ClassRec.settle (c : ClassRec) (cls : OccClass) (cause : FaultCause) : ClassRec :=
  { c with stable := cls, cause := cause, candidate := cls, agreement := 0 }

/-- Change a position's stable class or fault cause, with the effects of R80. -/
def State.changeClass (derive : Bool) (cls : OccClass) (cause : FaultCause) (p : Pos) (s : State) : State :=
  (s.modPos p fun r => { r with cls := r.cls.settle cls cause }).classEffects derive p

/-! ## Direct classes and the return (R81, R82) -/

/-- A direct class asked of a position: ABSENT, or FAULT with a cause (R33). -/
inductive Direct where
  | absent
  | fault (cause : FaultCause)
deriving DecidableEq, Repr

/-- The stable class of a direct class. -/
def Direct.cls : Direct → OccClass
  | .absent => .absent
  | .fault _ => .fault

/-- The fault cause of a direct class. -/
def Direct.cause : Direct → FaultCause
  | .absent => .none
  | .fault c => c

/-- Apply a direct class; the resolve mark is cleared either way (R81). -/
def State.applyDirect (derive : Bool) (d : Direct) (p : Pos) (s : State) : State :=
  let s := s.modPos p fun r => { r with cls := { r.cls with resolveMark := false } }
  if (s.pos p).cls.stable = d.cls ∧ (s.pos p).cls.cause = d.cause then s
  else s.changeClass derive d.cls d.cause p

/-- Return a position to UNRESOLVED (R82). -/
def State.returnUnresolved (derive : Bool) (p : Pos) (s : State) : State :=
  let was := (s.pos p).cls.stable
  let s := s.modPos p fun r => { r with cls := { r.cls with resolveMark := false } }
  if was = .unresolved then
    s.modPos p fun r => { r with cls := r.cls.settle .unresolved .none }
  else s.changeClass derive .unresolved .none p

/-! ## Instant class (R74, R75) -/

/-- The instant class of a recognized child seat (R74 case 2). -/
def ChildSeat.instant (c : ChildSeat) (flag : Bool) : OccClass :=
  match c with
  | .conflict => .csUnspec
  | .carrierRf | .seatRf => if flag then .csRf else .csEmpty
  | .seatFf => if flag then .csFf else .csEmpty
  | .seatUnspec | .baseOnly => if flag then .csUnspec else .csEmpty
  | .boosterSeat => if flag then .booster else .csEmpty
  | .none => .csEmpty

/-- The person test (R75). -/
def personTest (p : Profile) (n k : Nat) : Bool := p.nMin ≤ n && k ≤ p.kHuman

/-- The instant class by band (R75). -/
def bandInstant (p : Profile) (capable : Bool) (band n k : Nat) : OccClass :=
  match band with
  | 0 => .empty
  | 1 => .object
  | 2 =>
    if capable && 8 ≤ n && k ≤ p.kRigid then .csUnspec
    else if personTest p n k then .small
    else .object
  | _ => if personTest p n k then .adult else .object

/-- The instant class of a delivered sample (R74). -/
def instantClass (p : Profile) (r : PosRec) (matFault : Bool) : OccClass :=
  if matFault then .fault
  else if r.child.accepted ≠ .none then r.child.accepted.instant r.child.loadFlag
  else bandInstant p r.childCap r.load.band r.load.n r.load.k

/-! ## Votes (R77 to R79) -/

/-- The largest agreement count (R77). -/
def agreementLimit : Nat := 15

/-- Count an instant class as a vote (R77). -/
def ClassRec.vote (c : ClassRec) (i : OccClass) : ClassRec :=
  if c.underDirect then c
  else if i = c.stable then { c with candidate := c.stable, agreement := 0 }
  else if i = c.candidate then { c with agreement := min (c.agreement + 1) agreementLimit }
  else { c with candidate := i, agreement := 1 }

/-- The entry votes of a class (R76, R78 case 2 for FAULT). UNRESOLVED and ABSENT are no instant classes (R71) and have
none: no agreement count reaches the value given here. Log entry 22 (DEDUCED). -/
def Profile.entryVotes (p : Profile) : OccClass → Nat
  | .empty => p.vEmpty
  | .object => p.vObject
  | .csEmpty => p.vCsEmpty
  | .csRf => p.vCsRf
  | .csFf => p.vCsFf
  | .csUnspec => p.vCsUnspec
  | .booster => p.vBooster
  | .small => p.vSmall
  | .adult => p.vAdult
  | .fault => 3
  | .unresolved | .absent => agreementLimit + 1

/-- The required votes of the candidate (R78). -/
def ClassRec.required (c : ClassRec) (p : Profile) : Nat :=
  if c.stable = .unresolved then p.resolve
  else if c.candidate = .fault then 3
  else p.entryVotes c.candidate

/-- A vote stands at its count (R79). -/
def ClassRec.stands (c : ClassRec) (p : Profile) : Bool :=
  c.candidate ≠ c.stable && c.required p ≤ c.agreement

/-- Complete a standing vote (R79). -/
def State.completeVote (p : Pos) (s : State) : State :=
  let c := (s.pos p).cls
  if c.stands (s.profileOf p) then
    s.changeClass true c.candidate (if c.candidate = .fault then .matFault else .none) p
  else s

/-- Form the instant class of a delivered sample, store it, report it to the Vehicle State Unit and count it as a
vote (R74, R77, R130). -/
def State.takeInstant (matFault : Bool) (p : Pos) (s : State) : State :=
  let i := instantClass (s.profileOf p) (s.pos p) matFault
  let s := s.modPos p fun r => { r with cls := { r.cls with lastInstant := i } }
  let s := if i ≠ (s.pos p).cls.stable then s.wake else s
  s.modPos p fun r => { r with cls := r.cls.vote i }

/-! ## Outcomes (R73, R84) -/

/-- What an outcome hands to the Classifier for a position (R34): the node state after it, the direct class asked,
the identification mark, and the mat-fault indication of the delivered sample, if one is delivered. -/
structure Handover where
  node : NodeState
  direct : Option Direct
  identified : Bool
  sample : Option Bool
deriving DecidableEq, Repr

/-- An outcome with HOLD inactive (R73). -/
def State.classify (h : Handover) (p : Pos) (s : State) : State :=
  match h.direct with
  | some d => s.applyDirect true d p
  | none =>
    match h.node with
    | .silent | .unseen | .lost => s
    | .online =>
      let c := (s.pos p).cls
      let s := if h.identified || c.resolveMark || c.underDirect then s.returnUnresolved true p else s
      let s := s.completeVote p
      match h.sample with
      | none => s
      | some matFault => (s.takeInstant matFault p).completeVote p

/-- An outcome while HOLD is active: no stable class changes (R84). -/
def State.classifyHeld (h : Handover) (p : Pos) (s : State) : State :=
  let s :=
    if h.identified ∧ h.direct = none then
      s.modPos p fun r => { r with cls := { r.cls with resolveMark := true } }
    else s
  match h.sample with
  | none => s
  | some matFault => s.takeInstant matFault p

/-- The Classifier on an outcome handed to a position (R73, R84). -/
def State.takeOutcome (h : Handover) (p : Pos) (s : State) : State :=
  if s.holdActive then s.classifyHeld h p else s.classify h p

end Sys2Proof.Machine
end

