-- ==== Sys2Proof/Machine/Fit.lean ====
section
/-! DEFINITION. Fit states and capabilities in effect (spec 01, 1.4 and 1.5), with what their changes do to the
position, and the zero capture (spec 03, 3.5). -/

namespace Sys2Proof.Machine

/-! ## Fit decision (R4) -/

/-- The bits of the identity that a match mode selects. -/
def MatchMode.selects (m : MatchMode) (x y : BitVec 24) : Bool :=
  match m with
  | .exact => x = y
  | .variant => x.extractLsb' 12 12 = y.extractLsb' 12 12
  | .model => x.extractLsb' 16 8 = y.extractLsb' 16 8
  | .any => true

/-- The fit result of an entry against an identified node (R4). -/
def MapEntry.fitWith (e : MapEntry) (id : NodeIdentity) : FitState :=
  if !e.matchMode.selects id.id e.identity then .misfit
  else if id.slots < e.slot.val + 1 then .noSlot
  else .fits

/-! ## Capabilities in effect (R7) -/

/-- The capabilities a node record reports for a slot: tag reader, buckle sensor. -/
def NodeRec.slotCaps (n : NodeRec) (slot : Fin 4) : Bool × Bool :=
  match n.identity with
  | none => (false, false)
  | some id => id.caps.getD slot.val (false, false)

/-- Compute a position's capabilities in effect anew. One that goes from YES to NO sets its dependent state at
once: the child-seat state is cleared, the belt state becomes NONE (R7, R68, R91). -/
def State.recompute (p : Pos) (s : State) : State :=
  let r := s.pos p
  let e := s.entry p
  let caps := (s.boundNode p).slotCaps e.slot
  let child := r.fit = .fits && e.childCapable && caps.1
  let belt := r.fit = .fits && e.beltSensed && caps.2
  let s := s.modPos p fun x =>
    { x with childCap := child, beltCap := belt, child := if r.childCap && !child then .cleared else x.child }
  if r.beltCap && !belt then s.loseBelt p else s

/-- Set a position's fit state. One that becomes FITS from another unseeds the filter (R44), one other than FITS ends
the injection (R132), and the capabilities follow (R7). -/
def State.setFit (p : Pos) (fit : FitState) (s : State) : State :=
  let was := (s.pos p).fit
  let s := s.modPos p fun x =>
    { x with
      fit := fit
      load := if fit = .fits ∧ was ≠ .fits then .cleared else x.load
      injection := if fit = .fits then x.injection else none }
  s.recompute p

/-! ## Zero capture (R49 to R51) -/

/-- Result codes of CAPTURE_DONE (spec 11.4). -/
inductive CaptureResult where
  | ok
  | unstable
  | node
  | locked
  | map
deriving DecidableEq, Repr

/-- The codes of capture results. -/
def CaptureResult.code : CaptureResult → Nat
  | .ok => 0
  | .unstable => 1
  | .node => 2
  | .locked => 3
  | .map => 4

/-- The payload of CAPTURE_DONE: the result in bits 15 to 12 and the zero in bits 11 to 0. -/
def capturePayload (r : CaptureResult) (value : Nat) : Half :=
  BitVec.ofNat 16 (r.code * 4096 + value % 4096)

/-- A capture in flight aborts with a result (R51). -/
def State.abortCapture (r : CaptureResult) (s : State) : State :=
  match s.capture with
  | none => s
  | some c =>
    ({ s with capture := none }).post .service .captureDone (posNumber c.position) (capturePayload r 0)

/-- A capture of a given position aborts (R51). -/
def State.abortCaptureOf (r : CaptureResult) (p : Pos) (s : State) : State :=
  if s.capture.any (·.position = p) then s.abortCapture r else s

/-- Write a zero into a position's staged entry, made first as a copy of the live entry when none is held (R50). -/
def State.stageZero (p : Pos) (value : Nat) (s : State) : State :=
  let e := ((s.staging.entries.get p).getD (s.entry p))
  { s with staging := { s.staging with
      entries := s.staging.entries.set p.val (some { e with z := (value : Int) }) p.isLt } }

/-- The raw load at and above which a capture aborts (R49). -/
def captureLimit : Nat := 400

/-- How many samples a capture gathers (R49). -/
def captureSamples : Nat := 16

/-- The zero of a full sum: the mean of the 16 raw loads rounded half up (R50). -/
def captureZero (sum : Nat) : Nat := (sum + 8) / 16

/-- A delivered sample is first taken by a capture in flight for its position (R49, R50). -/
def State.captureTake (p : Pos) (x : SlotSample) (s : State) : State :=
  match s.capture with
  | none => s
  | some c =>
    if c.position ≠ p then s
    else if x.matFault || captureLimit ≤ x.load then s.abortCapture .unstable
    else if c.count + 1 < captureSamples then
      { s with capture := some { c with count := c.count + 1, sum := c.sum + x.load } }
    else
      let value := captureZero (c.sum + x.load)
      let s := ({ s with capture := none }).stageZero p value
      s.post .service .captureDone (posNumber p) (capturePayload .ok value)

end Sys2Proof.Machine
end

