-- ==== Sys2Proof/Machine/Scan.lean ====
section
/-! DEFINITION. The Line Scanner (spec 02): polls, judging a reply, node states, handing outcomes to the positions, and
the round of a line. -/

namespace Sys2Proof.Machine

/-! ## Polls (R23, R24) -/

/-- Poll command codes (spec 11.1). -/
def PollCommand.code : PollCommand → Byte
  | .identify => 0x01
  | .sample => 0x02

/-- The reply kind a poll expects (R23). -/
def PollCommand.replyKind : PollCommand → Byte
  | .identify => 0x41
  | .sample => 0x42

/-- The poll frame to an address: sync, address, command, CRC-16 high byte first (R23). -/
def pollFrame (a : Fin 6) (c : PollCommand) : List Byte :=
  let span := [oneByte (a.val + 1), c.code]
  Config.syncByte :: span ++ halfBytes (crc16 span)

/-! ## Judging a reply (R25) -/

/-- The kinds of a miss. -/
inductive MissKind where
  | timeout
  | crc
  | format
deriving DecidableEq, Repr

/-- The outcome of one address in a scan (R21, R25): a valid reply with its payload read, a miss, or a skip. -/
inductive PollOutcome where
  | identity (id : NodeIdentity)
  | sample (serial : Byte) (blocks : List SlotSample)
  | miss (kind : MissKind)
  | skip
deriving DecidableEq, Repr

/-- The payload of a reply as the poll that asked for it reads it; a payload that does not agree with its length is a
format miss (case 9). -/
def readPayload (c : PollCommand) (slots : Nat) (payload : List Byte) : PollOutcome :=
  match c with
  | .identify =>
    match identityPayload payload with
    | some id => .identity id
    | none => .miss .format
  | .sample =>
    if payload.isEmpty then .miss .format
    else
      match takeSlotBlocks slots (payload.drop 1) with
      | some blocks => .sample (byteAt payload 0) blocks
      | none => .miss .format

/-- Judge the characters received in an exchange, by the first case of R25 that holds. `slots` is the slot count
recorded for the node. -/
def judgeReply (x : Exchange) (slots : Nat) (chars : List Byte) : PollOutcome :=
  let len := (byteAt chars 3).toNat
  let span := slice chars 1 (len + 3)
  if chars.isEmpty then .miss .timeout
  else if byteAt chars 0 ≠ Config.syncByte then .miss .format
  else if chars.length < 4 then .miss .timeout
  else if 73 < len then .miss .format
  else if chars.length < len + 6 then .miss .timeout
  else if crc16 span ≠ byteAt chars (len + 4) ++ byteAt chars (len + 5) then .miss .crc
  else if byteAt chars 1 ≠ oneByte (x.address.val + 1 + 0x80) then .miss .format
  else if byteAt chars 2 ≠ x.command.replyKind then .miss .format
  else readPayload x.command slots (slice chars 4 len)

/-! ## Node records (R26, R28 to R32) -/

/-- The largest value of an error counter (R26). -/
def countLimit : Nat := 65535

/-- Count a miss by its kind (R26). -/
def NodeRec.countMiss (n : NodeRec) (k : MissKind) : NodeRec :=
  match k with
  | .timeout => { n with timeouts := min (n.timeouts + 1) countLimit }
  | .crc => { n with crcErrors := min (n.crcErrors + 1) countLimit }
  | .format => { n with formatErrors := min (n.formatErrors + 1) countLimit }

/-- The verdict of a loss: ABSENT at standstill, FAULT otherwise (R30, R31). -/
def lossVerdict (standstill : Bool) : Verdict := if standstill then .absent else .fault

/-- Reasons of NODE_CHANGED (spec 11.4). -/
inductive NodeReason where
  | identified
  | thirdMiss
  | slip
deriving DecidableEq, Repr

/-- The codes of the reasons. -/
def NodeReason.code : NodeReason → Nat
  | .identified => 1
  | .thirdMiss => 2
  | .slip => 3

/-- The serial byte recorded for a node: the low 8 bits of its identity (R29). -/
def NodeRec.serialByte (n : NodeRec) : Byte :=
  match n.identity with
  | none => 0
  | some id => id.id.extractLsb' 0 8

/-- What an outcome does to a node record, with the reason of the NODE_CHANGED it posts, if any (R28 to R32). -/
def NodeRec.after (n : NodeRec) (standstill : Bool) (o : PollOutcome) : NodeRec × Option NodeReason :=
  match o with
  | .skip => (n, none)
  | .identity id =>
    ({ n with state := .online, misses := 0, identity := some id, verdict := .none }, some .identified)
  | .sample serial _ =>
    if serial = n.serialByte then ({ n with state := .online, misses := 0 }, none)
    else ({ n with state := .unseen, misses := 0, verdict := lossVerdict standstill }, some .slip)
  | .miss k =>
    let n := n.countMiss k
    match n.state with
    | .online => ({ n with state := .silent, misses := 1 }, none)
    | .silent =>
      if n.misses < 2 then ({ n with misses := 2 }, none)
      else ({ n with state := .lost, misses := 0, verdict := lossVerdict standstill }, some .thirdMiss)
    | .unseen | .lost =>
      let v := match n.verdict with
        | .absent => Verdict.absent
        | .none | .fault => lossVerdict standstill
      ({ n with misses := 0, verdict := v }, none)

/-! ## Handing an outcome on (R33 to R35) -/

/-- The direct class asked of a position, or none (R33). -/
def directAsked (n : NodeRec) (fit : FitState) : Option Direct :=
  match n.state with
  | .unseen | .lost =>
    match n.verdict with
    | .none => none
    | .absent => some .absent
    | .fault => some (.fault .nodeLost)
  | .online | .silent =>
    match fit with
    | .misfit => some (.fault .misfit)
    | .noSlot => some (.fault .noSlot)
    | .fits | .unchecked => none

/-- The sample delivered to a position by an outcome: its slot's block of a valid SAMPLE reply, or its injected
sample, when it fits (R34, R35). -/
def State.delivered (s : State) (p : Pos) (slip : Bool) (o : PollOutcome) : Option SlotSample :=
  match o with
  | .sample _ blocks =>
    if slip || (s.pos p).fit ≠ .fits then none
    else
      match (s.pos p).injection with
      | some x => some x
      | none => blocks[(s.entry p).slot.val]?
  | .identity _ | .miss _ | .skip => none

/-- The pipeline of a delivered sample up to the Classifier: capture, Load Conditioner, Recognizer, buckle decoder
(R34, R49). -/
def State.pipeline (p : Pos) (x : SlotSample) (s : State) : State :=
  let s := s.captureTake p x
  let e := s.entry p
  let pr := s.profileOf p
  let s := s.modPos p fun r => { r with load := r.load.take e pr x }
  let s := s.modPos p fun r => { r with child := r.child.take r.childCap pr r.load.f x }
  s.takeBuckle p x

/-- Hand an outcome to one bound position (R34). An outcome that delivers no sample to the captured position aborts
the capture (R51). Log entry 19 (DEDUCED). -/
def State.handTo (n : NodeRec) (slip : Bool) (o : PollOutcome) (p : Pos) (s : State) : State :=
  let h : Handover :=
    { node := n.state
      direct := directAsked n (s.pos p).fit
      identified := match o with
        | .identity _ => true
        | .sample _ _ | .miss _ | .skip => false
      sample := (s.delivered p slip o).map (·.matFault) }
  match s.delivered p slip o with
  | some x => (s.pipeline p x).takeOutcome h p
  | none => (s.abortCaptureOf .node p).takeOutcome h p

/-- The fit decision of the Position Map at a node event, for one bound position (R5): at an identification the
comparison is run, at a loss or a slip the fit becomes UNCHECKED. -/
def State.refit (n : NodeRec) (reason : Option NodeReason) (p : Pos) (s : State) : State :=
  match reason with
  | some .identified =>
    match n.identity with
    | some id => s.setFit p ((s.entry p).fitWith id)
    | none => s
  | some .thirdMiss | some .slip => s.setFit p .unchecked
  | none => s

/-- The enabled positions bound to an address, in ascending order (R34). -/
def State.bound (s : State) (l : Line) (a : Fin 6) : List Pos := allPos.filter (s.boundTo l a)

/-- An outcome at an address: node record, NODE_CHANGED, fit decisions, and the hand-over to each bound position in
ascending order (R28 to R36). The fit decisions of several bound positions, with the notices of the capabilities they lose, are
taken in ascending order too, all before the first hand-over. Log entry 41 (DESIGN CHOICE). -/
def State.takeNodeOutcome (l : Line) (a : Fin 6) (o : PollOutcome) (s : State) : State :=
  let (n, reason) := (s.node l a).after s.standstill o
  let s := s.setNode l a n
  let s :=
    match reason with
    | some why => s.post .service .nodeChanged (nodeSubject l a) (payloadOf n.state.code why.code)
    | none => s
  let ps := s.bound l a
  let s := s.forPositions ps (State.refit n reason)
  s.forPositions ps (State.handTo n (reason = some .slip) o)

/-! ## The round of a line (R21) -/

/-- The poll that an address gets in this scan, or none for a skip (R21). -/
def State.pollFor (s : State) (l : Line) (a : Fin 6) : Option PollCommand :=
  match (s.node l a).state with
  | .online | .silent => some .sample
  | .unseen | .lost => if s.scanner.probing then some .identify else none

/-- Begin or end the exchange of a line. -/
def State.setExchange (l : Line) (x : Option Exchange) (s : State) : State :=
  s.setLine l { s.scanner.lines.get l with exchange := x }

/-- Visit the listed addresses of a line in order: a skip is handed on and the next address follows, a poll is sent
and the visit stops there (R21). Log entry 16 (DEDUCED). -/
def State.visit (l : Line) : List (Fin 6) → State → State
  | [], s => s.setExchange l none
  | a :: rest, s =>
    match s.pollFor l a with
    | some c => s.setExchange l (some { address := a, command := c, frame := pollFrame a c })
    | none => (s.takeNodeOutcome l a .skip).visit l rest

/-- The addresses of a line in ascending order. -/
def allAddresses : List (Fin 6) := [0, 1, 2, 3, 4, 5]

/-- The addresses that follow one in a round. -/
def addressesAfter (a : Fin 6) : List (Fin 6) := allAddresses.filter fun b => a < b

/-- The exchange of a line ends with what was received: it is judged, the outcome handed on, and the round goes on
with the next address (R19, R25). Without an exchange in progress the characters are discarded. -/
def State.endExchange (l : Line) (chars : List Byte) (s : State) : State :=
  match (s.scanner.lines.get l).exchange with
  | none => s
  | some x =>
    let slots := match (s.node l x.address).identity with
      | some id => id.slots
      | none => 0
    let o := judgeReply x slots chars
    ((s.setExchange l none).takeNodeOutcome l x.address o).visit l (addressesAfter x.address)

/-! ## The scan tick (R20, R22) -/

/-- The probe decision of a scan tick (R22). -/
def Scanner.decideProbe (c : Scanner) (m : ScanMode) : Scanner :=
  if c.firstScan then { c with firstScan := false, probing := true }
  else
    match m with
    | .run =>
      if c.probeCount = 9 then { c with probeCount := 0, probing := true }
      else { c with probeCount := c.probeCount + 1, probing := false }
    | .eco => { c with probing := false }

/-- Whether a line's round opens with a skip. -/
def State.opensWithSkip (s : State) (l : Line) : Bool := (s.pollFor l 0).isNone

/-- Both lines begin a round. Where both rounds open with a skip, which line's skips come first is a free choice
(R21, log entry 5). -/
def State.beginRounds (s : State) : State :=
  if s.opensWithSkip .a && s.opensWithSkip .b && Config.lineBFirst s.freeCount then
    ({ s with freeCount := s.freeCount + 1 }.visit .b allAddresses).visit .a allAddresses
  else if s.opensWithSkip .a && s.opensWithSkip .b then
    ({ s with freeCount := s.freeCount + 1 }.visit .a allAddresses).visit .b allAddresses
  else (s.visit .a allAddresses).visit .b allAddresses

/-- A scan tick: the number rises, the timer starts a new period, the probe decision is taken, AUDIBLE positions count
the scan, and both lines begin a round (R20, R22, R101). Log entry 17 (DEDUCED). -/
def State.beginScan (s : State) : State :=
  let c := { s.scanner with number := s.scanner.number + 1, timer := some s.vehicle.mode.period }
  let s := { s with scanner := c.decideProbe s.vehicle.mode }
  (s.forAll fun p s => s.countScan p).beginRounds

end Sys2Proof.Machine
end

