-- ==== Sys2Proof/Machine/Commit.lean ====
section
/-! DEFINITION. The staging area and the commit (spec 01, 1.6 and 1.7). -/

namespace Sys2Proof.Machine

/-! ## Staging (R8 to R11) -/

/-- Whether a staged entry is held for a position. -/
def Staging.holds (g : Staging) (p : Pos) : Bool := (g.entries.get p).isSome

/-- The number of staged entries (R17). -/
def Staging.count (g : Staging) : Nat := (allPos.filter g.holds).length

/-- Hold a staged entry for a position. -/
def State.stage (p : Pos) (e : MapEntry) (s : State) : State :=
  { s with staging := { s.staging with entries := s.staging.entries.set p.val (some e) p.isLt } }

/-- The source of a swap: the staged entry when one is held, or else the live entry (R10). -/
def State.swapSource (s : State) (p : Pos) : MapEntry := (s.staging.entries.get p).getD (s.entry p)

/-- An entry with the placement of another: seat line, address, slot, expected identity and match mode (R10). -/
def MapEntry.withPlacement (e f : MapEntry) : MapEntry :=
  { e with line := f.line, address := f.address, slot := f.slot, identity := f.identity, matchMode := f.matchMode }

/-- Stage two positions with their placement exchanged (R10). -/
def State.swap (p q : Pos) (s : State) : State :=
  let e := s.swapSource p
  let f := s.swapSource q
  (s.stage p (e.withPlacement f)).stage q (f.withPlacement e)

/-- The map that a commit would produce (R12 case 5). -/
def State.stagedMap (s : State) : PerPos MapEntry := PerPos.ofFn s.swapSource

/-! ## Record effects (R14, R15) -/

/-- Whether a commit resets a position's record: enabled, line, address or slot differ (R14). -/
def MapEntry.moved (old new : MapEntry) : Bool :=
  old.enabled ≠ new.enabled || !old.sameBinding new

/-- Reset a position's record at a commit, with its notices (R14). CLASS_CHANGED is posted before BELT_CHANGED and
BELT_CHANGED before REMINDER_CHANGED (R100, log entry 8). -/
def State.resetRecord (p : Pos) (s : State) : State :=
  let old := s.pos p
  let s := s.setPos p (.fresh (s.entry p).enabled (old.cls.sequence + 1))
  let s := s.postClass p
  let s := if old.buckle.belt ≠ .none then s.postBelt p else s
  let s := if old.reminder.step ≠ .idle then s.postReminder p else s
  s.restartEco

/-- The effects of changed fields on a kept record, in the order of R15's table: a changed child-seat capable or belt sensed flag
has the capabilities in effect recomputed, and a reminder class changed to NONE ends a reminder. The recomputation is taken here,
among the record effects, and again at step (1) of R16 with the fit then decided. Log entry 35 (DEDUCED). -/
def State.keepRecord (old : MapEntry) (p : Pos) (s : State) : State :=
  let s :=
    if old.childCapable ≠ (s.entry p).childCapable ∨ old.beltSensed ≠ (s.entry p).beltSensed then s.recompute p else s
  if old.reminderClass ≠ .none ∧ (s.entry p).reminderClass = .none ∧ (s.pos p).reminder.step ≠ .idle then s.toIdle p
  else s

/-- The record effects of a commit at one staged position, given the old map (R14, R15). -/
def State.recordEffects (old : PerPos MapEntry) (p : Pos) (s : State) : State :=
  if (old.get p).moved (s.entry p) then s.resetRecord p else s.keepRecord (old.get p) p

/-! ## Finishing (R16) -/

/-- The fit state decided again at a commit: the comparison is run when the node is ONLINE or SILENT with its identity
recorded (R16). -/
def State.commitFit (s : State) (p : Pos) : FitState :=
  let n := s.boundNode p
  match n.state, n.identity with
  | .online, some id => (s.entry p).fitWith id
  | .silent, some id => (s.entry p).fitWith id
  | _, _ => .unchecked

/-- Whether the fit state of a staged position is decided again (R16): enabled, and reset or with a changed expected
identity or match mode. -/
def refits (old new : MapEntry) : Bool :=
  new.enabled && (old.moved new || old.identity ≠ new.identity || old.matchMode ≠ new.matchMode)

/-- Step (1) of R16 at one staged position: the fit decision with the direct FAULT or the return to UNRESOLVED that it
asks for, and the capabilities in effect, recomputed at each staged position in the same walk, after the record effects of all
staged positions. Log entry 35 (DEDUCED). -/
def State.finishFit (old : PerPos MapEntry) (p : Pos) (s : State) : State :=
  let o := old.get p
  if refits o (s.entry p) then
    let was := (s.pos p).fit
    let fit := s.commitFit p
    let s := s.setFit p fit
    match fit with
    | .misfit => s.applyDirect false (.fault .misfit) p
    | .noSlot => s.applyDirect false (.fault .noSlot) p
    | .fits =>
      if !o.moved (s.entry p) && (was = .misfit || was = .noSlot) then s.returnUnresolved false p else s
    | .unchecked => s
  else s.recompute p

/-- A capture in flight aborts with MAP when the commit reset its position's record or left its fit other than FITS
(R51, R52). -/
def State.abortMoved (old : PerPos MapEntry) (ps : List Pos) (s : State) : State :=
  match s.capture with
  | none => s
  | some c =>
    if ps.contains c.position && ((old.get c.position).moved (s.entry c.position) || (s.pos c.position).fit ≠ .fits)
    then s.abortCapture .map else s

/-- Apply the staged entries (R14 to R16). The evaluations that R93 (d) asks for are a walk of their own over the staged positions,
in ascending order, after step (1) of R16 is done for all of them and before step (2). Log entry 39 (DESIGN CHOICE). A position whose
staged entry is identical to its live entry is evaluated too. Log entry 40 (DESIGN CHOICE). -/
def State.applyStaged (s : State) : State :=
  let old := s.config.map
  let ps := allPos.filter s.staging.holds
  let s := { s with config := { s.config with map := s.stagedMap } }
  let s := s.forPositions ps (State.recordEffects old)
  let s := s.forPositions ps (State.finishFit old)
  let s := s.forPositions ps fun p s => s.evaluate p
  let s := (s.abortMoved old ps).deriveSuppression
  { s with staging := { s.staging with entries := Staging.empty.entries } }

/-- Apply a pending deferred commit when standstill holds, HOLD is inactive and no save is in flight; COMMIT_APPLIED
carries the mask of staged positions (R13). -/
def State.applyDeferred (s : State) : State :=
  if s.staging.deferred && s.standstill && !s.holdActive && !s.saving then
    let mask := maskOf s.staging.holds
    let s := s.applyStaged
    let s := { s with staging := { s.staging with deferred := false } }
    s.post .service .commitApplied 0 mask
  else s

end Sys2Proof.Machine
end

