-- ==== Sys2Proof/Machine/Vans.lean ====
section
/-! DEFINITION. The Vehicle State Unit (spec 08): reports, standstill loss, the left-behind watch and test mode; and the
end of HOLD (R116). -/

namespace Sys2Proof.Machine

/-! ## Test mode (R131) -/

/-- The reminder tick spacing with test mode on or off (R92). -/
def reminderSpacing (testMode : Bool) : Nat :=
  if testMode then Config.reminderSpacingTest else Config.reminderSpacing

/-- Turn test mode on or off; the next reminder tick comes at the new spacing (R92, R131). Log entry 18 (DEDUCED). -/
def State.setTestMode (on : Bool) (s : State) : State :=
  { s with vehicle := { s.vehicle with testMode := on }, reminderTimer := some (reminderSpacing on) }

/-- End every injection. -/
def State.endInjections (s : State) : State :=
  { s with positions := PerPos.ofFn fun p => { s.pos p with injection := none } }

/-- Test mode ends and all injections end (R131). -/
def State.endTestMode (s : State) : State := (s.setTestMode false).endInjections

/-- The mask of positions with an injection. -/
def State.injectionMask (s : State) : Half := maskOf fun p => (s.pos p).injection.isSome

/-- The loss of standstill: a capture aborts with LOCKED, and test mode ends with TEST_MODE_ENDED (R124 step 2). -/
def State.loseStandstill (s : State) : State :=
  let s := s.abortCapture .locked
  if s.vehicle.testMode then
    let mask := s.injectionMask
    s.endTestMode.post .service .testModeEnded 0 mask
  else s

/-! ## The left-behind watch (R125 to R128) -/

/-- Set every watched flag. -/
def State.setWatched (f : Pos → Bool) (s : State) : State :=
  { s with positions := PerPos.ofFn fun p => { s.pos p with watched := f p } }

/-- The watch ends: its timer stops and every watched flag is cleared (R128). -/
def State.endWatch (s : State) : State :=
  { s with vehicle := { s.vehicle with watch := none } }.setWatched fun _ => false

/-- Whether the start of the watch marks a position (R125). -/
def State.startsWatched (s : State) (p : Pos) : Bool :=
  (s.entry p).enabled && (s.pos p).cls.stable.leftBehind

/-- A time in seconds as quanta. -/
def seconds (n : Nat) : Nat := n * 1000 * Config.quantaPerMs

/-- The change of ignition from RUN to OFF starts the watch, when it is inactive and some position is marked (R125). -/
def State.startWatch (s : State) : State :=
  if s.watching then s
  else
    let marked := s.startsWatched
    let time := if allPos.any marked then some (seconds s.config.settings.firstDelay) else none
    { s with vehicle := { s.vehicle with watch := time } }.setWatched marked

/-- Whether a marked position stays marked at an expiry: watched classes and FAULT (R127). -/
def OccClass.keepsMark (c : OccClass) : Bool := c.leftBehind || c = .fault

/-- The watch timer expires: marks are judged; LEFT_BEHIND is posted and the timer loaded again, or the watch ends
(R127). -/
def State.judgeWatch (s : State) : State :=
  let keeps := fun p => (s.pos p).watched && (s.pos p).cls.stable.keepsMark
  if allPos.any keeps then
    let s := (s.setWatched keeps).post .cabin .leftBehind 0 (maskOf keeps)
    { s with vehicle := { s.vehicle with watch := some (seconds s.config.settings.repeatTime) } }
  else s.endWatch

/-! ## Vehicle reports (R122 to R124) -/

/-- The largest speed a report is taken as (R122). -/
def speedLimit : Nat := 250

/-- A report is stored: the four values, and FRESH with 1000 ms (R122). -/
def State.storeReport (i : Ignition) (speed : Nat) (g : Gear) (d : Door) (s : State) : State :=
  { s with vehicle := { s.vehicle with
      ignition := i, speed := min speed speedLimit, gear := g, door := d, freshTimer := some Config.freshnessTime } }

/-- The watch at a taken report: a change from RUN to OFF starts it, RUN or ACC ends it (R124 step 3). -/
def State.watchReport (before : Ignition) (s : State) : State :=
  match s.vehicle.ignition with
  | .off => if before = .run then s.startWatch else s
  | .run | .acc => s.endWatch
  | .unknown => s

/-- A taken report with its effects, up to the eco countdown, which every step judges at its end (R124). -/
def State.takeReport (i : Ignition) (speed : Nat) (g : Gear) (d : Door) (s : State) : State :=
  let held := s.standstill
  let before := s.vehicle.ignition
  let s := s.storeReport i speed g d
  let s := if held && !s.standstill then s.loseStandstill else s
  let s := (s.watchReport before).forAll fun p s => s.evaluate p
  s.applyDeferred

/-- The freshness timer expires: STALE, and a loss of standstill takes effect (R123). -/
def State.goStale (s : State) : State :=
  let held := s.standstill
  let s := { s with vehicle := { s.vehicle with freshTimer := none } }
  if held then s.loseStandstill else s

/-! ## HOLD (R111 to R116) -/

/-- HOLD taken: it becomes active or is extended, the timer is loaded with the hold limit, the hold count rises, and a
snapshot is pushed (R111, R112). -/
def State.startHold (s : State) : State :=
  let count := min (s.restraint.holdCount + 1) 255
  let s := { s with restraint := { s.restraint with
      hold := some (seconds s.config.settings.holdLimit), holdCount := count, lastExpired := false } }
  s.pushSnapshot.abortCapture .locked

/-- HOLD ends, and the end takes effect: a pending deferred commit may be applied (R116). -/
def State.endHold (s : State) : State :=
  { s with restraint := { s.restraint with hold := none } }.applyDeferred

/-- The hold timer expires: HOLD ends, the last-hold-expired flag is set, HOLD_EXPIRED is posted, and the end takes
effect (R115). -/
def State.expireHold (s : State) : State :=
  let s := { s with restraint := { s.restraint with hold := none, lastExpired := true } }
  let s := s.post .safety .holdExpired 0 (payloadOf s.restraint.holdCount s.restraint.snapshots.length)
  s.applyDeferred

end Sys2Proof.Machine
end

