-- ==== Sys2Proof/Machine/Startup.lean ====
section
/-! DEFINITION. Resets and the start-up load (spec 10, R152, R153), and the save (R151). -/

namespace Sys2Proof.Machine

/-- All work in progress ends and every block takes its reset values; the live configuration, the store and the snapshot
stack are kept (R18, R38, R54, R70, R88, R106, R121, R133, R147, R153). The suppression state is INDETERMINATE until the
load has ended, as PSO shows it (R109, log entry 9). The scan timer and the reminder tick are stopped. -/
def State.clearBlocks (s : State) : State :=
  { s with
    saveImage := none
    staging := .empty
    scanner := { number := 0, timer := none, probeCount := 0, firstScan := true, probing := false,
                 lines := ⟨.fresh, .fresh⟩ }
    positions := PerPos.ofFn fun p => .fresh (s.entry p).enabled 0
    capture := none
    reminderTimer := none
    restraint := { s.restraint with
      suppression := .indeterminate, sequence := 0, hold := none, holdCount := 0, lastExpired := false }
    vehicle := .fresh
    ports := ⟨.fresh, .fresh, .fresh⟩ }

/-- The start-up load begins: PSO alternates as for INDETERMINATE until it ends (R109, R152). The alternation begins with a new high
half, also where PSO alternated before. Log entry 42 (DESIGN CHOICE). -/
def State.beginLoad (s : State) : State :=
  { s.clearBlocks with
    phase := .loading
    restraint := { s.clearBlocks.restraint with pso := .startAlternating } }

/-- The live configuration that a load result gives: the stored one, or the defaults (R152). -/
def loadedConfig (r : Except LoadFailure LiveConfig) : LiveConfig :=
  match r with
  | .ok c => c
  | .error _ => defaultConfig

/-- The configuration state that a load result gives (R152). -/
def loadedState (r : Except LoadFailure LiveConfig) : ConfigState :=
  match r with
  | .ok _ => .loaded
  | .error _ => .defaulted

/-- Queue CONFIG_DEFAULTED with the reason, when the load defaulted (R152 step 3). -/
def State.reportLoad (r : Except LoadFailure LiveConfig) (s : State) : State :=
  match r with
  | .ok _ => s
  | .error e => s.post .service .configDefaulted 0 (payloadOf 0 e.code)

/-- The start-up load ends (R152): the store is checked, the blocks take their reset values with the configuration just
loaded, the suppression state is derived without a notice, CONFIG_DEFAULTED is queued if the load defaulted, and the
reminder tick and the scan timer start, the first scan tick at once. Log entry 9 (DEDUCED). -/
def State.endLoad (s : State) : State :=
  let r := checkStore s.store
  let s := ({ s with config := loadedConfig r, configState := loadedState r }).clearBlocks
  let d := s.decision
  let s := { s with restraint := { s.restraint with suppression := d, pso := d.line } }
  let s := s.reportLoad r
  { s with
    phase := .running
    reminderTimer := some Config.reminderSpacing
    scanner := { s.scanner with timer := some 0 } }

/-! ## The save (R151) -/

/-- A save is taken: the live configuration is the image, and the store's mark becomes INCOMPLETE. -/
def State.beginSave (s : State) : State :=
  { s with saveImage := some s.config.image, store := { s.store with complete := false } }

/-- The save ends: the store read back is compared with the image, the mark is set when they agree, SAVE_DONE is posted,
and after that a pending deferred commit may be applied. Log entry 14 (DESIGN CHOICE). -/
def State.endSave (readBack : StoreImage) (s : State) : State :=
  match s.saveImage with
  | none => s
  | some image =>
    let agree : Bool := readBack = image
    let s := { s with saveImage := none, store := { complete := agree, image := readBack } }
    let s := s.post .service .saveDone 0 (payloadOf 0 (if agree then 0 else 1))
    s.applyDeferred

end Sys2Proof.Machine
end

