-- ==== Sys2Proof/Machine/Records.lean ====
section
/-! DEFINITION. The data of the replies, byte by byte (spec 11.2 to 11.4). -/

namespace Sys2Proof.Machine

/-- The data of IDENTIFY PART on a port (R140, R155). -/
def State.identifyData (s : State) (p : Port) : List Byte :=
  halfBytes Config.partCode ++ [Config.formatVersion, oneByte s.configState.code, oneByte (portCode p)]

/-- The flags byte of READ STATUS (spec 11.4). -/
def State.statusFlags (s : State) : Byte :=
  flagsByte [s.holdActive, s.restraint.lastExpired, s.standstill, s.vehicle.isFresh, s.vehicle.testMode,
    s.capture.isSome, s.saving, s.staging.deferred]

/-- The data of READ STATUS on a port, with the scan mode that stood before the wake (R144). -/
def State.statusData (s : State) (p : Port) (mode : ScanMode) : List Byte :=
  [oneByte mode.code] ++ halfBytes s.scanner.number ++
  [s.statusFlags, oneByte s.vehicle.ignition.code, oneByte s.vehicle.speed, oneByte s.vehicle.gear.code,
    oneByte s.vehicle.door.code, oneByte s.configState.code, oneByte (s.port p).queue.length,
    flagByte (s.port p).overflow] ++
  twoBytes (s.port p).drops

/-- The data of READ SUMMARY (R87). -/
def State.summaryData (s : State) : List Byte :=
  (allPos.flatMap fun p =>
    let c := (s.pos p).cls
    [oneByte c.stable.code, oneByte c.cause.code, c.sequence]) ++
  [flagByte s.holdActive] ++ halfBytes s.scanner.number

/-- A stored tag as six bytes, zero when there is none (R155). -/
def tagOrZero (t : Option TagRecord) : List Byte :=
  match t with
  | some t => t.bytes
  | none => List.replicate 6 0

/-- The data of READ POSITION (R53, R69, R87, R105). -/
def State.positionData (s : State) (p : Pos) : List Byte :=
  let r := s.pos p
  [oneByte (posNumber p), oneByte r.cls.stable.code, oneByte r.cls.cause.code, oneByte r.cls.candidate.code,
    oneByte r.cls.agreement, oneByte r.cls.lastInstant.code, r.cls.sequence,
    flagsByte [r.cls.resolveMark, r.load.seeded, r.child.loadFlag, r.reminder.confirmed, r.watched,
      r.injection.isSome]] ++
  twoBytes r.load.w ++ twoBytes r.load.f ++
  [oneByte r.load.band, oneByte r.load.n, oneByte r.load.k, oneByte r.child.accepted.code,
    oneByte r.child.pending.code, oneByte r.child.pendingCount, oneByte r.child.dropout,
    oneByte r.child.tags.length] ++
  tagOrZero r.child.tags[0]? ++ tagOrZero r.child.tags[1]? ++
  [oneByte r.buckle.belt.code, oneByte r.buckle.pending.code, oneByte r.buckle.count,
    oneByte r.reminder.step.code] ++
  twoBytes r.reminder.timer ++ [oneByte r.reminder.reissues, oneByte r.reminder.scans]

/-- A notice as six bytes (spec 11.4). -/
def Notice.bytes (n : Notice) : List Byte :=
  [oneByte n.kind.code, oneByte n.subject] ++ halfBytes n.payload ++ halfBytes n.scan

/-- The class part of READ SUPPRESSION: the airbag position's number, stable class and fault cause; 0, ABSENT and NONE when
no airbag position is mapped (R110). -/
def State.airbagData (s : State) : List Byte :=
  match s.airbag with
  | none => [0, oneByte OccClass.absent.code, oneByte FaultCause.none.code]
  | some p => [oneByte (posNumber p), oneByte (s.pos p).cls.stable.code, oneByte (s.pos p).cls.cause.code]

/-- The data of READ SUPPRESSION (R110). -/
def State.suppressionData (s : State) : List Byte :=
  [oneByte s.restraint.suppression.code, s.restraint.sequence] ++ s.airbagData ++
  [flagByte s.holdActive, flagByte s.restraint.lastExpired, oneByte s.restraint.holdCount,
    oneByte s.restraint.snapshots.length]

/-- A snapshot as 52 bytes (spec 11.4). -/
def Snapshot.bytes (x : Snapshot) : List Byte :=
  [oneByte x.number] ++ halfBytes x.scan ++ [oneByte x.suppression.code] ++
  (allPos.flatMap fun p =>
    let e := x.table.get p
    [oneByte e.stable.code, oneByte e.belt.code, oneByte e.child.code])

/-- The data of READ MAP ENTRY (R17). -/
def State.mapEntryData (s : State) (p : Pos) : List Byte :=
  let r := s.pos p
  (s.entry p).bytes ++
  [oneByte r.fit.code, flagsByte [r.childCap, r.beltCap], flagByte (s.staging.holds p), oneByte s.staging.count,
    flagByte s.staging.deferred]

/-- The data of READ STAGED (R17, R155). -/
def State.stagedData (s : State) (p : Pos) : List Byte :=
  match s.staging.entries.get p with
  | some e => flagByte true :: e.bytes
  | none => flagByte false :: List.replicate 17 0

/-- A slot's capability byte: bit 0 tag reader, bit 1 buckle sensor (spec 11.1). READ NODE sends bits 7 to 2 as zero, whatever the
node sent in them. Log entry 38 (DESIGN CHOICE). -/
def capByte (c : Bool × Bool) : Byte := flagsByte [c.1, c.2]

/-- The identity part of READ NODE: recorded or not, identity, slot count, four capability bytes (R37, R155). -/
def NodeRec.identityData (n : NodeRec) : List Byte :=
  match n.identity with
  | none => List.replicate 9 0
  | some id =>
    [flagByte true] ++ identityBytes id.id ++ [oneByte id.slots] ++
    ([0, 1, 2, 3].map fun i => capByte (id.caps.getD i (false, false)))

/-- The data of READ NODE (R37). -/
def State.nodeData (s : State) (l : Line) (a : Fin 6) : List Byte :=
  let n := s.node l a
  [oneByte (lineCode l), oneByte (a.val + 1), oneByte n.state.code, oneByte n.misses, oneByte n.verdict.code] ++
  n.identityData ++ twoBytes n.timeouts ++ twoBytes n.crcErrors ++ twoBytes n.formatErrors ++
  halfBytes s.scanner.number

end Sys2Proof.Machine
end

