-- ==== Sys2Proof/Machine/Ports.lean ====
section
/-! DEFINITION. Frames on the ports (R134 to R139): discarding, judging a complete frame, and replying. -/

namespace Sys2Proof.Machine

/-- What a taken command answers: the state it leaves, the status and the data of its reply. -/
structure Answer where
  state : State
  status : Status
  data : List Byte

/-- An answer with no data. -/
def State.answer (s : State) (st : Status) : Answer := { state := s, status := st, data := [] }

/-- An OK answer with data. -/
def State.answerData (s : State) (data : List Byte) : Answer := { state := s, status := .ok, data := data }

/-- The bytes of a reply: the command byte echoed, the status, the data and the check byte (R137). -/
def replyBytes (cmd : Byte) (st : Status) (data : List Byte) : List Byte :=
  let b := cmd :: oneByte st.code :: data
  b ++ [checkByte b]

/-- The reply of a port begins (R136). -/
def State.sendReply (p : Port) (bytes : List Byte) (s : State) : State :=
  s.setPort p { s.port p with reply := some bytes }

/-- Characters that arrive on a port are received: the part runs, or its reply to RESET PART is being sent on this port.
At every other moment of a reset they are discarded uncounted (R147, R153). -/
def State.listening (s : State) (p : Port) : Bool :=
  s.phase = .running || (s.phase = .resetReply && p = .service)

/-- Count a frame drop, saturating at 65535 (R135, R136). -/
def PortState.countDrop (x : PortState) : PortState := { x with drops := min (x.drops + 1) countLimit }

/-- A frame that begins while a reply is in progress is discarded whole: one drop, the assembler discards, and the frame
is reported (R136). -/
def State.discardFrame (p : Port) (s : State) : State :=
  (s.setPort p { (s.port p).countDrop with assembler := .discarding }).frameReported

/-- Judge a complete frame: check byte, command code, port rights, and then the command itself (R137). -/
def State.judgeFrame (p : Port) (cmd : Byte) (operands : List Byte) (chk : Byte) (act : State → Answer) (s : State) :
    Answer :=
  if byteSum (cmd :: operands ++ [chk]) ≠ 0 then s.answer .badCheck
  else if (operandLength cmd).isNone then s.answer .unknown
  else if !permitted p cmd then s.answer .notPermitted
  else act s

/-- A frame whose last character arrives on a port: ignored while the port does not listen or still discards, discarded
whole while a reply is in progress, and otherwise reported, judged and answered (R136, R137). Every step ends with the
eco countdown judged (R129). Log entry 13 (DESIGN CHOICE). -/
def State.takeFrame (p : Port) (cmd : Byte) (operands : List Byte) (chk : Byte) (act : State → Answer) (s : State) :
    State :=
  if !s.listening p || (s.port p).assembler = .discarding then s
  else if (s.port p).reply.isSome then (s.discardFrame p).judgeEco
  else
    let s := (s.setPort p { s.port p with assembler := .idle }).frameReported
    let a := s.judgeFrame p cmd operands chk act
    (a.state.sendReply p (replyBytes cmd a.status a.data)).judgeEco

/-- An event of the running part: taken while the part runs, lost at every other moment of a reset (R153); the eco
countdown is judged at its end (R129). Log entry 12 (DESIGN CHOICE). -/
def State.event (f : State → State) (s : State) : State :=
  if s.phase = .running then (f s).judgeEco else s

/-- A command on a position that its operand names: BAD_ARG when the operand is outside 1 to 16. -/
def State.onPosition (n : Byte) (act : Pos → Answer) (s : State) : Answer :=
  match positionOf n with
  | some p => act p
  | none => s.answer .badArg

/-- A service write after the checks its own rule places first: refused at the gate, or going on (R139). -/
def State.gated (s : State) (act : Answer) : Answer :=
  match s.gate with
  | some st => s.answer st
  | none => act

end Sys2Proof.Machine
end

