-- ==== Sys2Proof/Machine/CabinPort.lean ====
section
/-! DEFINITION. Meanings of the cabin port's commands (R102, R103, R122, R128). -/

namespace Sys2Proof.Machine

/-- The answer of VEHICLE STATE: codes outside their sets are refused, everything else is taken (R122). -/
def State.reportAnswer (ignition speed gear door : Byte) (s : State) : Answer :=
  match Ignition.ofReport ignition.toNat, Gear.ofCode gear.toNat, Door.ofCode door.toNat with
  | some i, some g, some d => (s.takeReport i speed.toNat g d).answer .ok
  | _, _, _ => s.answer .badArg

/-- VEHICLE_STATE (R122). -/
def execVehicleState (p : Port) (ignition speed gear door chk : Byte) (s : State) :
    Host.Outcome State Fault Refusal :=
  .next (s.takeFrame p 0x40 [ignition, speed, gear, door] chk (State.reportAnswer ignition speed gear door))

/-- The answer of CONFIRM AUDIBLE for a position (R102). -/
def State.confirmAnswer (p : Pos) (s : State) : Answer :=
  if (s.pos p).reminder.step = .audible then
    (s.setReminder p { (s.pos p).reminder with confirmed := true }).answer .ok
  else s.answer .tooLate

/-- CONFIRM_AUDIBLE (R102). -/
def execConfirmAudible (p : Port) (n chk : Byte) (s : State) : Host.Outcome State Fault Refusal :=
  .next (s.takeFrame p 0x41 [n] chk fun s => s.onPosition n fun q => s.confirmAnswer q)

/-- Mute a position that is in AUDIBLE (R103). -/
def State.muteOne (p : Pos) (s : State) : State :=
  if (s.pos p).reminder.step = .audible then s.moveReminder p .muted 0 else s

/-- The answer of MUTE for the positions concerned: OK when at least one was in AUDIBLE (R103). -/
def State.muteAnswer (ps : List Pos) (s : State) : Answer :=
  if ps.any fun p => (s.pos p).reminder.step = .audible then (s.forPositions ps State.muteOne).answer .ok
  else s.answer .tooLate

/-- MUTE (R103): operand 0 concerns every position. -/
def execMute (p : Port) (n chk : Byte) (s : State) : Host.Outcome State Fault Refusal :=
  .next (s.takeFrame p 0x42 [n] chk fun s =>
    if n = 0 then s.muteAnswer allPos else s.onPosition n fun q => s.muteAnswer [q])

/-- DISMISS_LEFT_BEHIND (R128). -/
def execDismissLeftBehind (p : Port) (chk : Byte) (s : State) : Host.Outcome State Fault Refusal :=
  .next (s.takeFrame p 0x43 [] chk fun s => if s.watching then s.endWatch.answer .ok else s.answer .tooLate)

end Sys2Proof.Machine
end

