-- ==== Sys2Proof/Machine/Lines.lean ====
section
/-! DEFINITION. Meanings of the rows of the seat lines (R19 to R35). -/

namespace Sys2Proof.Machine

/-- SCAN_TICK (R20 to R22, R101). -/
def execScanTick (s : State) : Host.Outcome State Fault Refusal := .next (s.event State.beginScan)

/-- REPLY_WINDOW_CLOSE (R19, R25 case 1): no reply character began. -/
def execReplyWindowClose (l : Line) (s : State) : Host.Outcome State Fault Refusal :=
  .next (s.event (State.endExchange l []))

/-- SEAT_REPLY_RECEIVED (R25): as many characters as the length field gives have arrived. -/
def execSeatReplyReceived (l : Line) (chars : List Byte) (s : State) : Host.Outcome State Fault Refusal :=
  .next (s.event (State.endExchange l chars))

/-- SEAT_REPLY_GAP (R19, R25): a gap ended reception; what was received is judged. -/
def execSeatReplyGap (l : Line) (chars : List Byte) (s : State) : Host.Outcome State Fault Refusal :=
  .next (s.event (State.endExchange l chars))

/-- EXCHANGE_LIMIT (R19, R25): the exchange limit ended reception; what was received is judged. -/
def execExchangeLimit (l : Line) (chars : List Byte) (s : State) : Host.Outcome State Fault Refusal :=
  .next (s.event (State.endExchange l chars))

end Sys2Proof.Machine
end

