-- ==== Sys2Proof/Machine/Links.lean ====
section
/-! DEFINITION. The frame assembler of a port, character by character (R134), and the meanings of the rows that concern the
characters and frames of a port (R135 to R137). -/

namespace Sys2Proof.Machine

/-! ## The frame assembler (R134, R136) -/

/-- The characters that an assembler holds of the frame being assembled (R134). -/
def Assembler.received : Assembler → List Byte
  | .idle => []
  | .assembling b => b
  | .discarding => []

/-- A port receives one character: a character that the port does not listen to, or discards, leaves it as it is; one that
arrives while a reply is in progress begins a frame discarded whole (R136); any other starts or goes on with a frame, whose
length its first byte decides, and the last completes it (R134). With the state comes the row that the character brings about,
if any: the complete frame's command, or the discarded frame. -/
def State.receiveChar (p : Port) (b : Byte) (s : State) : State × Option Instr :=
  let x := s.port p
  if !s.listening p || x.assembler = .discarding then (s, none)
  else if x.reply.isSome then (s, some (.frameDiscarded p))
  else
    let bytes := x.assembler.received ++ [b]
    if bytes.length < frameLength (byteAt bytes 0) then (s.setPort p { x with assembler := .assembling bytes }, none)
    else (s.setPort p { x with assembler := .idle }, decodeFrame p bytes)

/-! ## Rows -/

/-- INTER_BYTE_LIMIT (R135): a partial frame is discarded and counted. No frame is being assembled while a reply is in
progress or the assembler discards (R136), so nothing happens then. Log entry 13 (DESIGN CHOICE). -/
def execInterByteLimit (p : Port) (s : State) : Host.Outcome State Fault Refusal :=
  .next
    (if s.listening p && (s.port p).reply.isNone && (s.port p).assembler ≠ .discarding then
      s.setPort p { (s.port p).countDrop with assembler := .idle }
    else s)

/-- FRAME_DISCARDED (R136): a character begins a frame while a reply is in progress. A discard already running goes on
and counts nothing more. -/
def execFrameDiscarded (p : Port) (s : State) : Host.Outcome State Fault Refusal :=
  .next
    (if s.listening p && (s.port p).reply.isSome && (s.port p).assembler ≠ .discarding then
      (s.discardFrame p).judgeEco
    else s)

/-- DISCARDING_GAP_END (R136): a gap ends discarding. -/
def execDiscardingGapEnd (p : Port) (s : State) : Host.Outcome State Fault Refusal :=
  .next (if (s.port p).assembler = .discarding then s.setPort p { s.port p with assembler := .idle } else s)

/-- UNKNOWN_COMMAND (R137 case 2): the two bytes of a frame whose command byte names no command. A command byte that
names a command makes no frame of this row. Log entry 24 (DESIGN CHOICE). -/
def execUnknownCommand (p : Port) (cmd chk : Byte) (s : State) : Host.Outcome State Fault Refusal :=
  if (operandLength cmd).isSome then .fault .notThatRow
  else .next (s.takeFrame p cmd [] chk fun s => s.answer .unknown)

/-- REPLY_END (R136): the last stop bit of a port's reply has been sent. The end of the reply to RESET PART is the row
RESET_PART_REPLY_SENT (R153). Log entry 23 (DESIGN CHOICE). -/
def execReplyEnd (p : Port) (s : State) : Host.Outcome State Fault Refusal :=
  .next (if s.phase = .resetReply ∧ p = .service then s else s.setPort p { s.port p with reply := none })

end Sys2Proof.Machine
end

