-- ==== Sys2Proof/Machine/Reads.lean ====
section
/-! DEFINITION. Meanings of the commands common to all ports (R87, R140, R143, R144). -/

namespace Sys2Proof.Machine

/-- IDENTIFY_PART (R140). -/
def execIdentifyPart (p : Port) (chk : Byte) (s : State) : Host.Outcome State Fault Refusal :=
  .next (s.takeFrame p 0x01 [] chk fun s => s.answerData (s.identifyData p))

/-- Clear a port's overflow flag (R144). -/
def State.clearOverflow (p : Port) (s : State) : State := s.setPort p { s.port p with overflow := false }

/-- READ_STATUS (R144): the mode reported is the one that stood before this frame's wake, and the overflow flag is
cleared after the reply has been formed. -/
def execReadStatus (p : Port) (chk : Byte) (s : State) : Host.Outcome State Fault Refusal :=
  let mode := s.vehicle.mode
  .next (s.takeFrame p 0x02 [] chk fun s => (s.clearOverflow p).answerData (s.statusData p mode))

/-- READ_SUMMARY (R87). -/
def execReadSummary (p : Port) (chk : Byte) (s : State) : Host.Outcome State Fault Refusal :=
  .next (s.takeFrame p 0x03 [] chk fun s => s.answerData s.summaryData)

/-- READ_POSITION (R87). -/
def execReadPosition (p : Port) (n chk : Byte) (s : State) : Host.Outcome State Fault Refusal :=
  .next (s.takeFrame p 0x04 [n] chk fun s => s.onPosition n fun q => s.answerData (s.positionData q))

/-- Remove and return the oldest notice of a port's queue (R143). -/
def State.takeNotice (p : Port) (s : State) : Answer :=
  match (s.port p).queue with
  | [] => s.answerData (List.replicate 7 0)
  | n :: rest =>
    ((s.setPort p { s.port p with queue := rest }).judgeAttention p).answerData (n.bytes ++ [oneByte rest.length])

/-- READ_NOTICE (R143). -/
def execReadNotice (p : Port) (chk : Byte) (s : State) : Host.Outcome State Fault Refusal :=
  .next (s.takeFrame p 0x05 [] chk (State.takeNotice p))

end Sys2Proof.Machine
end

