-- ==== Sys2Proof/Machine/Resets.lean ====
section
/-! DEFINITION. Meanings of the reset rows (R152, R153). -/

namespace Sys2Proof.Machine

/-- POWER_ON (R153): everything but the store starts afresh, the snapshot stack is emptied, the load begins. While RESET_N is held
low too: PSO then alternates, and the RESET_LINE_RELEASE that follows finds no low line. Log entry 36 (DESIGN CHOICE). -/
def execPowerOn (s : State) : Host.Outcome State Fault Refusal :=
  .next { s.beginLoad with restraint := { s.beginLoad.restraint with snapshots := [] } }

/-- RESET_LINE_ASSERT (R153): RESET_N goes low; work in progress, a save and HOLD end, and PSO is held high. -/
def execResetLineAssert (s : State) : Host.Outcome State Fault Refusal :=
  .next { s.clearBlocks with
    phase := .resetLow
    restraint := { s.clearBlocks.restraint with pso := .high } }

/-- RESET_LINE_RELEASE (R152): the load begins, with the snapshot stack kept. Nothing happens unless RESET_N is low. -/
def execResetLineRelease (s : State) : Host.Outcome State Fault Refusal :=
  .next (if s.phase = .resetLow then s.beginLoad else s)

/-- CONFIGURATION_LOAD_END (R152). Nothing happens unless the load runs. -/
def execConfigurationLoadEnd (s : State) : Host.Outcome State Fault Refusal :=
  .next (if s.phase = .loading then s.endLoad else s)

/-- RESET_PART (R153): a service write; the OK reply is sent first, and the reset follows it. -/
def execResetPart (p : Port) (chk : Byte) (s : State) : Host.Outcome State Fault Refusal :=
  .next (s.takeFrame p 0x71 [] chk fun s => s.gated ({ s with phase := .resetReply }.answer .ok))

/-- RESET_PART_REPLY_SENT (R153): the part resets, keeping the snapshot stack, and the load begins. Nothing happens
unless the reply to RESET PART is being sent. -/
def execResetPartReplySent (s : State) : Host.Outcome State Fault Refusal :=
  .next (if s.phase = .resetReply then s.beginLoad else s)

end Sys2Proof.Machine
end

