-- ==== Sys2Proof/Machine/SafetyPort.lean ====
section
/-! DEFINITION. Meanings of the safety port's commands (spec 07). -/

namespace Sys2Proof.Machine

/-- READ_SUPPRESSION (R110). -/
def execReadSuppression (p : Port) (chk : Byte) (s : State) : Host.Outcome State Fault Refusal :=
  .next (s.takeFrame p 0x20 [] chk fun s => s.answerData s.suppressionData)

/-- The answer of HOLD: the number of the snapshot pushed and the count after the push (R111). -/
def State.holdAnswer (s : State) : Answer :=
  let s := s.startHold
  s.answerData [oneByte s.restraint.holdCount, oneByte s.restraint.snapshots.length]

/-- HOLD (R111, R112). -/
def execHold (p : Port) (chk : Byte) (s : State) : Host.Outcome State Fault Refusal :=
  .next (s.takeFrame p 0x21 [] chk State.holdAnswer)

/-- The answer of RELEASE by HOLD and the last-hold-expired flag (R114). -/
def State.releaseAnswer (s : State) : Answer :=
  if s.holdActive then s.endHold.answer .ok
  else if s.restraint.lastExpired then
    { s with restraint := { s.restraint with lastExpired := false } }.answer .tooLate
  else s.answer .ok

/-- RELEASE (R114). -/
def execRelease (p : Port) (chk : Byte) (s : State) : Host.Outcome State Fault Refusal :=
  .next (s.takeFrame p 0x22 [] chk State.releaseAnswer)

/-- READ_SNAPSHOT (R118). -/
def execReadSnapshot (p : Port) (d chk : Byte) (s : State) : Host.Outcome State Fault Refusal :=
  .next (s.takeFrame p 0x23 [d] chk fun s =>
    match s.restraint.snapshots[d.toNat]? with
    | some x =>
      if d.toNat ≤ 3 then s.answerData (x.bytes ++ [oneByte s.restraint.snapshots.length]) else s.answer .badArg
    | none => s.answer .badArg)

/-- Remove and return the top snapshot (R119). -/
def State.popAnswer (s : State) : Answer :=
  match s.restraint.snapshots with
  | [] => s.answerData (List.replicate 53 0)
  | x :: rest =>
    { s with restraint := { s.restraint with snapshots := rest } }.answerData (x.bytes ++ [oneByte rest.length])

/-- POP_SNAPSHOT (R119). -/
def execPopSnapshot (p : Port) (chk : Byte) (s : State) : Host.Outcome State Fault Refusal :=
  .next (s.takeFrame p 0x24 [] chk State.popAnswer)

end Sys2Proof.Machine
end

