-- ==== Sys2Proof/Machine/ServicePort.lean ====
section
/-! DEFINITION. Meanings of the service port's commands: map and staging, zero capture, profiles and settings, save,
nodes, test mode and injection, snapshots (spec 01, 02, 03, 07, 08, 10). -/

namespace Sys2Proof.Machine

/-! ## Map and staging -/

/-- READ_MAP_ENTRY (R17). -/
def execReadMapEntry (p : Port) (n chk : Byte) (s : State) : Host.Outcome State Fault Refusal :=
  .next (s.takeFrame p 0x60 [n] chk fun s => s.onPosition n fun q => s.answerData (s.mapEntryData q))

/-- READ_STAGED (R17). -/
def execReadStaged (p : Port) (n chk : Byte) (s : State) : Host.Outcome State Fault Refusal :=
  .next (s.takeFrame p 0x61 [n] chk fun s => s.onPosition n fun q => s.answerData (s.stagedData q))

/-- The answer of STAGE ENTRY (R9): operands, then the staging lock, then the entry is stored. -/
def State.stageAnswer (n : Byte) (bytes : List Byte) (s : State) : Answer :=
  match positionOf n, MapEntry.ofBytes bytes with
  | some p, some e => if s.staging.deferred then s.answer .busy else (s.stage p e).answer .ok
  | _, _ => s.answer .badArg

/-- STAGE_ENTRY (R9). -/
def execStageEntry (p : Port) (n : Byte) (entry : Vector Byte 17) (chk : Byte) (s : State) :
    Host.Outcome State Fault Refusal :=
  .next (s.takeFrame p 0x62 (n :: entry.toList) chk (State.stageAnswer n entry.toList))

/-- The answer of SWAP BINDINGS (R10). -/
def State.swapAnswer (a b : Byte) (s : State) : Answer :=
  match positionOf a, positionOf b with
  | some p, some q =>
    if p = q then s.answer .badArg
    else if s.staging.deferred then s.answer .busy
    else (s.swap p q).answer .ok
  | _, _ => s.answer .badArg

/-- SWAP_BINDINGS (R10). -/
def execSwapBindings (p : Port) (a b chk : Byte) (s : State) : Host.Outcome State Fault Refusal :=
  .next (s.takeFrame p 0x63 [a, b] chk (State.swapAnswer a b))

/-- DISCARD_STAGE (R11): the staging area is emptied, the deferred commit cancelled, the lock opened. -/
def execDiscardStage (p : Port) (chk : Byte) (s : State) : Host.Outcome State Fault Refusal :=
  .next (s.takeFrame p 0x64 [] chk fun s => { s with staging := .empty }.answer .ok)

/-- The answer of COMMIT MAP, by the first case of R12 that holds. -/
def State.commitAnswer (s : State) : Answer :=
  if s.staging.count = 0 then s.answer .ok
  else if s.holdActive then s.answer .locked
  else if s.saving then s.answer .busy
  else if s.staging.deferred then s.answer .busy
  else if !mapConsistent s.stagedMap then s.answer .conflict
  else if s.standstill then s.applyStaged.answer .ok
  else { s with staging := { s.staging with deferred := true } }.answer .deferred

/-- COMMIT_MAP (R12). -/
def execCommitMap (p : Port) (chk : Byte) (s : State) : Host.Outcome State Fault Refusal :=
  .next (s.takeFrame p 0x65 [] chk State.commitAnswer)

/-! ## Zero capture -/

/-- The answer of ZERO CAPTURE after the check of its operand and the gate (R48 cases 4 to 7). -/
def State.captureAnswer (p : Pos) (s : State) : Answer :=
  if s.capture.isSome then s.answer .busy
  else if s.staging.deferred then s.answer .busy
  else if !s.serves p then s.answer .badArg
  else { s with capture := some { position := p, count := 0, sum := 0 } }.answer .accepted

/-- ZERO_CAPTURE (R48). -/
def execZeroCapture (p : Port) (n chk : Byte) (s : State) : Host.Outcome State Fault Refusal :=
  .next (s.takeFrame p 0x66 [n] chk fun s => s.onPosition n fun q => s.gated (s.captureAnswer q))

/-! ## Profiles, settings, save -/

/-- READ_PROFILE (R149). -/
def execReadProfile (p : Port) (n chk : Byte) (s : State) : Host.Outcome State Fault Refusal :=
  .next (s.takeFrame p 0x67 [n] chk fun s =>
    match indexFromZero 4 n with
    | some i => s.answerData (n :: (s.config.profiles.get i).bytes)
    | none => s.answer .badArg)

/-- Replace one live profile. -/
def State.setProfile (i : Fin 4) (x : Profile) (s : State) : State :=
  { s with config := { s.config with profiles := s.config.profiles.set i.val x i.isLt } }

/-- The answer of SET PROFILE: profile number, gate, values (R149). -/
def State.setProfileAnswer (n : Byte) (bytes : List Byte) (s : State) : Answer :=
  match indexFromZero 4 n with
  | none => s.answer .badArg
  | some i =>
    s.gated
      (match Profile.ofBytes bytes with
      | some x => (s.setProfile i x).answer .ok
      | none => s.answer .badArg)

/-- SET_PROFILE (R149). -/
def execSetProfile (p : Port) (n : Byte) (profile : Vector Byte 31) (chk : Byte) (s : State) :
    Host.Outcome State Fault Refusal :=
  .next (s.takeFrame p 0x68 (n :: profile.toList) chk (State.setProfileAnswer n profile.toList))

/-- READ_SETTINGS (R150). -/
def execReadSettings (p : Port) (chk : Byte) (s : State) : Host.Outcome State Fault Refusal :=
  .next (s.takeFrame p 0x69 [] chk fun s => s.answerData s.config.settings.bytes)

/-- Replace the live settings and judge every attention line with them (R146, R150). -/
def State.setSettings (x : Settings) (s : State) : State :=
  let s := { s with config := { s.config with settings := x } }
  ((s.judgeAttention .safety).judgeAttention .cabin).judgeAttention .service

/-- The answer of SET SETTINGS: gate, then values (R150). -/
def State.setSettingsAnswer (bytes : List Byte) (s : State) : Answer :=
  s.gated
    (match Settings.ofBytes bytes with
    | some x => (s.setSettings x).answer .ok
    | none => s.answer .badArg)

/-- SET_SETTINGS (R150). -/
def execSetSettings (p : Port) (settings : Vector Byte 24) (chk : Byte) (s : State) :
    Host.Outcome State Fault Refusal :=
  .next (s.takeFrame p 0x6A settings.toList chk (State.setSettingsAnswer settings.toList))

/-- The answer of SAVE CONFIG (R151). -/
def State.saveAnswer (s : State) : Answer :=
  if s.holdActive || !s.standstill then s.answer .locked
  else if s.saving then s.answer .busy
  else s.beginSave.answer .accepted

/-- SAVE_CONFIG (R151). -/
def execSaveConfig (p : Port) (chk : Byte) (s : State) : Host.Outcome State Fault Refusal :=
  .next (s.takeFrame p 0x6B [] chk State.saveAnswer)

/-! ## Nodes -/

/-- READ_NODE (R37). -/
def execReadNode (p : Port) (line address chk : Byte) (s : State) : Host.Outcome State Fault Refusal :=
  .next (s.takeFrame p 0x6C [line, address] chk fun s =>
    match lineOfCode line.toNat, indexFromOne 6 address with
    | some l, some a => s.answerData (s.nodeData l a)
    | _, _ => s.answer .badArg)

/-! ## Test mode and injection -/

/-- Test mode becomes on, unless it is on (R131). -/
def State.testOn (s : State) : State := if s.vehicle.testMode then s else s.setTestMode true

/-- Test mode becomes off and all injections end, if it is on (R131). -/
def State.testOff (s : State) : State := if s.vehicle.testMode then s.endTestMode else s

/-- The answer of TEST MODE by its operand: OFF at all times, ON through the gate, anything else BAD_ARG (R131). -/
def State.testModeAnswer (operand : Byte) (s : State) : Answer :=
  if operand = 0 then s.testOff.answer .ok
  else if operand = 1 then s.gated (s.testOn.answer .ok)
  else s.answer .badArg

/-- TEST_MODE_ON (R131), and TEST MODE with an operand outside its set. -/
def execTestModeOn (p : Port) (operand chk : Byte) (s : State) : Host.Outcome State Fault Refusal :=
  .next (s.takeFrame p 0x6D [operand] chk (State.testModeAnswer operand))

/-- TEST_MODE_OFF (R131). -/
def execTestModeOff (p : Port) (chk : Byte) (s : State) : Host.Outcome State Fault Refusal :=
  .next (s.takeFrame p 0x6D [0] chk (State.testModeAnswer 0))

/-- Set a position's injection. -/
def State.setInjection (p : Pos) (x : Option SlotSample) (s : State) : State :=
  s.modPos p fun r => { r with injection := x }

/-- The answer of INJECT SAMPLE (R132): operand codes, gate, test mode, and a position that can take it. -/
def State.injectAnswer (n : Byte) (bytes : List Byte) (s : State) : Answer :=
  match positionOf n, injectedSample bytes with
  | some p, some x =>
    s.gated
      (if !s.vehicle.testMode then s.answer .badArg
      else if !s.serves p then s.answer .badArg
      else (s.setInjection p (some x)).answer .ok)
  | _, _ => s.answer .badArg

/-- INJECT_SAMPLE (R132). -/
def execInjectSample (p : Port) (n : Byte) (sample : Vector Byte 20) (chk : Byte) (s : State) :
    Host.Outcome State Fault Refusal :=
  .next (s.takeFrame p 0x6E (n :: sample.toList) chk (State.injectAnswer n sample.toList))

/-- END_INJECT (R132). -/
def execEndInject (p : Port) (n chk : Byte) (s : State) : Host.Outcome State Fault Refusal :=
  .next (s.takeFrame p 0x6F [n] chk fun s => s.onPosition n fun q => (s.setInjection q none).answer .ok)

/-! ## Snapshots -/

/-- CLEAR_SNAPSHOTS (R120). -/
def execClearSnapshots (p : Port) (chk : Byte) (s : State) : Host.Outcome State Fault Refusal :=
  .next (s.takeFrame p 0x70 [] chk fun s =>
    s.gated ({ s with restraint := { s.restraint with snapshots := [] } }.answer .ok))

end Sys2Proof.Machine
end

