-- ==== Sys2Proof/Machine/Timers.lean ====
section
/-! DEFINITION. Meanings of the timer rows. A row that says a timer expires is the expiry itself: it is taken whenever
that timer runs, whatever time the model has left on it, and a stopped timer does not expire (log entry 10). -/

namespace Sys2Proof.Machine

/-- The reminder tick lowers the running, unfrozen reminder timers (R92). -/
def State.lowerReminders (s : State) : State :=
  { s with
    positions := PerPos.ofFn fun p => (s.pos p).tick (s.entry p).reminderClass
    reminderTimer := some (reminderSpacing s.vehicle.testMode) }

/-- REMINDER_TICK (R92). A timer that reaches 0 expires by the expiry row of its step. Log entry 11 (DESIGN CHOICE). -/
def execReminderTick (s : State) : Host.Outcome State Fault Refusal := .next (s.event State.lowerReminders)

/-- A reminder step whose timer may expire at a position: in that step and not frozen (R92, R99). -/
def State.inStep (s : State) (p : Pos) (step : ReminderStep) : Bool :=
  (s.pos p).reminder.step = step && !(s.pos p).frozen

/-- GRACE_TIMER_EXPIRY (R95): to VISUAL. -/
def execGraceTimerExpiry (p : Pos) (s : State) : Host.Outcome State Fault Refusal :=
  .next (s.event fun s => if s.inStep p .grace then s.enterVisual p else s)

/-- VISUAL_TIMER_EXPIRY (R96): to AUDIBLE, while the reminder class is FULL. -/
def execVisualTimerExpiry (p : Pos) (s : State) : Host.Outcome State Fault Refusal :=
  .next (s.event fun s =>
    if s.inStep p .visual && (s.entry p).reminderClass = .full then s.enterAudible p else s)

/-- AUDIBLE_TIMER_EXPIRY (R97): to LAPSED. -/
def execAudibleTimerExpiry (p : Pos) (s : State) : Host.Outcome State Fault Refusal :=
  .next (s.event fun s => if s.inStep p .audible then s.lapse p else s)

/-- HOLD_TIMER_EXPIRY (R115). -/
def execHoldTimerExpiry (s : State) : Host.Outcome State Fault Refusal :=
  .next (s.event fun s => if s.holdActive then s.expireHold else s)

/-- FRESHNESS_TIMER_EXPIRY (R123). Where it aborts a zero capture with ignition OFF, the eco countdown may then start in this step:
R124 leaves it untouched here, R129 starts it when its conditions hold again. Log entry 37 (DESIGN CHOICE). -/
def execFreshnessTimerExpiry (s : State) : Host.Outcome State Fault Refusal :=
  .next (s.event fun s => if s.vehicle.isFresh then s.goStale else s)

/-- WATCH_TIMER_EXPIRY (R127). -/
def execWatchTimerExpiry (s : State) : Host.Outcome State Fault Refusal :=
  .next (s.event fun s => if s.watching then s.judgeWatch else s)

/-- ECO_COUNTDOWN_EXPIRY (R129): the scan mode becomes ECO and the scan timer starts again with its period. -/
def execEcoCountdownExpiry (s : State) : Host.Outcome State Fault Refusal :=
  .next (s.event fun s => if s.vehicle.eco.isSome then s.setMode .eco else s)

/-- A queue whose oldest entry has waited at least a time. -/
def ageOldest (limit : Nat) : List Notice → List Notice
  | [] => []
  | n :: rest => { n with waited := max n.waited limit } :: rest

/-- AGE_LIMIT_REACHED (R145): the oldest entry has waited the age limit, and the line is judged. -/
def execAgeLimitReached (p : Port) (s : State) : Host.Outcome State Fault Refusal :=
  .next (s.event fun s =>
    (s.setPort p { s.port p with queue := ageOldest (s.ageLimit p) (s.port p).queue }).judgeAttention p)

/-- SAVE_END (R151). -/
def execSaveEnd (readBack : StoreImage) (s : State) : Host.Outcome State Fault Refusal :=
  .next (s.event (State.endSave readBack))

end Sys2Proof.Machine
end

