-- ==== Sys2Proof/Machine/Dispatch.lean ====
section
/-! DEFINITION. The effect of each command and event, one arm per constructor. -/

namespace Sys2Proof.Machine

def exec (i : Instr) (s : State) : Host.Outcome State Fault Refusal :=
  match i with
  | .powerOn => Sys2Proof.Machine.execPowerOn s
  | .resetLineAssert => Sys2Proof.Machine.execResetLineAssert s
  | .resetLineRelease => Sys2Proof.Machine.execResetLineRelease s
  | .configurationLoadEnd => Sys2Proof.Machine.execConfigurationLoadEnd s
  | .scanTick => Sys2Proof.Machine.execScanTick s
  | .replyWindowClose l => Sys2Proof.Machine.execReplyWindowClose l s
  | .seatReplyReceived l chars => Sys2Proof.Machine.execSeatReplyReceived l chars s
  | .seatReplyGap l chars => Sys2Proof.Machine.execSeatReplyGap l chars s
  | .exchangeLimit l chars => Sys2Proof.Machine.execExchangeLimit l chars s
  | .reminderTick => Sys2Proof.Machine.execReminderTick s
  | .graceTimerExpiry n => Sys2Proof.Machine.execGraceTimerExpiry n s
  | .visualTimerExpiry n => Sys2Proof.Machine.execVisualTimerExpiry n s
  | .audibleTimerExpiry n => Sys2Proof.Machine.execAudibleTimerExpiry n s
  | .holdTimerExpiry => Sys2Proof.Machine.execHoldTimerExpiry s
  | .freshnessTimerExpiry => Sys2Proof.Machine.execFreshnessTimerExpiry s
  | .watchTimerExpiry => Sys2Proof.Machine.execWatchTimerExpiry s
  | .ecoCountdownExpiry => Sys2Proof.Machine.execEcoCountdownExpiry s
  | .ageLimitReached p => Sys2Proof.Machine.execAgeLimitReached p s
  | .saveEnd readBack => Sys2Proof.Machine.execSaveEnd readBack s
  | .interByteLimit p => Sys2Proof.Machine.execInterByteLimit p s
  | .frameDiscarded p => Sys2Proof.Machine.execFrameDiscarded p s
  | .discardingGapEnd p => Sys2Proof.Machine.execDiscardingGapEnd p s
  | .unknownCommand p cmd chk => Sys2Proof.Machine.execUnknownCommand p cmd chk s
  | .identifyPart p chk => Sys2Proof.Machine.execIdentifyPart p chk s
  | .readStatus p chk => Sys2Proof.Machine.execReadStatus p chk s
  | .readSummary p chk => Sys2Proof.Machine.execReadSummary p chk s
  | .readPosition p n chk => Sys2Proof.Machine.execReadPosition p n chk s
  | .readNotice p chk => Sys2Proof.Machine.execReadNotice p chk s
  | .readSuppression p chk => Sys2Proof.Machine.execReadSuppression p chk s
  | .hold p chk => Sys2Proof.Machine.execHold p chk s
  | .release p chk => Sys2Proof.Machine.execRelease p chk s
  | .readSnapshot p d chk => Sys2Proof.Machine.execReadSnapshot p d chk s
  | .popSnapshot p chk => Sys2Proof.Machine.execPopSnapshot p chk s
  | .vehicleState p ignition speed gear door chk => Sys2Proof.Machine.execVehicleState p ignition speed gear door chk s
  | .confirmAudible p n chk => Sys2Proof.Machine.execConfirmAudible p n chk s
  | .mute p n chk => Sys2Proof.Machine.execMute p n chk s
  | .dismissLeftBehind p chk => Sys2Proof.Machine.execDismissLeftBehind p chk s
  | .readMapEntry p n chk => Sys2Proof.Machine.execReadMapEntry p n chk s
  | .readStaged p n chk => Sys2Proof.Machine.execReadStaged p n chk s
  | .stageEntry p n entry chk => Sys2Proof.Machine.execStageEntry p n entry chk s
  | .swapBindings p a b chk => Sys2Proof.Machine.execSwapBindings p a b chk s
  | .discardStage p chk => Sys2Proof.Machine.execDiscardStage p chk s
  | .commitMap p chk => Sys2Proof.Machine.execCommitMap p chk s
  | .zeroCapture p n chk => Sys2Proof.Machine.execZeroCapture p n chk s
  | .readProfile p n chk => Sys2Proof.Machine.execReadProfile p n chk s
  | .setProfile p n profile chk => Sys2Proof.Machine.execSetProfile p n profile chk s
  | .readSettings p chk => Sys2Proof.Machine.execReadSettings p chk s
  | .setSettings p settings chk => Sys2Proof.Machine.execSetSettings p settings chk s
  | .saveConfig p chk => Sys2Proof.Machine.execSaveConfig p chk s
  | .readNode p line address chk => Sys2Proof.Machine.execReadNode p line address chk s
  | .testModeOn p operand chk => Sys2Proof.Machine.execTestModeOn p operand chk s
  | .testModeOff p chk => Sys2Proof.Machine.execTestModeOff p chk s
  | .injectSample p n sample chk => Sys2Proof.Machine.execInjectSample p n sample chk s
  | .endInject p n chk => Sys2Proof.Machine.execEndInject p n chk s
  | .clearSnapshots p chk => Sys2Proof.Machine.execClearSnapshots p chk s
  | .resetPart p chk => Sys2Proof.Machine.execResetPart p chk s
  | .resetPartReplySent => Sys2Proof.Machine.execResetPartReplySent s
  | .replyEnd p => Sys2Proof.Machine.execReplyEnd p s

end Sys2Proof.Machine
end

