-- ==== Sys2Proof/Machine/Idle.lean ====
section
/-! DEFINITION. What an empty queue does: events of the part's own timers that are due, and the passing of one quantum of
time (log entries 1, 2 and 4). -/

namespace Sys2Proof.Machine

/-- The reminder expiry due at a position: its timer runs, unfrozen, and stands at 0 (R92). -/
def State.dueReminder (s : State) (p : Pos) : Option Instr :=
  let r := s.pos p
  if r.timerRuns (s.entry p).reminderClass && r.reminder.timer = 0 then
    match r.reminder.step with
    | .grace => some (.graceTimerExpiry p)
    | .visual => some (.visualTimerExpiry p)
    | .audible => some (.audibleTimerExpiry p)
    | .idle | .muted | .lapsed => none
  else none

/-- A timer that has run out makes an event due. -/
def dueTimer (t : Option Nat) (i : Instr) : List Instr := if t = some 0 then [i] else []

/-- A port whose oldest notice has reached the age limit with the line still deasserted (R145). -/
def State.dueAge (s : State) (p : Port) : List Instr :=
  if s.wantsAttention p && !(s.port p).attention then [.ageLimitReached p] else []

/-- The events due at this moment. The reminder expiries of one tick come in ascending position number, so only the first
of them stands in the list (R92). -/
def State.due (s : State) : List Instr :=
  (allPos.filterMap s.dueReminder).take 1 ++
  dueTimer s.vehicle.freshTimer .freshnessTimerExpiry ++
  dueTimer s.restraint.hold .holdTimerExpiry ++
  dueTimer s.vehicle.watch .watchTimerExpiry ++
  dueTimer s.vehicle.eco .ecoCountdownExpiry ++
  dueTimer s.reminderTimer .reminderTick ++
  dueTimer s.scanner.timer .scanTick ++
  s.dueAge .safety ++ s.dueAge .cabin ++ s.dueAge .service

/-- Lower a running timer. -/
def lower (n : Nat) (t : Option Nat) : Option Nat := t.map (· - n)

/-- The alternation of PSO after one quantum (R109). -/
def Pso.pass : Pso → Pso
  | .low => .low
  | .high => .high
  | .alternating level left => if left ≤ 1 then .alternating (!level) Config.psoHalf else .alternating level (left - 1)

/-- A queue whose notices have waited one quantum longer (R145). -/
def PortState.age (x : PortState) : PortState :=
  { x with queue := x.queue.map fun n => { n with waited := n.waited + 1 } }

/-- How fast the watch timer and the eco countdown run (R127, R129, R131). -/
def Vehicle.rate (v : Vehicle) : Nat := if v.testMode then Config.testModeFactor else 1

/-- One quantum passes for the timers of the running part. -/
def State.passTimers (s : State) : State :=
  { s with
    scanner := { s.scanner with timer := lower 1 s.scanner.timer }
    reminderTimer := lower 1 s.reminderTimer
    restraint := { s.restraint with hold := lower 1 s.restraint.hold }
    vehicle := { s.vehicle with
      freshTimer := lower 1 s.vehicle.freshTimer
      watch := lower s.vehicle.rate s.vehicle.watch
      eco := lower s.vehicle.rate s.vehicle.eco }
    ports := ⟨s.ports.safety.age, s.ports.cabin.age, s.ports.service.age⟩ }

/-- One quantum passes: PSO alternates in every phase, the timers run while the part runs (R153). -/
def State.passTime (s : State) : State :=
  let s := { s with restraint := { s.restraint with pso := s.restraint.pso.pass } }
  if s.phase = .running then s.passTimers else s

/-- The event the part itself takes next, if one is due: with several due at one moment, either may be taken first, by a
free choice (log entry 4). -/
def State.nextDue (s : State) : Option Instr :=
  if s.phase = .running then s.due[Config.expiryPick s.freeCount % s.due.length]? else none

end Sys2Proof.Machine
end

