-- ==== Sys2Proof/Machine/Step.lean ====
section
/-! DEFINITION. One step: the command at the front of the queue, or with an empty queue a character that waits on a port, or an
event of the part's own timers, or the passing of one quantum of time. -/

namespace Sys2Proof.Machine

/-- The state with a command put at the front of its queue. -/
def State.withFront (s : State) (c : Instr) : State := { s with pending := c :: s.pending }

/-- A character is taken by its port's assembler, and the row that it brings about is run (R134, R136). -/
def State.stepChar (p : Port) (b : Byte) (s : State) : Host.Outcome State Fault Refusal :=
  match s.receiveChar p b with
  | (t, some i) => exec i t
  | (t, none) => .next t

/-- One step of the part. A waiting command is taken first and takes no time; with no command waiting, a character that waits on
a port is taken; with none, an event that is due is taken, and with none due one quantum passes (log entries 1, 4 and 13). -/
def step (s : State) : Host.Outcome State Fault Refusal :=
  match s.pending with
  | c :: rest => exec c { s with pending := rest }
  | [] =>
    match s.incoming with
    | (p, b) :: rest => { s with incoming := rest }.stepChar p b
    | [] =>
      match s.nextDue with
      | some e => exec e { s with freeCount := s.freeCount + 1 }
      | none => .next s.passTime

/-- The state with the command that a word spells at the front of its queue; unchanged where the word spells none. -/
def State.withFetchWord (s : State) (nbits w : Nat) : State :=
  match decodeTableWord nbits w with
  | some c => s.withFront c
  | none => s

end Sys2Proof.Machine
end

