-- ==== Sys2Proof/Machine/NodeReplies.lean ====
section
/-! DEFINITION. The frames a seat node sends, byte by byte (R23, R24, spec 11.1), as the statements about valid replies need
them. The part itself only reads these frames (Scan.lean). Log entry 30 (DESIGN CHOICE). -/

namespace Sys2Proof.Machine

/-- The slot block of a sample: status byte, L, N, P, then its tag records. -/
def SlotSample.bytes (x : SlotSample) : List Byte :=
  [oneByte (x.statusFault.toNat + 2 * x.buckle.toNat + 16 * x.tags.length)] ++ twoBytes x.load ++ [oneByte x.cells] ++
  twoBytes x.peak ++ x.tags.flatMap TagRecord.bytes

/-- A sample whose fields fit the slot block: L and P in two bytes, N in one, at most two tags. -/
def SlotSample.sendable (x : SlotSample) : Bool :=
  x.load < 65536 && x.cells < 256 && x.peak < 65536 && x.tags.length ≤ 2

/-- The payload of an IDENTITY reply: identity, slot count, one capability byte for each slot. -/
def NodeIdentity.bytes (id : NodeIdentity) : List Byte :=
  identityBytes id.id ++ [oneByte id.slots] ++ id.caps.map fun c => flagsByte [c.1, c.2]

/-- An identity with 1 to 4 slots and one capability pair for each. -/
def NodeIdentity.sendable (id : NodeIdentity) : Bool := within 1 4 id.slots && id.caps.length = id.slots

/-- A reply frame: sync, address with bit 7 set, reply kind, length, payload, CRC-16 high byte first. -/
def replyFrame (a : Fin 6) (kind : Byte) (payload : List Byte) : List Byte :=
  let span := [oneByte (a.val + 1 + 0x80), kind, oneByte payload.length] ++ payload
  Config.syncByte :: span ++ halfBytes (crc16 span)

/-- The IDENTITY reply of the node at an address. -/
def identityReply (a : Fin 6) (id : NodeIdentity) : List Byte := replyFrame a PollCommand.identify.replyKind id.bytes

/-- The SAMPLE reply of the node at an address, with its serial byte and the blocks of its slots. -/
def sampleReply (a : Fin 6) (serial : Byte) (blocks : List SlotSample) : List Byte :=
  replyFrame a PollCommand.sample.replyKind (serial :: blocks.flatMap SlotSample.bytes)

end Sys2Proof.Machine
end

