-- ==== Sys2Proof/WellFormed.lean ====
section
/-! DEFINITION. Which terms of Instr are commands and events that can happen. -/

namespace Sys2Proof

open Machine

/-- The most characters that fit into the 11 ms of an exchange, at 80 microseconds each (R19). DEDUCED.
Log entry 27 (DEDUCED). -/
def exchangeChars : Nat := 137

/-- The number of characters that the length field of a reply gives; 4 until the length field has arrived (R19, R23). -/
def replyLength (chars : List Byte) : Nat :=
  if chars.length < 4 then 4 else 4 + (byteAt chars 3).toNat + 2

/-- A reply that has arrived whole (R25). -/
def completeReply (chars : List Byte) : Bool :=
  4 ≤ chars.length && chars.length = replyLength chars && chars.length ≤ exchangeChars

/-- A reply that a gap or the exchange limit cut short: begun, and not whole (R19). -/
def partialReply (chars : List Byte) : Bool :=
  1 ≤ chars.length && chars.length < replyLength chars && chars.length ≤ exchangeChars

/-- The length of a store body (spec 11.3, log entry 7). -/
def bodyLength : Nat := 421

/-- A command or event that can happen: a seat reply is whole or cut short as its row says, a read-back has the store's
length, an unknown command is unknown, and TEST MODE ON does not carry the operand OFF. -/
def Instr.wellFormed : Instr → Bool
  | .seatReplyReceived _ chars => completeReply chars
  | .seatReplyGap _ chars | .exchangeLimit _ chars => partialReply chars
  | .saveEnd readBack => readBack.body.length = bodyLength
  | .unknownCommand _ cmd _ => (operandLength cmd).isNone
  | .testModeOn _ operand _ => operand ≠ 0
  | .powerOn | .resetLineAssert | .resetLineRelease | .configurationLoadEnd | .scanTick | .replyWindowClose _
  | .reminderTick | .graceTimerExpiry _ | .visualTimerExpiry _ | .audibleTimerExpiry _ | .holdTimerExpiry
  | .freshnessTimerExpiry | .watchTimerExpiry | .ecoCountdownExpiry | .ageLimitReached _ | .interByteLimit _
  | .frameDiscarded _ | .discardingGapEnd _ | .identifyPart _ _ | .readStatus _ _ | .readSummary _ _
  | .readPosition _ _ _ | .readNotice _ _ | .readSuppression _ _ | .hold _ _ | .release _ _ | .readSnapshot _ _ _
  | .popSnapshot _ _ | .vehicleState _ _ _ _ _ _ | .confirmAudible _ _ _ | .mute _ _ _ | .dismissLeftBehind _ _
  | .readMapEntry _ _ _ | .readStaged _ _ _ | .stageEntry _ _ _ _ | .swapBindings _ _ _ _ | .discardStage _ _
  | .commitMap _ _ | .zeroCapture _ _ _ | .readProfile _ _ _ | .setProfile _ _ _ _ | .readSettings _ _
  | .setSettings _ _ _ | .saveConfig _ _ | .readNode _ _ _ _ | .testModeOff _ _ | .injectSample _ _ _ _
  | .endInject _ _ _ | .clearSnapshots _ _ | .resetPart _ _ | .resetPartReplySent | .replyEnd _ => true

/-- The port on which a command's frame arrives; none for an event. -/
def Instr.sentOn : Instr → Option Port
  | .powerOn | .resetLineAssert | .resetLineRelease | .configurationLoadEnd | .scanTick | .replyWindowClose _
  | .seatReplyReceived _ _ | .seatReplyGap _ _ | .exchangeLimit _ _ | .reminderTick | .graceTimerExpiry _
  | .visualTimerExpiry _ | .audibleTimerExpiry _ | .holdTimerExpiry | .freshnessTimerExpiry | .watchTimerExpiry
  | .ecoCountdownExpiry | .ageLimitReached _ | .saveEnd _ | .interByteLimit _ | .frameDiscarded _
  | .discardingGapEnd _ | .resetPartReplySent | .replyEnd _ => none
  | .unknownCommand p _ _ | .identifyPart p _ | .readStatus p _ | .readSummary p _ | .readPosition p _ _
  | .readNotice p _ | .readSuppression p _ | .hold p _ | .release p _ | .readSnapshot p _ _ | .popSnapshot p _
  | .vehicleState p _ _ _ _ _ | .confirmAudible p _ _ | .mute p _ _ | .dismissLeftBehind p _ | .readMapEntry p _ _
  | .readStaged p _ _ | .stageEntry p _ _ _ | .swapBindings p _ _ _ | .discardStage p _ | .commitMap p _
  | .zeroCapture p _ _ | .readProfile p _ _ | .setProfile p _ _ _ | .readSettings p _ | .setSettings p _ _
  | .saveConfig p _ | .readNode p _ _ _ | .testModeOn p _ _ | .testModeOff p _ | .injectSample p _ _ _
  | .endInject p _ _ | .clearSnapshots p _ | .resetPart p _ => some p

end Sys2Proof
end

