-- ==== Sys2Proof/Safety.lean ====
section
/-! DEFINITION. The terms in which statements about the part are made: when a port takes a frame, what a taken frame leaves
unchanged, and the rules that hold of the part at all times. -/

namespace Sys2Proof.Machine

/-! ## Frames on the ports -/

/-- A port takes a complete frame that arrives now: the part runs, no reply is in progress, nothing is being discarded
(R136, R147). -/
abbrev State.ready (s : State) (p : Port) : Prop :=
  s.phase = .running ∧ (s.port p).assembler ≠ .discarding ∧ (s.port p).reply = none

/-- The state in which a taken frame is judged: its port assembles nothing more and the frame has been reported, with a wake in
ECO (R130, R136). -/
def State.received (s : State) (p : Port) : State := (s.setPort p { s.port p with assembler := .idle }).frameReported

/-- The bytes of a command frame sum to 0 modulo 256 (R137). -/
abbrev soundFrame (cmd : Byte) (operands : List Byte) (chk : Byte) : Prop := byteSum (cmd :: operands ++ [chk]) = 0

/-- t carries on a port the reply with an echoed command byte, a status and data (R137). -/
abbrev State.replied (t : State) (p : Port) (cmd : Byte) (st : Status) (data : List Byte) : Prop :=
  (t.port p).reply = some (replyBytes cmd st data)

/-- What a frame received in s, or another wake event in ECO, does to the scan mode, the scan timer and the eco countdown by the
time t: the mode is RUN, a wake has started the RUN period, and the countdown stands at full or is stopped (R20, R129, R130). -/
structure State.Heard (s t : State) : Prop where
  mode : t.vehicle.mode = .run
  timer : t.scanner.timer = if s.vehicle.mode = .eco then some Config.runPeriod else s.scanner.timer
  countdown : t.vehicle.eco = if t.ecoConditions then some t.ecoFull else none

/-- t with everything put back from s that a received frame may always change: the ports, the scan mode, the scan timer and
the eco countdown. That this is s says that t differs from s in those alone. -/
def State.putBack (s t : State) : State :=
  { t with
    ports := s.ports
    scanner := { t.scanner with timer := s.scanner.timer }
    vehicle := { t.vehicle with mode := s.vehicle.mode, eco := s.vehicle.eco } }

/-- t is s after a frame taken on a port, answered with some bytes, and no notice posted, as far as the ports, the scan mode,
the scan timer and the eco countdown go. -/
structure State.Answered (s t : State) (p : Port) (cmd : Byte) (st : Status) (data : List Byte) : Prop where
  heard : s.Heard t
  port : t.port p = { s.port p with assembler := .idle, reply := some (replyBytes cmd st data) }
  others : ∀ q, q ≠ p → t.port q = s.port q

/-- t with the eco countdown of s put back. -/
def State.ecoBack (s t : State) : State := { t with vehicle := { t.vehicle with eco := s.vehicle.eco } }

/-- By the time t the eco countdown of s has been judged: it runs exactly while its conditions hold, and a running one goes on
(R129). -/
abbrev State.Judged (s t : State) : Prop :=
  t.vehicle.eco = if t.ecoConditions then some (s.vehicle.eco.getD t.ecoFull) else none

/-- The service gate lets a service write through: standstill, no HOLD, no save (R139). -/
abbrev State.gateOpen (s : State) : Prop := s.standstill = true ∧ s.holdActive = false ∧ s.saving = false

/-- A command on a port, taken in s, completes and is answered, and leaves the state u but for what a received frame may always
change. -/
abbrev State.Answers (s : State) (i : Instr) (p : Port) (cmd : Byte) (st : Status) (data : List Byte) (u : State) : Prop :=
  ∃ t, exec i s = .next t ∧ s.Answered t p cmd st data ∧ s.putBack t = u

/-- A service write that the closed gate refuses changes nothing: LOCKED without standstill or during HOLD, and otherwise BUSY
during a save (R139). -/
abbrev State.GateRefuses (s : State) (i : Instr) (cmd : Byte) : Prop :=
  (s.standstill = false ∨ s.holdActive = true → s.Answers i .service cmd .locked [] s) ∧
  (s.standstill = true → s.holdActive = false → s.saving = true → s.Answers i .service cmd .busy [] s)

/-- An event that finds nothing to act on completes and changes nothing but the eco countdown, which is judged. -/
abbrev State.Passes (s : State) (i : Instr) : Prop := ∃ t, exec i s = .next t ∧ s.ecoBack t = s ∧ s.Judged t

/-! ## Characters on the ports (R134, R136) -/

/-- A frame being assembled has its first character and misses its last, and no reply is in progress on its port (R134, R136). -/
abbrev PortState.AssemblerLegal (x : PortState) : Prop :=
  let b := x.assembler.received
  x.assembler ≠ .assembling [] ∧ (b ≠ [] → x.reply = none ∧ b.length < frameLength (byteAt b 0))

/-- Every port's frame assembler is legal. -/
abbrev State.AssemblersLegal (s : State) : Prop :=
  s.ports.safety.AssemblerLegal ∧ s.ports.cabin.AssemblerLegal ∧ s.ports.service.AssemblerLegal

/-! ## Payloads of replies (R25 case 9, spec 11.1) -/

/-- Some bytes are exactly n slot blocks: each as long as its tag count of at most 2 says, and no byte left over (R25, R154). -/
def blocksFill : Nat → List Byte → Bool
  | 0, b => b.isEmpty
  | n + 1, b =>
    let tags := (byteAt b 0).toNat / 16 % 4
    decide (tags ≤ 2) && decide (6 + 6 * tags ≤ b.length) && blocksFill n (b.drop (6 + 6 * tags))

/-! ## Classes after an outcome (spec 05) -/

/-- A class record after a direct class and cause were asked with HOLD inactive (R81). -/
def ClassRec.directed (c : ClassRec) (cls : OccClass) (cause : FaultCause) : ClassRec :=
  if c.stable = cls ∧ c.cause = cause then { c with resolveMark := false }
  else
    { c with
      stable := cls, cause := cause, candidate := cls, agreement := 0, sequence := c.sequence + 1, resolveMark := false }

/-- A class record after the return to UNRESOLVED (R82). -/
def ClassRec.returned (c : ClassRec) : ClassRec :=
  { c with
    stable := .unresolved, cause := .none, candidate := .unresolved, agreement := 0, resolveMark := false
    sequence := if c.stable = .unresolved then c.sequence else c.sequence + 1 }

/-- A class record after a standing vote was completed (R79). -/
def ClassRec.completed (c : ClassRec) (p : Profile) : ClassRec :=
  if c.candidate ≠ c.stable ∧ c.required p ≤ c.agreement then
    { c with
      stable := c.candidate, cause := if c.candidate = .fault then .matFault else .none, agreement := 0
      sequence := c.sequence + 1 }
  else c

/-- A class record after an instant class was stored and counted as a vote (R74, R77). -/
def ClassRec.counted (c : ClassRec) (i : OccClass) : ClassRec := { c with lastInstant := i }.vote i

/-- The class record that a direct class asked of a position leaves: applied while HOLD is inactive, waiting while it is active
(R81, R84). -/
def State.directClass (s : State) (p : Pos) (cls : OccClass) (cause : FaultCause) : ClassRec :=
  if s.holdActive then (s.pos p).cls else (s.pos p).cls.directed cls cause

/-- The class record of a position after a loss with a verdict (R33): ABSENT, or FAULT with cause NODE_LOST. -/
def State.lossClass (s : State) (p : Pos) (v : Verdict) : ClassRec :=
  match v with
  | .none => (s.pos p).cls
  | .absent => s.directClass p .absent .none
  | .fault => s.directClass p .fault .nodeLost

/-- The class record of a position whose fit is MISFIT or NO_SLOT after an outcome of its identified node (R33). -/
def State.misfitClass (s : State) (p : Pos) (fit : FitState) : ClassRec :=
  match fit with
  | .misfit => s.directClass p .fault .misfit
  | .noSlot => s.directClass p .fault .noSlot
  | .fits | .unchecked => (s.pos p).cls

/-- The class record of a position that holds when an outcome of its ONLINE node forms the instant class of a delivered sample (R73
case 4 steps 1 and 2, R84): with HOLD inactive it has been returned to UNRESOLVED where an identification, the resolve mark or a
direct class asks for it, and a standing vote has been completed; while HOLD is active an identification has left the mark. -/
def State.standingClass (s : State) (p : Pos) (identified : Bool) : ClassRec :=
  let c := (s.pos p).cls
  if s.holdActive then if identified then { c with resolveMark := true } else c
  else (if identified ∨ c.resolveMark ∨ c.underDirect then c.returned else c).completed (s.profileOf p)

/-- The class record of a position after an outcome of its ONLINE node asks for no direct class (R73 case 4, R84): the standing
record, and the instant class of a delivered sample counted, which may complete while HOLD is inactive. -/
def State.onlineClass (s : State) (p : Pos) (identified : Bool) (instant : Option OccClass) : ClassRec :=
  let c := s.standingClass p identified
  match instant with
  | none => c
  | some i => if s.holdActive then c.counted i else (c.counted i).completed (s.profileOf p)

/-- The capabilities in effect of a position: the fit is FITS, the map flag is set, and the node reported the capability for the
entry's slot (R7). -/
abbrev State.CapsInEffect (t : State) (p : Pos) : Prop :=
  let node := t.node (t.entry p).line (t.entry p).address
  let reported (f : Bool × Bool → Bool) : Bool :=
    match node.identity with
    | none => false
    | some id => match id.caps[(t.entry p).slot.val]? with
      | none => false
      | some c => f c
  ((t.pos p).childCap = true ↔ (t.pos p).fit = .fits ∧ (t.entry p).childCapable = true ∧ reported (·.1) = true) ∧
  ((t.pos p).beltCap = true ↔ (t.pos p).fit = .fits ∧ (t.entry p).beltSensed = true ∧ reported (·.2) = true)

/-- What a node's loss leaves of a position bound to it: no fit, no capability and no injection, the Load Conditioner's values
kept, the states that rested on a capability cleared, and the class of the verdict (R5, R30, R31, R68, R91, R132). -/
abbrev State.LosesNode (s t : State) (p : Pos) (v : Verdict) : Prop :=
  (t.pos p).fit = .unchecked ∧ (t.pos p).childCap = false ∧ (t.pos p).beltCap = false ∧ (t.pos p).injection = none ∧
  (t.pos p).load = (s.pos p).load ∧ (t.pos p).watched = (s.pos p).watched ∧
  (t.pos p).child = (if (s.pos p).childCap then .cleared else (s.pos p).child) ∧
  (t.pos p).buckle = (if (s.pos p).beltCap then .cleared else (s.pos p).buckle) ∧
  (t.pos p).cls = s.lossClass p v

/-- What stays of a position at an outcome that may change its class and reminder alone. -/
abbrev State.KeepsAllBut (s t : State) (p : Pos) : Prop :=
  { t.pos p with cls := (s.pos p).cls, reminder := (s.pos p).reminder, watched := (s.pos p).watched } = s.pos p

/-! ## Polls and outcomes -/

/-- The poll that a line sends next among some addresses in order, if any: SAMPLE to an ONLINE or SILENT node, IDENTIFY to an
UNSEEN or LOST one in a probe scan (R21). -/
def State.nextPoll (s : State) (l : Line) (as : List (Fin 6)) : Option Exchange :=
  as.findSome? fun a =>
    match (s.node l a).state with
    | .online | .silent => some { address := a, command := .sample, frame := pollFrame a .sample }
    | .unseen | .lost =>
      if s.scanner.probing then some { address := a, command := .identify, frame := pollFrame a .identify } else none

/-- What is received in an exchange is a miss of a kind, by the first case of R25 that holds: nothing received or a reply cut
after its sync byte is a timeout, a CRC that differs a CRC miss; a wrong sync, a length above 73, a wrong address, a wrong kind or
contents that do not agree with the length are a format miss. `slots` is the slot count recorded for the node. -/
def Exchange.Missed (x : Exchange) (slots : Nat) (chars : List Byte) (k : MissKind) : Prop :=
  let len := (byteAt chars 3).toNat
  let synced := byteAt chars 0 = 0xC3
  let whole := synced ∧ len ≤ 73 ∧ len + 6 ≤ chars.length
  let crcOk := crc16 ((chars.drop 1).take (len + 3)) = byteAt chars (len + 4) ++ byteAt chars (len + 5)
  let asked := (byteAt chars 1).toNat = x.address.val + 1 + 128 ∧ byteAt chars 2 = x.command.replyKind
  let agrees :=
    match x.command with
    | .identify => let count := (byteAt chars 7).toNat
      4 ≤ len ∧ 1 ≤ count ∧ count ≤ 4 ∧ len = 4 + count
    | .sample => 1 ≤ len ∧ blocksFill slots ((chars.drop 5).take (len - 1)) = true
  match k with
  | .timeout => chars = [] ∨ (synced ∧ (chars.length < 4 ∨ (len ≤ 73 ∧ chars.length < len + 6)))
  | .crc => whole ∧ ¬ crcOk
  | .format =>
    (chars ≠ [] ∧ ¬ synced) ∨ (synced ∧ 4 ≤ chars.length ∧ 73 < len) ∨ (whole ∧ crcOk ∧ ¬ (asked ∧ agrees))

/-- A node record with one miss of a kind counted in its 16-bit counter, which saturates (R26). -/
def NodeRec.missed (n : NodeRec) : MissKind → NodeRec
  | .timeout => { n with timeouts := min (n.timeouts + 1) 65535 }
  | .crc => { n with crcErrors := min (n.crcErrors + 1) 65535 }
  | .format => { n with formatErrors := min (n.formatErrors + 1) 65535 }

/-- NODE_CHANGED of an address stands in the service queue with a node state, a reason and the scan number, where the queue had
room (R36, spec 11.4): subjects 17 to 22 for line A and 23 to 28 for line B. -/
abbrev State.TellsNode (s t : State) (l : Line) (a : Fin 6) (payload : Half) : Prop :=
  (s.port .service).queue.length < 16 → ∃ n ∈ (t.port .service).queue, n.kind = .nodeChanged ∧
    n.subject = (match l with | .a => 17 | .b => 23) + a.val ∧ n.payload = payload ∧ n.scan = s.scanner.number

/-- No NODE_CHANGED is posted: those queued for the service port are the same as before, unchanged (R36). -/
abbrev State.TellsNoNode (s t : State) : Prop :=
  (t.port .service).queue.filter (fun n => n.kind = .nodeChanged) =
    (s.port .service).queue.filter (fun n => n.kind = .nodeChanged)

/-- What the skip of an address hands to a position bound to it: the class of the node's verdict, waiting while HOLD is active,
and nothing else (R21, R33, R34, R84). -/
abbrev State.TakesSkip (s t : State) (l : Line) (a : Fin 6) (p : Pos) : Prop :=
  s.KeepsAllBut t p ∧ (t.pos p).cls = s.lossClass p (s.node l a).verdict

/-- CAPTURE_DONE of a position stands in the service queue with a payload, where that held at most `room` notices (R50, R51). -/
abbrev State.TellsCapture (s t : State) (p : Pos) (room : Nat) (payload : Half) : Prop :=
  (s.port .service).queue.length ≤ room → ∃ n ∈ (t.port .service).queue, n.kind = .captureDone ∧ n.subject = p.val + 1 ∧
    n.payload = payload ∧ n.scan = s.scanner.number

/-- A capture in flight of a position bound to a line's address aborts with NODE, and the staging area is not written (R51). -/
abbrev State.LosesCapture (s t : State) (l : Line) (a : Fin 6) : Prop :=
  ∀ c, s.capture = some c → s.boundTo l a c.position = true →
    t.capture = none ∧ t.staging = s.staging ∧ s.TellsCapture t c.position 14 0x2000

/-- What an outcome at an address of a line leaves, whatever it is: every other node record, every position that is disabled or
bound to the other line, the configuration, the store, the scan number, HOLD and a capture at another node that answers; and the
line's round goes on with the next address, the skips up to the next poll being handed on, while the other line's exchange goes
on (R19, R21, R34). -/
structure State.AfterOutcome (s t : State) (l : Line) (a : Fin 6) : Prop where
  nodes : ∀ (m : Line) (b : Fin 6), m ≠ l ∨ b ≠ a → t.node m b = s.node m b
  positions : ∀ p : Pos, (s.entry p).enabled = false ∨ (s.entry p).line ≠ l → t.pos p = s.pos p
  exchange : (t.scanner.lines.get l).exchange = t.nextPoll l ([0, 1, 2, 3, 4, 5].filter fun b => a < b)
  otherLine : ∀ m, m ≠ l → (t.scanner.lines.get m).exchange = (s.scanner.lines.get m).exchange
  config : t.config = s.config
  store : t.store = s.store
  saveImage : t.saveImage = s.saveImage
  phase : t.phase = s.phase
  number : t.scanner.number = s.scanner.number
  hold : t.restraint.hold = s.restraint.hold
  snapshots : t.restraint.snapshots = s.restraint.snapshots
  deferred : t.staging.deferred = s.staging.deferred
  skipped : ∀ (b : Fin 6) (p : Pos), a < b → t.nextPoll l ([0, 1, 2, 3, 4, 5].filter fun x => a < x ∧ x ≤ b) = none →
    s.boundTo l b p = true → s.TakesSkip t l b p
  unreached : ∀ (b : Fin 6) (p : Pos), s.boundTo l b p = true →
    b < a ∨ (a < b ∧ t.nextPoll l ([0, 1, 2, 3, 4, 5].filter fun x => a < x ∧ x ≤ b) ≠ none) → t.pos p = s.pos p
  noCapture : s.capture = none → t.capture = none
  otherCapture : ∀ c, s.capture = some c → s.boundTo l a c.position = false →
    (s.node (s.entry c.position).line (s.entry c.position).address).state = .online → t.capture = some c

/-- A changed class of a position is told to the safety port with its final class, cause and sequence (R80, R86): asked of a
position with no lower one on the same node, while the queue has room. -/
abbrev State.TellsClass (s t : State) (l : Line) (a : Fin 6) (p : Pos) : Prop :=
  (∀ q : Pos, q < p → s.boundTo l a q = false) → (t.pos p).cls.sequence ≠ (s.pos p).cls.sequence →
    (s.port .safety).queue.length < 16 →
    ∃ n ∈ (t.port .safety).queue, n.kind = .classChanged ∧ n.subject = p.val + 1 ∧
      n.payload = oneByte ((t.pos p).cls.stable.code * 16 + (t.pos p).cls.cause.code) ++ (t.pos p).cls.sequence ∧
      n.scan = s.scanner.number

/-! ## Reminders -/

/-- A reminder record after one evaluation, from the reminder class of the entry, the stable class, the belt state, the report
and the settings (R93 to R99). A VISUAL timer that stands at 0 expires at any evaluation: log entry 20 (DEDUCED). -/
def ReminderRec.evaluated (r : ReminderRec) (rc : ReminderClass) (cls : OccClass) (belt : Belt) (v : Vehicle)
    (t : Settings) : ReminderRec :=
  let eligible : Bool := cls = .small || cls = .adult || cls = .booster
  let unfastened : Bool := belt = .unlatched || belt = .fault
  let sounded : ReminderRec :=
    { step := if t.audibleTime = 0 then .lapsed else .audible, timer := t.audibleTime, confirmed := false, reissues := 0,
      scans := 0 }
  let shown : ReminderRec :=
    if t.visualTime = 0 ∧ rc = .full then sounded else { r with step := .visual, timer := t.visualTime }
  if r.step = .idle then
    if eligible ∧ unfastened ∧ rc ≠ .none ∧ v.ignition = .run ∧ t.speedThreshold ≤ v.speed then
      if t.graceTime = 0 then shown else { r with step := .grace, timer := t.graceTime }
    else r
  else if (!unfastened) ∨ (!eligible ∧ cls ≠ .fault) ∨ v.ignition ≠ .run ∨ rc = .none ∨
      (r.step = .grace ∧ v.speed < t.speedThreshold) then
    { r with step := .idle, timer := 0 }
  else if r.step = .visual ∧ r.timer = 0 ∧ rc = .full ∧ cls ≠ .fault then sounded
  else r

/-! ## The suppression decision (R107, R108) -/

/-- A derivation of the suppression decision, with the map and classes of t: one that differs from the suppression state of s
raises the sequence by one and changes the line, and one that does not leaves all three and the queued SUPPRESSION_CHANGED
(R108, R109). -/
structure State.Derived (s t : State) : Prop where
  state : t.restraint.suppression = t.decision
  differs : t.decision ≠ s.restraint.suppression →
    t.restraint.sequence = s.restraint.sequence + 1 ∧
    t.restraint.pso =
      match t.decision with
      | .enable => .low
      | .suppress => .high
      | .indeterminate => .alternating true 400
  same : t.decision = s.restraint.suppression →
    t.restraint.sequence = s.restraint.sequence ∧ t.restraint.pso = s.restraint.pso ∧
    (t.port .safety).queue.filter (fun n => n.kind = .suppressionChanged) =
      (s.port .safety).queue.filter (fun n => n.kind = .suppressionChanged)

/-- A changed decision is told to the safety port with the new state and sequence (R108, spec 11.4). -/
abbrev State.TellsDecision (s t : State) : Prop :=
  t.decision ≠ s.restraint.suppression → ∃ n ∈ (t.port .safety).queue, n.kind = .suppressionChanged ∧ n.subject = 0 ∧
    n.payload = oneByte (match t.decision with | .enable => 0 | .suppress => 1 | .indeterminate => 2) ++
      t.restraint.sequence ∧ n.scan = s.scanner.number

/-! ## Commits (R14 to R16) -/

/-- An entry that resets the record of its position when it is committed: enabled, line, address or slot differ (R14). -/
abbrev State.RebindsTo (s : State) (p : Pos) (e : MapEntry) : Prop :=
  (s.entry p).enabled ≠ e.enabled ∨ (s.entry p).line ≠ e.line ∨ (s.entry p).address ≠ e.address ∨ (s.entry p).slot ≠ e.slot

/-- The fit that the node at an entry's binding gives: the comparison of R4 where the node is ONLINE or SILENT with its identity
recorded, and UNCHECKED otherwise (R16). -/
def State.found (s : State) (e : MapEntry) : FitState :=
  let n := s.node e.line e.address
  match n.identity with
  | none => .unchecked
  | some id => if n.state = .online ∨ n.state = .silent then e.fitWith id else .unchecked

/-- What a position holds without a fit or without a capability: a disabled position is UNCHECKED and ABSENT (R5, R72), a
position that does not fit has no capability and no injection (R7, R132), and without a capability the child-seat or belt
state is at its cleared values (R68, R91). -/
abbrev PosRec.CapLegal (r : PosRec) (enabled : Bool) : Prop :=
  (enabled = false → r.fit = .unchecked ∧ r.cls.stable = .absent) ∧
  (r.fit ≠ .fits → r.childCap = false ∧ r.beltCap = false ∧ r.injection = none) ∧
  (r.childCap = false → r.child = .cleared) ∧ (r.beltCap = false → r.buckle = .cleared)

/-- What a commit that is applied leaves of a staged position with its new entry (R14 to R16): its capabilities in effect, its
class, and every part of a reset record (the last instant class and the resolve mark by log entry 28, DEDUCED) or of a kept one.
A kept record loses what rested on a lost capability, and its reminder is evaluated (log entries 35, 39 and 40 say when). `found` is
the fit that the node at the new binding gives. -/
structure State.Committed (s t : State) (p : Pos) (e : MapEntry) : Prop where
  caps : t.CapsInEffect p
  resetRecord : s.RebindsTo p e →
    (t.pos p).load = { w := 0, f16 := 0, seeded := false, band := 0, n := 0, k := 0 } ∧
    (t.pos p).child =
      { accepted := .none, pending := .none, pendingCount := 0, dropout := 0, tags := [], loadFlag := false } ∧
    (t.pos p).buckle = { belt := .none, pending := .none, count := 0 } ∧
    (t.pos p).reminder = { step := .idle, timer := 0, confirmed := false, reissues := 0, scans := 0 } ∧
    (t.pos p).watched = false ∧ (t.pos p).injection = none ∧
    (t.pos p).fit = (if e.enabled then s.found e else .unchecked) ∧
    (t.pos p).cls =
      let sequence := (s.pos p).cls.sequence + 1
      let as (cls : OccClass) (cause : FaultCause) (sequence : BitVec 8) : ClassRec :=
        { stable := cls, cause := cause, candidate := cls, agreement := 0, lastInstant := .unresolved,
          sequence := sequence, resolveMark := false }
      if e.enabled = false then as .absent .none sequence
      else if s.found e = .misfit then as .fault .misfit (sequence + 1)
      else if s.found e = .noSlot then as .fault .noSlot (sequence + 1)
      else as .unresolved .none sequence
  keptRecord : ¬ s.RebindsTo p e → (t.pos p).watched = (s.pos p).watched ∧
    (t.pos p).reminder = (s.pos p).reminder.evaluated e.reminderClass (t.pos p).cls.stable (t.pos p).buckle.belt t.vehicle
      t.config.settings ∧
    ((s.pos p).CapLegal (s.entry p).enabled →
      (t.pos p).child = (if (t.pos p).childCap then (s.pos p).child else .cleared) ∧
      (t.pos p).buckle = (if (t.pos p).beltCap then (s.pos p).buckle else .cleared)) ∧
    (e.enabled = false ∨ (e.identity = (s.entry p).identity ∧ e.matchMode = (s.entry p).matchMode) →
      (t.pos p).fit = (s.pos p).fit ∧ (t.pos p).load = (s.pos p).load ∧ (t.pos p).injection = (s.pos p).injection ∧
      (t.pos p).cls = (s.pos p).cls) ∧
    (e.enabled = true → e.identity ≠ (s.entry p).identity ∨ e.matchMode ≠ (s.entry p).matchMode →
      (t.pos p).fit = s.found e ∧
      (t.pos p).load = (if s.found e = .fits ∧ (s.pos p).fit ≠ .fits then .cleared else (s.pos p).load) ∧
      (t.pos p).injection = (if s.found e = .fits then (s.pos p).injection else none) ∧
      (t.pos p).cls =
        match s.found e with
        | .misfit => (s.pos p).cls.directed .fault .misfit
        | .noSlot => (s.pos p).cls.directed .fault .noSlot
        | .fits => if (s.pos p).fit = .misfit ∨ (s.pos p).fit = .noSlot then (s.pos p).cls.returned else (s.pos p).cls
        | .unchecked => (s.pos p).cls)
  reminder : e.reminderClass = .none → (t.pos p).reminder.step = .idle

/-- A commit that resets the record of the captured position, or leaves its fit other than FITS, aborts the capture with MAP; any
other keeps it (R51, R52). -/
abbrev State.CommitsCapture (s t : State) : Prop :=
  (s.capture = none → t.capture = none) ∧
  ∀ c, s.capture = some c →
    (s.staging.entries.get c.position = none → t.capture = some c) ∧
    (∀ e, s.staging.entries.get c.position = some e →
      (s.RebindsTo c.position e ∨ (t.pos c.position).fit ≠ .fits →
        t.capture = none ∧ s.TellsCapture t c.position 14 0x4000) ∧
      (¬ s.RebindsTo c.position e → (t.pos c.position).fit = .fits → t.capture = some c))

/-- A class that a commit changed is told to the safety port with its final class, cause and sequence (R80, R86): asked where that
port's queue was empty. -/
abbrev State.TellsCommitted (s t : State) (p : Pos) : Prop :=
  (t.pos p).cls.sequence ≠ (s.pos p).cls.sequence → (s.port .safety).queue = [] →
    ∃ n ∈ (t.port .safety).queue, n.kind = .classChanged ∧ n.subject = p.val + 1 ∧
      n.payload = oneByte ((t.pos p).cls.stable.code * 16 + (t.pos p).cls.cause.code) ++ (t.pos p).cls.sequence ∧
      n.scan = s.scanner.number

/-- The state that a taken report leaves to the commit that it lets apply, as far as the positions go: their watched flags by
the report's ignition, with the watch started or ended, and their reminders evaluated with the old map (R98, R124, R125, R128).
`v` is the vehicle state after the report. -/
def State.reported (s : State) (v : Vehicle) : State :=
  { s with
    positions := PerPos.ofFn fun p =>
      let r := s.pos p
      let watched : Bool :=
        if v.ignition ≠ .off then false
        else if s.vehicle.ignition = .run ∧ s.watching = false then (s.entry p).enabled && r.cls.stable.leftBehind
        else r.watched
      { r with
        watched := watched
        reminder :=
          r.reminder.evaluated (s.entry p).reminderClass r.cls.stable r.buckle.belt v s.config.settings } }

/-! ## Resets -/

/-- Every block but the ports and the restraint interface's line and stack is at its reset values (R18, R38, R54, R70, R88, R106,
R121, R133). -/
structure State.AtReset (t : State) : Prop where
  save : t.saveImage = none
  capture : t.capture = none
  staging : t.staging.deferred = false ∧ ∀ p : Pos, t.staging.entries.get p = none
  scan : t.scanner.number = 0 ∧ t.scanner.probeCount = 0 ∧ t.scanner.firstScan = true
  exchanges : t.scanner.lines.a.exchange = none ∧ t.scanner.lines.b.exchange = none
  nodes : ∀ (l : Line) (a : Fin 6), t.node l a =
    { state := .unseen, misses := 0, identity := none, verdict := .none, timeouts := 0, crcErrors := 0, formatErrors := 0 }
  fit : ∀ p : Pos, (t.pos p).fit = .unchecked ∧ (t.pos p).childCap = false ∧ (t.pos p).beltCap = false
  load : ∀ p : Pos, (t.pos p).load = { w := 0, f16 := 0, seeded := false, band := 0, n := 0, k := 0 }
  child : ∀ p : Pos, (t.pos p).child =
    { accepted := .none, pending := .none, pendingCount := 0, dropout := 0, tags := [], loadFlag := false }
  cls : ∀ p : Pos, (t.pos p).cls =
    { stable := if (t.entry p).enabled then .unresolved else .absent, cause := .none,
      candidate := if (t.entry p).enabled then .unresolved else .absent, agreement := 0, lastInstant := .unresolved,
      sequence := 0, resolveMark := false }
  belt : ∀ p : Pos, (t.pos p).buckle = { belt := .none, pending := .none, count := 0 }
  reminder : ∀ p : Pos, (t.pos p).reminder =
    { step := .idle, timer := 0, confirmed := false, reissues := 0, scans := 0 }
  watched : ∀ p : Pos, (t.pos p).watched = false ∧ (t.pos p).injection = none
  hold : t.restraint.hold = none ∧ t.restraint.holdCount = 0 ∧ t.restraint.lastExpired = false ∧
    t.restraint.sequence = 0
  vehicle : t.vehicle =
    { ignition := .unknown, speed := 0, gear := .other, door := .closed, freshTimer := none, watch := none, mode := .run,
      eco := none, testMode := false }

/-- A port at its reset values (R147). -/
abbrev PortState.AtReset (x : PortState) : Prop :=
  x = { assembler := .idle, reply := none, queue := [], overflow := false, drops := 0, attention := false }

/-- Every port is at its reset values. -/
abbrev State.PortsAtReset (t : State) : Prop := ∀ p : Port, (t.port p).AtReset

/-! ## Rules that hold of the part at all times -/

/-- A port's notice queue holds at most 16 notices, never two with one kind and subject (R142). -/
abbrev queueLegal (q : List Notice) : Prop :=
  q.length ≤ queueLimit ∧ (q.map fun n => (n.kind, n.subject)).Nodup

/-- Every port's queue is legal (R142). -/
abbrev State.QueuesLegal (s : State) : Prop :=
  queueLegal s.ports.safety.queue ∧ queueLegal s.ports.cabin.queue ∧ queueLegal s.ports.service.queue

/-- A configuration whose every field lies in its range or set, with profiles in order and a consistent map (R1, R2, R46, R67,
R76, R148). -/
abbrev LiveConfig.Legal (c : LiveConfig) : Prop :=
  (∀ p : Pos, (c.map.get p).inRange = true) ∧ (∀ i : Fin 4, (c.profiles.get i).valid = true) ∧
  c.settings.valid = true ∧ mapConsistent c.map = true

/-- Every field of the live configuration and of every staged entry lies in its range (R1, R8), and a capture in flight has
gathered fewer than 16 raw loads, each below 400 (R49). -/
abbrev State.FieldsLegal (s : State) : Prop :=
  (∀ p : Pos, (s.entry p).inRange = true) ∧ (∀ i : Fin 4, (s.config.profiles.get i).valid = true) ∧
  s.config.settings.valid = true ∧ (∀ p : Pos, ∀ e ∈ s.staging.entries.get p, e.inRange = true) ∧
  (∀ c ∈ s.capture, c.count < captureSamples ∧ c.sum ≤ (captureLimit - 1) * c.count)

/-- The live map satisfies the conditions of R2, and so does the map that a pending deferred commit will produce (R2, R13). -/
abbrev State.MapLegal (s : State) : Prop :=
  mapConsistent s.config.map = true ∧ (s.staging.deferred = true → mapConsistent s.stagedMap = true)

/-- The Load Conditioner's values lie in their ranges (spec 03, 3.1). -/
abbrev LoadRec.Legal (r : LoadRec) : Prop := r.w ≤ 4000 ∧ r.f16 ≤ 64000 ∧ r.band ≤ 3 ∧ r.n ≤ 16 ∧ r.k ≤ 255

/-- The Classifier's values agree with one another: the agreement count is at most 15 and 0 while the candidate is the stable
class, and the fault cause is NONE exactly while the class is not FAULT (R72, R77). -/
abbrev ClassRec.Legal (c : ClassRec) : Prop :=
  c.agreement ≤ agreementLimit ∧ (c.candidate = c.stable → c.agreement = 0) ∧ (c.cause = .none ↔ c.stable ≠ .fault)

/-- Every position's load and class values are legal. -/
abbrev State.RecordsLegal (s : State) : Prop := ∀ p : Pos, (s.pos p).load.Legal ∧ (s.pos p).cls.Legal

/-- Every position keeps the rules of fit and capability. -/
abbrev State.CapabilitiesLegal (s : State) : Prop := ∀ p : Pos, (s.pos p).CapLegal (s.entry p).enabled

/-- A position's reminder is IDLE unless its belt is UNLATCHED or FAULT, its class is eligible or FAULT, the ignition is RUN
and its reminder class is not NONE (R94, R95, R98); the timer is 0 in IDLE, MUTED and LAPSED (R92). -/
abbrev State.ReminderLegal (s : State) (p : Pos) : Prop :=
  let r := s.pos p
  (r.reminder.step ≠ .idle →
    r.buckle.belt.unfastened = true ∧ (r.cls.stable.eligible = true ∨ r.cls.stable = .fault) ∧
    s.vehicle.ignition = .run ∧ (s.entry p).reminderClass ≠ .none) ∧
  (r.reminder.step = .idle ∨ r.reminder.step = .muted ∨ r.reminder.step = .lapsed → r.reminder.timer = 0)

/-- Every position's reminder is legal. -/
abbrev State.RemindersLegal (s : State) : Prop := ∀ p : Pos, s.ReminderLegal p

/-- Whether PSO shows a pattern of a suppression state (R109). -/
def Pso.shows (x : Pso) (d : Suppression) : Bool :=
  match d, x with
  | .enable, .low => true
  | .suppress, .high => true
  | .indeterminate, .alternating _ _ => true
  | .enable, .high | .enable, .alternating _ _ | .suppress, .low | .suppress, .alternating _ _
  | .indeterminate, .low | .indeterminate, .high => false

/-- While the part runs, the suppression state is the decision that the live map and the stable classes give, and PSO shows it;
PSO is high while RESET_N is low and alternates during the load (R107, R109). -/
abbrev State.LineLegal (s : State) : Prop :=
  (s.phase = .running ∨ s.phase = .resetReply →
    s.restraint.suppression = s.decision ∧ s.restraint.pso.shows s.decision = true) ∧
  (s.phase = .resetLow → s.restraint.pso = .high) ∧
  (s.phase = .loading → s.restraint.pso.shows .indeterminate = true)

/-- The eco countdown runs exactly while its conditions hold, and ECO stands only with ignition OFF, no watch, no HOLD, nothing
in flight and every reminder IDLE (R129, R130). -/
abbrev State.EcoLegal (s : State) : Prop :=
  s.vehicle.eco.isSome = s.ecoConditions ∧
  (s.vehicle.mode = .eco →
    s.vehicle.ignition = .off ∧ s.watching = false ∧ s.holdActive = false ∧ s.capture = none ∧ s.saveImage = none ∧
    s.staging.deferred = false ∧ s.remindersIdle = true)

/-- What HOLD freezes: every position's stable class, fault cause and record sequence, the suppression state and its sequence,
and the live map (R84, R107, R12, R13). -/
abbrev State.SameFrozen (s t : State) : Prop :=
  (∀ p : Pos, (t.pos p).cls.stable = (s.pos p).cls.stable ∧ (t.pos p).cls.cause = (s.pos p).cls.cause ∧
    (t.pos p).cls.sequence = (s.pos p).cls.sequence) ∧
  t.restraint.suppression = s.restraint.suppression ∧ t.restraint.sequence = s.restraint.sequence ∧
  t.config.map = s.config.map

end Sys2Proof.Machine
end

