-- ==== Sys2Proof/Certificates/Slice0/Obligations.lean ====
section
/-! DEFINITION. The statements about the part. Each docstring names the rule of the manual that the statement formalises, and
says where it rests on a choice of the model's. -/

open Sys2Proof Sys2Proof.Machine

/-! ## The queue and the passing of time -/

/-- A waiting command is taken first and runs with the rest of the queue (the block's step; log entry 1). -/
def Obligations.StepTakesFrontCommand : Prop :=
  ∀ (c : Instr) (rest : List Instr) (s : State), s.pending = c :: rest → step s = exec c { s with pending := rest }

/-- No command or event touches the queue of waiting commands (the model's own field; log entry 1). -/
def Obligations.ExecKeepsWaitingQueue : Prop :=
  ∀ (c : Instr) (s t : State), exec c s = .next t → t.pending = s.pending

/-- With no command and no character waiting, a due event is taken, one of those the part's timers make due and the free choice
names, and with none due one quantum passes: it lowers every running timer of the running part by one, the watch timer and the
eco countdown by 32 in test mode, raises the notices' ages by one, and changes nothing else but the alternation of PSO (R127,
R129, R131, R145; log entries 1, 2 and 4). In every phase a quantum leaves a steady PSO and runs an alternating one through
halves of 50 ms; in a phase other than running it changes nothing else (R109, R153; log entry 26). -/
def Obligations.IdleStepTakesDueEventOrPassesQuantum : Prop :=
  (∀ s : State, s.pending = [] → s.incoming = [] →
     (s.nextDue = none → step s = .next s.passTime) ∧
     (∀ e, s.nextDue = some e →
       e ∈ s.due ∧ s.phase = .running ∧ step s = exec e { s with freeCount := s.freeCount + 1 }) ∧
     (s.phase = .running → s.due ≠ [] → ∃ e, s.nextDue = some e)) ∧
  (∀ s : State, s.phase = .running →
     { s.passTime with
       scanner := { s.passTime.scanner with timer := s.scanner.timer }
       reminderTimer := s.reminderTimer
       restraint := { s.passTime.restraint with hold := s.restraint.hold, pso := s.restraint.pso }
       vehicle := { s.passTime.vehicle with
         freshTimer := s.vehicle.freshTimer, watch := s.vehicle.watch, eco := s.vehicle.eco }
       ports := s.ports } = s ∧
     s.passTime.scanner.timer = s.scanner.timer.map (· - 1) ∧
     s.passTime.reminderTimer = s.reminderTimer.map (· - 1) ∧
     s.passTime.restraint.hold = s.restraint.hold.map (· - 1) ∧
     s.passTime.vehicle.freshTimer = s.vehicle.freshTimer.map (· - 1) ∧
     s.passTime.vehicle.watch = s.vehicle.watch.map (· - if s.vehicle.testMode then 32 else 1) ∧
     s.passTime.vehicle.eco = s.vehicle.eco.map (· - if s.vehicle.testMode then 32 else 1) ∧
     (∀ p : Port, s.passTime.port p =
       { s.port p with queue := (s.port p).queue.map fun n => { n with waited := n.waited + 1 } })) ∧
  (∀ s : State,
     (s.restraint.pso = .low → s.passTime.restraint.pso = .low) ∧
     (s.restraint.pso = .high → s.passTime.restraint.pso = .high) ∧
     (∀ level left, s.restraint.pso = .alternating level left → s.passTime.restraint.pso =
       if left ≤ 1 then .alternating (!level) 400 else .alternating level (left - 1)) ∧
     (s.phase ≠ .running → s.nextDue = none ∧
       { s.passTime with restraint := { s.passTime.restraint with pso := s.restraint.pso } } = s))

/-- Every command and event completes, but for an unknown-command term whose command byte names a command: no frame of that
row exists, and it stops by name (R137). -/
def Obligations.EveryWellFormedCommandCompletes : Prop :=
  (∀ (i : Instr) (s : State), i.wellFormed = true → ∃ t, exec i s = .next t) ∧
  (∀ (i : Instr) (s : State), (∃ t, exec i s = .next t) ∨
    (exec i s = .fault .notThatRow ∧ ∃ p cmd chk, i = .unknownCommand p cmd chk ∧ (operandLength cmd).isSome = true))

/-! ## Encodings -/

/-- The frame of every port command spells that command again: no operand byte and no check byte is lost (R134, spec 11.2). That
TEST MODE is two commands, told apart by the operand OFF, is the table's and the model's (log entry 25). -/
def Obligations.FrameSpellsItsCommand : Prop :=
  ∀ (i : Instr) (p : Port) (b : List Byte),
    i.wellFormed = true → i.sentOn = some p → i.frame = some b → decodeFrame p b = some i

/-- A configuration that is saved and read back whole is loaded again field by field (R148, R151, R152, spec 11.3; the
order of the bytes in the store is the model's, log entry 7). -/
def Obligations.SavedConfigurationLoadsBack : Prop :=
  ∀ c : LiveConfig, c.Legal → checkStore { complete := true, image := c.image } = .ok c

/-- The reply that a node forms is received whole, judged valid, and read back field by field, the bits that the part does not
read being zero in it (R23, R24, R154, spec 11.1; log entry 30). A reply that fails a check is the miss that the first failing
check gives: nothing received, a wrong sync, a length cut, a length above 73, a cut, a CRC that differs, a wrong address or a
wrong kind; then contents that do not agree with the length, which are a slot count outside 1 to 4 or an identity payload of
another length, and slot blocks that do not fill the payload, a tag count of 3 among them; and with none of these it is valid
(R25). The fields of an identity, of a slot block and of a tag record are those of spec 11.1. -/
def Obligations.RepliesAreReadBackOrMisses : Prop :=
  (∀ (a : Fin 6) (f : List Byte) (slots : Nat) (id : NodeIdentity), id.sendable = true →
    completeReply (identityReply a id) = true ∧
    judgeReply { address := a, command := .identify, frame := f } slots (identityReply a id) = .identity id) ∧
  (∀ (a : Fin 6) (f : List Byte) (serial : Byte) (blocks : List SlotSample),
    within 1 4 blocks.length = true → (∀ x ∈ blocks, x.sendable = true) →
    completeReply (sampleReply a serial blocks) = true ∧
    judgeReply { address := a, command := .sample, frame := f } blocks.length (sampleReply a serial blocks) =
      .sample serial blocks) ∧
  (∀ (x : Exchange) (slots : Nat) (chars : List Byte),
     let len := (byteAt chars 3).toNat
     let crcOk := crc16 ((chars.drop 1).take (len + 3)) = byteAt chars (len + 4) ++ byteAt chars (len + 5)
     (chars = [] → judgeReply x slots chars = .miss .timeout) ∧
     (chars ≠ [] → byteAt chars 0 ≠ 0xC3 → judgeReply x slots chars = .miss .format) ∧
     (byteAt chars 0 = 0xC3 → chars.length < 4 → judgeReply x slots chars = .miss .timeout) ∧
     (byteAt chars 0 = 0xC3 → 4 ≤ chars.length → 73 < len → judgeReply x slots chars = .miss .format) ∧
     (byteAt chars 0 = 0xC3 → 4 ≤ chars.length → len ≤ 73 → chars.length < len + 6 →
       judgeReply x slots chars = .miss .timeout) ∧
     (byteAt chars 0 = 0xC3 → len ≤ 73 → len + 6 ≤ chars.length → ¬ crcOk → judgeReply x slots chars = .miss .crc) ∧
     (byteAt chars 0 = 0xC3 → len ≤ 73 → len + 6 ≤ chars.length → crcOk →
       (byteAt chars 1).toNat ≠ x.address.val + 1 + 128 ∨ byteAt chars 2 ≠ x.command.replyKind →
       judgeReply x slots chars = .miss .format) ∧
     (byteAt chars 0 = 0xC3 → len ≤ 73 → len + 6 ≤ chars.length → crcOk →
       (byteAt chars 1).toNat = x.address.val + 1 + 128 → byteAt chars 2 = x.command.replyKind →
       (x.command = .identify →
         let count := (byteAt chars 7).toNat
         (len < 4 ∨ count = 0 ∨ 4 < count ∨ len ≠ 4 + count → judgeReply x slots chars = .miss .format) ∧
         (4 ≤ len → 1 ≤ count → count ≤ 4 → len = 4 + count → ∃ id : NodeIdentity,
           judgeReply x slots chars = .identity id ∧ id.slots = count ∧
           id.id.toNat = (byteAt chars 4).toNat * 65536 + (byteAt chars 5).toNat * 256 + (byteAt chars 6).toNat ∧
           id.caps = ((chars.drop 8).take count).map fun c => (decide (c.toNat % 2 = 1), decide (c.toNat / 2 % 2 = 1)))) ∧
       (x.command = .sample →
         let blocks := (chars.drop 5).take (len - 1)
         (len = 0 ∨ blocksFill slots blocks = false → judgeReply x slots chars = .miss .format) ∧
         (1 ≤ len → blocksFill slots blocks = true → ∃ xs : List SlotSample,
           judgeReply x slots chars = .sample (byteAt chars 4) xs ∧ xs.length = slots ∧
           takeSlotBlocks slots blocks = some xs)))) ∧
  (∀ b : List Byte,
    takeSlotBlocks 0 [] = some [] ∧
    let tags := (byteAt b 0).toNat / 16 % 4
    (tags ≤ 2 → 6 + 6 * tags ≤ b.length → ∃ x : SlotSample,
      (∀ n, takeSlotBlocks (n + 1) b = (takeSlotBlocks n (b.drop (6 + 6 * tags))).map (x :: ·)) ∧
      x.statusFault = decide ((byteAt b 0).toNat % 2 = 1) ∧ x.buckle.toNat = (byteAt b 0).toNat / 2 % 4 ∧
      x.load = (byteAt b 1).toNat * 256 + (byteAt b 2).toNat ∧ x.cells = (byteAt b 3).toNat ∧
      x.peak = (byteAt b 4).toNat * 256 + (byteAt b 5).toNat ∧ x.tags = [tagAt b 6, tagAt b 12].take tags)) ∧
  (∀ (b : List Byte) (i : Nat),
    (tagAt b i).id = byteAt b i ++ byteAt b (i + 1) ++ byteAt b (i + 2) ++ byteAt b (i + 3) ∧
    (tagAt b i).orientation.toNat = (byteAt b (i + 4)).toNat % 4 ∧
    (tagAt b i).weak = decide (128 ≤ (byteAt b (i + 4)).toNat) ∧ (tagAt b i).mass = byteAt b (i + 5))

/-! ## Resets and the start-up load -/

/-- The values that the manual states for a reset stand in the state right after reset, with the suppression state derived
and the scan timer due at once (R18, R27, R38, R54, R70, R88, R106, R109, R121, R133). That nothing has been saved, so
that the load defaulted with reason INCOMPLETE, is the model's choice (log entry 3). -/
def Obligations.ResetLeavesStatedValues : Prop :=
  State.reset.AtReset ∧ State.reset.phase = .running ∧ State.reset.restraint.suppression = State.reset.decision ∧
  State.reset.restraint.suppression = .indeterminate ∧ State.reset.restraint.snapshots = [] ∧
  State.reset.scanner.timer = some 0 ∧ State.reset.reminderTimer = some Config.reminderSpacing ∧
  State.reset.standstill = false ∧ State.reset.configState = .defaulted ∧ State.reset.config = defaultConfig

/-- POWER_ON and RESET_LINE_RELEASE end all work in progress and start the load with PSO alternating, RESET_LINE_ASSERT
ends all work and holds PSO high; all keep the store, and only POWER_ON empties the snapshot stack (R109, R121, R147,
R152, R153). That the blocks are at their reset values while the load still runs, and that the live configuration keeps its old
value until the load ends, is the model's reading (log entry 9, DEDUCED); that POWER_ON starts the load while RESET_N is low, and
that the alternation begins with a new high half, are its choices (log entries 36 and 42, DESIGN CHOICE). -/
def Obligations.ResetsEndWorkAndStartLoad : Prop :=
  (∀ s : State, ∃ t, exec .powerOn s = .next t ∧ t.phase = .loading ∧ t.AtReset ∧ t.PortsAtReset ∧
     t.restraint.snapshots = [] ∧ t.restraint.pso = .alternating true Config.psoHalf ∧
     t.store = s.store ∧ t.config = s.config ∧ t.scanner.timer = none ∧ t.reminderTimer = none) ∧
  (∀ s : State, ∃ t, exec .resetLineAssert s = .next t ∧ t.phase = .resetLow ∧ t.AtReset ∧ t.PortsAtReset ∧
    t.restraint.pso = .high ∧ t.restraint.snapshots = s.restraint.snapshots ∧ t.store = s.store) ∧
  (∀ s : State, s.phase = .resetLow → ∃ t, exec .resetLineRelease s = .next t ∧ t.phase = .loading ∧ t.AtReset ∧
    t.PortsAtReset ∧ t.restraint.pso = .alternating true Config.psoHalf ∧
    t.restraint.snapshots = s.restraint.snapshots ∧ t.store = s.store)

/-- The store check stops at the first failure with its reason (R152): mark, CRC, version, ranges, map conditions. The ranges and
the map conditions are spelled in StagingCommandsChangeStagingAlone, ProfilesAndSettingsAreReplacedThroughGate and
CommitMapDecidesByFirstCase. -/
def Obligations.StoreCheckStopsAtFirstFailure : Prop :=
  ∀ st : Store,
    (st.complete = false → checkStore st = .error .incomplete) ∧
    (st.complete = true → crc16 st.image.body ≠ st.image.crc → checkStore st = .error .crc) ∧
    (st.complete = true → crc16 st.image.body = st.image.crc → byteAt st.image.body 0 ≠ 0x03 →
      checkStore st = .error .version) ∧
    (st.complete = true → crc16 st.image.body = st.image.crc → byteAt st.image.body 0 = 0x03 →
      (storedConfig st.image.body = none → checkStore st = .error .range) ∧
      (∀ c, storedConfig st.image.body = some c → mapConsistent c.map = false → checkStore st = .error .mapConflict) ∧
      (∀ c, storedConfig st.image.body = some c → mapConsistent c.map = true → checkStore st = .ok c)) ∧
    (∀ c, checkStore st = .ok c → st.complete = true ∧ crc16 st.image.body = st.image.crc ∧
      byteAt st.image.body 0 = 0x03 ∧ storedConfig st.image.body = some c ∧ c.Legal)

/-- CONFIGURATION_LOAD_END takes the stored configuration when every check passes, and otherwise the defaults, with
CONFIG_DEFAULTED and its reason as the first entry of the service queue; the blocks are at their reset values, the suppression
state is derived with sequence 0, and the timers start (R109, R152, R153). -/
def Obligations.LoadEndTakesStoreOrDefaults : Prop :=
  ∀ s : State, s.phase = .loading → ∃ t, exec .configurationLoadEnd s = .next t ∧ t.phase = .running ∧ t.AtReset ∧
    t.store = s.store ∧ t.restraint.snapshots = s.restraint.snapshots ∧
    t.restraint.suppression = t.decision ∧ t.restraint.pso.shows t.decision = true ∧
    t.scanner.timer = some 0 ∧ t.reminderTimer = some Config.reminderSpacing ∧
    (t.port .safety).AtReset ∧ (t.port .cabin).AtReset ∧
    (∀ c, checkStore s.store = .ok c → t.config = c ∧ t.configState = .loaded ∧ (t.port .service).AtReset) ∧
    (∀ e, checkStore s.store = .error e → t.config = defaultConfig ∧ t.configState = .defaulted ∧
      t.port .service =
        { assembler := .idle, reply := none, overflow := false, drops := 0, attention := true
          queue := [{ kind := .configDefaulted, subject := 0, payload := payloadOf 0 e.code, scan := 0, waited := 0 }] })

/-- RESET PART passes the service gate, replies OK and only then resets: the reply is sent first, and at its end the part
is at its reset values with the load running and the snapshot stack kept (R139, R153). That those values stand while the load
still runs is the model's reading (log entry 9, DEDUCED), and that PSO begins a new high half with the load, whatever it showed
before, is its choice (log entry 42, DESIGN CHOICE). -/
def Obligations.ResetPartRepliesThenResets : Prop :=
  (∀ (s : State) (chk : Byte), s.ready .service → soundFrame 0x71 [] chk →
    (s.gateOpen → ∃ t, exec (.resetPart .service chk) s = .next t ∧ s.Answered t .service 0x71 .ok [] ∧
      s.putBack t = { s with phase := .resetReply }) ∧
    (s.standstill = false ∨ s.holdActive = true → ∃ t, exec (.resetPart .service chk) s = .next t ∧
      s.Answered t .service 0x71 .locked [] ∧ s.putBack t = s) ∧
    (s.standstill = true → s.holdActive = false → s.saving = true → ∃ t,
      exec (.resetPart .service chk) s = .next t ∧ s.Answered t .service 0x71 .busy [] ∧ s.putBack t = s)) ∧
  (∀ s : State, s.phase = .resetReply → ∃ t, exec .resetPartReplySent s = .next t ∧ t.phase = .loading ∧ t.AtReset ∧
    t.PortsAtReset ∧ t.restraint.snapshots = s.restraint.snapshots ∧ t.store = s.store ∧
    t.restraint.pso = .alternating true Config.psoHalf)

/-! ## Seat lines -/

/-- SCAN_TICK raises the scan number, wrapping, starts the scan timer with the period of the mode, and decides whether the
scan probes: while the first-scan mark is set it does, in RUN every tenth scan does, in ECO none does (R20, R22). Both lines
begin a round: on each the poll of the first address that gets one is in progress, and none where every address is skipped
(R21, R23). The skip of an address before that poll is handed to the positions bound to it: each takes the class of the node's
verdict, which waits while HOLD is active, and keeps the rest but its reminder; every other position keeps all but its reminder
(R21, R33, R34, R84). No node record and nothing of the configuration, the store, the staging area and the vehicle state changes
but the eco countdown. The poll an address is sent, or none for a skip: SAMPLE to an ONLINE or SILENT node, IDENTIFY to an UNSEEN or
LOST one in a probe scan; a line's visit stops at the first address that is polled (R21). A poll frame is sync, address,
command and CRC-16, high byte first (R23, R24). -/
def Obligations.ScanTickNumbersProbesAndPolls : Prop :=
  (∀ s : State, s.phase = .running → ∃ t, exec .scanTick s = .next t ∧
     t.scanner.number = s.scanner.number + 1 ∧
     t.scanner.timer = some (if s.vehicle.mode = .eco then Config.ecoPeriod else Config.runPeriod) ∧
     t.scanner.firstScan = false ∧
     (s.scanner.firstScan = true → t.scanner.probing = true ∧ t.scanner.probeCount = s.scanner.probeCount) ∧
     (s.scanner.firstScan = false → s.vehicle.mode = .eco →
       t.scanner.probing = false ∧ t.scanner.probeCount = s.scanner.probeCount) ∧
     (s.scanner.firstScan = false → s.vehicle.mode = .run → s.scanner.probeCount = 9 →
       t.scanner.probing = true ∧ t.scanner.probeCount = 0) ∧
     (s.scanner.firstScan = false → s.vehicle.mode = .run → s.scanner.probeCount ≠ 9 →
       t.scanner.probing = false ∧ t.scanner.probeCount = s.scanner.probeCount + 1) ∧
     (∀ l : Line, (t.scanner.lines.get l).exchange = t.nextPoll l [0, 1, 2, 3, 4, 5]) ∧
     (∀ (l : Line) (a : Fin 6), t.node l a = s.node l a) ∧
     (∀ (l : Line) (a : Fin 6) (p : Pos), s.boundTo l a p = true →
       let skipped := t.nextPoll l ([0, 1, 2, 3, 4, 5].filter fun b => b ≤ a) = none
       (skipped → s.TakesSkip t l a p) ∧
       (¬ skipped → { t.pos p with reminder := (s.pos p).reminder } = s.pos p)) ∧
     (∀ p : Pos, (s.entry p).enabled = false → { t.pos p with reminder := (s.pos p).reminder } = s.pos p) ∧
     t.config = s.config ∧ t.store = s.store ∧ t.staging = s.staging ∧ t.phase = s.phase ∧
     { t.vehicle with eco := s.vehicle.eco } = s.vehicle) ∧
  (∀ (s : State) (l : Line) (a : Fin 6), s.pollFor l a =
    if (s.node l a).state = .online ∨ (s.node l a).state = .silent then some .sample
    else if s.scanner.probing = true then some .identify else none) ∧
  (∀ (s : State) (l : Line) (as : List (Fin 6)),
    ((s.visit l as).scanner.lines.get l).exchange =
      match as.find? fun a => (s.pollFor l a).isSome with
      | none => none
      | some a => (s.pollFor l a).map fun c => { address := a, command := c, frame := pollFrame a c }) ∧
  (∀ (a : Fin 6) (c : PollCommand),
    let command : Byte := if c = .identify then 0x01 else 0x02
    let crc := crc16 [BitVec.ofNat 8 (a.val + 1), command]
    pollFrame a c = [0xC3, BitVec.ofNat 8 (a.val + 1), command, crc.extractLsb' 8 8, crc.extractLsb' 0 8]) ∧
  pollFrame 2 .identify = [0xC3, 0x03, 0x01, 0xBE, 0x0E]

/-- An exchange that ends with no reply or a cut one is a timeout miss, one whose CRC differs a CRC miss, and one with a wrong
sync, length, address, kind or contents a format miss (R25). Every miss counts one in the counter of its kind and moves the
node, from ONLINE to SILENT, to LOST at the third miss with the verdict of standstill, and for an UNSEEN or LOST node the
verdict alone (R26, R31, R32). NODE_CHANGED is posted to the service port at the third miss, with LOST and the reason
THIRD_MISS, and at no other miss (R36). No other node record, and nothing of the configuration, the store and the scan number,
changes, and the round goes on with the next address (R19, R21). While the node is SILENT a bound position holds all its values,
but that a misfitting one is asked for FAULT again; at the third miss it loses its fit, its capabilities and its injection and
takes the class of the verdict, and a missed probe gives it the class of the verdict; while HOLD is active its class waits (R31,
R33, R81, R84, R86). A capture in flight of a bound position aborts with NODE (R51). The skips up to the line's next poll are
handed on (R21, R34). A position is bound to an address exactly when its entry is enabled and names that line and address
(R34). -/
def Obligations.CutReplyIsTimeoutMiss : Prop :=
  (∀ (s : State) (l : Line) (a : Fin 6) (p : Pos), s.boundTo l a p = true ↔
    (s.entry p).enabled = true ∧ (s.entry p).line = l ∧ (s.entry p).address = a) ∧
  (∀ (s : State) (l : Line) (x : Exchange) (chars : List Byte) (k : MissKind) (i : Instr),
    s.phase = .running → (s.scanner.lines.get l).exchange = some x →
    (i = .replyWindowClose l ∧ k = .timeout) ∨
      ((i = .seatReplyReceived l chars ∨ i = .seatReplyGap l chars ∨ i = .exchangeLimit l chars) ∧
        x.Missed (match (s.node l x.address).identity with | none => 0 | some id => id.slots) chars k) →
    let n := s.node l x.address
    let counted := n.missed k
    let verdict := if s.standstill then Verdict.absent else Verdict.fault
    let kept := if n.verdict = .absent then Verdict.absent else verdict
    ∃ t, exec i s = .next t ∧ s.AfterOutcome t l x.address ∧ s.LosesCapture t l x.address ∧
      (n.state = .online → t.node l x.address = { counted with state := .silent, misses := 1 }) ∧
      (n.state = .silent → n.misses = 1 → t.node l x.address = { counted with misses := 2 }) ∧
      (n.state = .silent → n.misses = 2 →
        t.node l x.address = { counted with state := .lost, misses := 0, verdict := verdict } ∧
        s.TellsNode t l x.address 0x0302) ∧
      (n.state = .unseen ∨ n.state = .lost → t.node l x.address = { counted with misses := 0, verdict := kept }) ∧
      (n.state ≠ .silent ∨ n.misses = 1 → s.TellsNoNode t) ∧
      (∀ p : Pos, s.boundTo l x.address p = true → s.TellsClass t l x.address p ∧
        (n.state = .online ∨ (n.state = .silent ∧ n.misses = 1) →
          s.KeepsAllBut t p ∧ (t.pos p).cls = s.misfitClass p (s.pos p).fit ∧
          ((s.pos p).fit ≠ .misfit → (s.pos p).fit ≠ .noSlot → t.pos p = s.pos p)) ∧
        (n.state = .silent → n.misses = 2 → s.LosesNode t p verdict) ∧
        (n.state = .unseen ∨ n.state = .lost → s.KeepsAllBut t p ∧ (t.pos p).cls = s.lossClass p kept)))

/-- The fit of an entry with a node: MISFIT unless the bits that the match mode selects are equal, then NO_SLOT unless the
slot exists, and otherwise FITS (R4). A valid IDENTITY reply makes the node ONLINE with its identity recorded and no
verdict, posts NODE_CHANGED with ONLINE and the reason IDENTIFIED to the service port, and decides the fit of every enabled
position bound to it; no other node record and no other fit changes, and the round goes on with the next address (R5, R21, R28,
R36). A position that fits has the capabilities in effect that its map flags and
the node's slot allow, an unseeded filter where it did not fit before, and is returned to UNRESOLVED; one that does not takes
FAULT with its cause and loses its injection; while HOLD is active the class waits and an identification leaves the resolve mark
(R7, R33, R44, R81, R82, R84, R86). -/
def Obligations.ValidIdentityReplyIdentifiesAndFits : Prop :=
  (∀ (e : MapEntry) (id : NodeIdentity),
     let same : Prop :=
       match e.matchMode with
       | .exact => id.id = e.identity
       | .variant => id.id.toNat / 4096 = e.identity.toNat / 4096
       | .model => id.id.toNat / 65536 = e.identity.toNat / 65536
       | .any => True
     (e.fitWith id = .misfit ↔ ¬ same) ∧
     (e.fitWith id = .noSlot ↔ same ∧ id.slots < e.slot.val + 1) ∧
     (e.fitWith id = .fits ↔ same ∧ e.slot.val + 1 ≤ id.slots)) ∧
  (∀ (s : State) (l : Line) (x : Exchange) (id : NodeIdentity),
     s.phase = .running → (s.scanner.lines.get l).exchange = some x → x.command = .identify → id.sendable = true →
     ∃ t, exec (.seatReplyReceived l (identityReply x.address id)) s = .next t ∧ s.AfterOutcome t l x.address ∧
       t.node l x.address =
         { s.node l x.address with state := .online, misses := 0, identity := some id, verdict := .none } ∧
       s.TellsNode t l x.address 0x0101 ∧
       (∀ p : Pos, s.boundTo l x.address p = true →
         let fit := (s.entry p).fitWith id
         s.TellsClass t l x.address p ∧ (t.pos p).fit = fit ∧ t.CapsInEffect p ∧
         (t.pos p).load = (if fit = .fits ∧ (s.pos p).fit ≠ .fits then
           { w := 0, f16 := 0, seeded := false, band := 0, n := 0, k := 0 } else (s.pos p).load) ∧
         (t.pos p).injection = (if fit = .fits then (s.pos p).injection else none) ∧
         (t.pos p).child =
           (if (s.pos p).childCap = true ∧ (t.pos p).childCap = false then .cleared else (s.pos p).child) ∧
         (t.pos p).buckle =
           (if (s.pos p).beltCap = true ∧ (t.pos p).beltCap = false then .cleared else (s.pos p).buckle) ∧
         (t.pos p).cls = if fit = .fits then s.onlineClass p true none else s.misfitClass p fit) ∧
       (∀ p : Pos, s.boundTo l x.address p = false → (t.pos p).fit = (s.pos p).fit))

/-- A valid SAMPLE reply with the recorded serial byte makes the node ONLINE with no misses, posts no NODE_CHANGED, and the round
goes on with the next address (R21, R29, R36). An enabled position bound to it that fits takes its injected sample, or else its own slot's block: it
conditions the load, takes the tags, debounces the buckle code and posts a changed belt state to the cabin port, and forms the
instant class from them (R34, R35, R39, R56, R74, R89 to R91, R132). With HOLD inactive a position with the resolve mark or a
direct class is first returned to UNRESOLVED, a standing vote is completed, and the sample's vote is counted and may complete;
while HOLD is active the vote is counted and no class changes (R73, R77, R79, R82, R84, R85, R86). A position that misfits is
asked for FAULT and keeps the rest (R33). In ECO an instant class that differs from the stable class that its position then has
wakes the part: the mode is RUN, the scan timer starts with the RUN period, and the eco countdown is judged; with none that
differs, and in RUN, the mode and the scan timer stay (R20, R74, R130). A capture in flight of a bound position takes the sample
first: a mat fault or a load of 400 or more aborts it with UNSTABLE, the sixteenth load stages the mean rounded half up and posts
CAPTURE_DONE with it, and any other load is counted (R34, R49, R50, R51). -/
def Obligations.ValidSampleReplyRunsPipeline : Prop :=
  ∀ (s : State) (l : Line) (x : Exchange) (id : NodeIdentity) (blocks : List SlotSample),
    s.phase = .running → (s.scanner.lines.get l).exchange = some x → x.command = .sample →
    (s.node l x.address).identity = some id → id.slots = blocks.length → within 1 4 blocks.length = true →
    (∀ b ∈ blocks, b.sendable = true) →
    ∃ t, exec (.seatReplyReceived l (sampleReply x.address (id.id.extractLsb' 0 8) blocks)) s = .next t ∧
      s.AfterOutcome t l x.address ∧
      t.node l x.address = { s.node l x.address with state := .online, misses := 0 } ∧ s.TellsNoNode t ∧
      (let differs : Prop := ∃ (p : Pos) (y : SlotSample), s.boundTo l x.address p = true ∧ (s.pos p).fit = .fits ∧
          ((s.pos p).injection = some y ∨ ((s.pos p).injection = none ∧ blocks[(s.entry p).slot.val]? = some y)) ∧
          instantClass (s.profileOf p) (t.pos p) y.matFault ≠ (s.standingClass p false).stable;
        (s.vehicle.mode = .eco → differs → s.Heard t) ∧
        (s.vehicle.mode = .run ∨ ¬ differs → t.vehicle.mode = s.vehicle.mode ∧ t.scanner.timer = s.scanner.timer)) ∧
      (∀ (c : Capture) (y : SlotSample), s.capture = some c → s.boundTo l x.address c.position = true →
        (s.pos c.position).fit = .fits →
        (s.pos c.position).injection = some y ∨
          ((s.pos c.position).injection = none ∧ blocks[(s.entry c.position).slot.val]? = some y) →
        (y.matFault = true ∨ 400 ≤ y.load →
          t.capture = none ∧ t.staging = s.staging ∧ s.TellsCapture t c.position 15 0x1000) ∧
        (y.matFault = false → y.load < 400 → c.count < 15 →
          t.capture = some { c with count := c.count + 1, sum := c.sum + y.load } ∧ t.staging = s.staging) ∧
        (y.matFault = false → y.load < 400 → c.count = 15 → c.sum ≤ 15 * 399 →
          let mean := (c.sum + y.load + 8) / 16
          let e := (s.staging.entries.get c.position).getD (s.entry c.position)
          t.capture = none ∧ s.TellsCapture t c.position 15 (BitVec.ofNat 16 mean) ∧
          t.staging.entries.get c.position = some { e with z := (mean : Int) } ∧
          ∀ q : Pos, q ≠ c.position → t.staging.entries.get q = s.staging.entries.get q)) ∧
      (∀ (p : Pos) (y : SlotSample), s.boundTo l x.address p = true → (s.pos p).fit = .fits →
        (s.pos p).injection = some y ∨
          ((s.pos p).injection = none ∧ blocks[(s.entry p).slot.val]? = some y) →
        let instant := instantClass (s.profileOf p) (t.pos p) y.matFault
        s.TellsClass t l x.address p ∧ (t.pos p).fit = .fits ∧ (t.pos p).childCap = (s.pos p).childCap ∧
        (t.pos p).beltCap = (s.pos p).beltCap ∧ (t.pos p).injection = (s.pos p).injection ∧
        (t.pos p).load = (s.pos p).load.take (s.entry p) (s.profileOf p) y ∧
        (t.pos p).child = (s.pos p).child.take (s.pos p).childCap (s.profileOf p) (t.pos p).load.f y ∧
        (t.pos p).buckle = (if (s.pos p).beltCap then (s.pos p).buckle.debounce (decodeBuckle y.buckle)
          else { belt := .none, pending := .none, count := 0 }) ∧
        ((∀ q : Pos, q < p → s.boundTo l x.address q = false) → (t.pos p).buckle.belt ≠ (s.pos p).buckle.belt →
          (s.port .cabin).queue.length < 16 → ∃ n ∈ (t.port .cabin).queue, n.kind = .beltChanged ∧
            n.subject = p.val + 1 ∧ n.payload.toNat = (t.pos p).buckle.belt.code ∧ n.scan = s.scanner.number) ∧
        (t.pos p).cls.lastInstant = instant ∧ (t.pos p).cls = s.onlineClass p false (some instant)) ∧
      (∀ p : Pos, s.boundTo l x.address p = true → (s.pos p).fit = .misfit ∨ (s.pos p).fit = .noSlot →
        s.KeepsAllBut t p ∧ (t.pos p).cls = s.misfitClass p (s.pos p).fit ∧ s.TellsClass t l x.address p) ∧
      (∀ p : Pos, s.boundTo l x.address p = false →
        (t.pos p).load = (s.pos p).load ∧ (t.pos p).child = (s.pos p).child ∧
        (t.pos p).cls.lastInstant = (s.pos p).cls.lastInstant)

/-- A valid SAMPLE reply with another serial byte is an identity slip: the node becomes UNSEEN with the verdict of
standstill, its recorded identity is kept, NODE_CHANGED with UNSEEN and the reason SLIP is posted to the service port, and no
enabled position bound to it keeps its fit, a capability or an injection; each takes the class of the verdict, unless HOLD is
active, and the round goes on with the next address (R21, R30, R33, R36, R81, R84, R86). A capture in flight of such a position
aborts with NODE (R51). -/
def Obligations.ChangedSerialIsSlip : Prop :=
  ∀ (s : State) (l : Line) (x : Exchange) (id : NodeIdentity) (serial : Byte) (blocks : List SlotSample),
    s.phase = .running → (s.scanner.lines.get l).exchange = some x → x.command = .sample →
    (s.node l x.address).identity = some id → id.slots = blocks.length → within 1 4 blocks.length = true →
    (∀ b ∈ blocks, b.sendable = true) → serial ≠ id.id.extractLsb' 0 8 →
    let verdict := if s.standstill then Verdict.absent else Verdict.fault
    ∃ t, exec (.seatReplyReceived l (sampleReply x.address serial blocks)) s = .next t ∧ s.AfterOutcome t l x.address ∧
      t.node l x.address = { s.node l x.address with state := .unseen, misses := 0, verdict := verdict } ∧
      s.TellsNode t l x.address 0x0003 ∧ s.LosesCapture t l x.address ∧
      (∀ p : Pos, s.boundTo l x.address p = true → s.LosesNode t p verdict ∧ s.TellsClass t l x.address p)

/-! ## Load, child seats and classes -/

/-- The corrected load is L less the zero, clamped to 0 to 4095, times the gain over 1024, rounded down and clamped to
4000 (R41). The concentration index is the peak times the loaded cells times 8 over the raw load, at most 255, and 0
without load or cells; a sample without a mat fault stores it with N (R45). A sample has the mat-fault indication exactly when
its status reports FAULT, its raw load is above 4095, N is above 16 or its peak is above 1023 (R35). -/
def Obligations.CorrectedLoadAndConcentration : Prop :=
  (∀ (load : Nat) (z : Int) (g : Nat),
    let d : Int := (load : Int) - z
    let clamped : Int := if d < 0 then 0 else if 4095 < d then 4095 else d
    let w : Int := clamped * g / 1024
    (correctedLoad load z g : Int) = if 4000 < w then 4000 else w) ∧
  (∀ (r : LoadRec) (e : MapEntry) (p : Profile) (x : SlotSample), x.matFault = false →
    (r.take e p x).w = correctedLoad x.load e.z e.g) ∧
  (∀ load cells peak : Nat, 1 ≤ load → 1 ≤ cells →
    concentration load cells peak = if 255 < peak * cells * 8 / load then 255 else peak * cells * 8 / load) ∧
  (∀ load cells peak : Nat, load = 0 ∨ cells = 0 → concentration load cells peak = 0) ∧
  (∀ (r : LoadRec) (e : MapEntry) (p : Profile) (x : SlotSample), x.matFault = false →
    (r.take e p x).n = x.cells ∧ (r.take e p x).k = concentration x.load x.cells x.peak) ∧
  (∀ x : SlotSample, x.matFault = true ↔ x.statusFault = true ∨ 4095 < x.load ∨ 16 < x.cells ∨ 1023 < x.peak)

/-- A step of the filter moves F16 by the gap over 2 to the k rounded toward minus infinity: it stays between its old
value and the target, a rising gap below 2 to the k leaves it, a falling target is approached by at least one, and with k
0 the target is reached at once (R43). A sample with the mat-fault indication leaves every Load Conditioner value; the
first other sample seeds an unseeded filter with its own W (R40, R42). -/
def Obligations.FilterSeedsAndStepsTowardLoad : Prop :=
  (∀ f16 w k : Nat, k ≤ 4 →
    let e : Int := (w : Int) * 16 - f16
    let f : Nat := stepFilter f16 w k
    (f : Int) = f16 + e / 2 ^ k ∧
    (0 ≤ e → f16 ≤ f ∧ f ≤ w * 16) ∧ (e ≤ 0 → w * 16 ≤ f ∧ f ≤ f16) ∧
    (0 < e → e < 2 ^ k → f = f16) ∧ (e < 0 → f < f16) ∧ (k = 0 → f = w * 16) ∧
    (f16 ≤ 64000 → w ≤ 4000 → f ≤ 64000 ∧ f / 16 ≤ 4000)) ∧
  (∀ (r : LoadRec) (e : MapEntry) (p : Profile) (x : SlotSample), x.matFault = false → r.seeded = true →
    (r.take e p x).f16 = stepFilter r.f16 (r.take e p x).w e.k ∧ (r.take e p x).f = (r.take e p x).f16 / 16) ∧
  (∀ (r : LoadRec) (e : MapEntry) (p : Profile) (x : SlotSample),
     (x.matFault = true → r.take e p x = r) ∧
     (x.matFault = false → r.seeded = false →
       (r.take e p x).f16 = (r.take e p x).w * 16 ∧ (r.take e p x).f = (r.take e p x).w ∧ (r.take e p x).seeded = true))

/-- The band rises while F is at least the next rising threshold and, if it has not risen, falls while F is below its falling
threshold; with thresholds in order the result is settled, so the same F leaves it (R47). -/
def Obligations.BandSettlesInOneSample : Prop :=
  ∀ (p : Profile) (f b : Nat), p.valid = true → b ≤ 3 →
    let n := updateBand p f b
    n ≤ 3 ∧
    (b < n → p.tu n ≤ f ∧ ∀ m, n < m → m ≤ 3 → f < p.tu m) ∧
    (n < b → f < p.td (n + 1) ∧ (n = 0 ∨ p.td n ≤ f)) ∧
    (n = b → (b = 3 ∨ f < p.tu (b + 1)) ∧ (b = 0 ∨ p.td b ≤ f)) ∧
    updateBand p f n = n

/-- Two screened tags read the same in either order, by their kinds and whether their pairing codes are equal (R60). No tag
reads nothing, and one tag reads by its kind, a convertible seat by its orientation (R59). Screening keeps a record unless its
kind is foreign, its orientation is no valid code, or a record kept before it has the same tag ID; a sample holds at most two
records (R58). The kind and the pairing code are the upper bits of the tag ID (R57). -/
def Obligations.TagsAreScreenedAndReadInPairs : Prop :=
  (∀ t u : TagRecord, t.kind ≠ .foreign → u.kind ≠ .foreign →
     tagReading [t, u] = tagReading [u, t] ∧
     (t.pairing ≠ u.pairing → tagReading [t, u] = .conflict) ∧
     (t.pairing = u.pairing → t.kind = .base → u.kind = .carrier → tagReading [t, u] = .carrierRf) ∧
     (t.pairing = u.pairing → t.kind = .base → u.kind = .convertible →
       tagReading [t, u] =
         if u.orientation = 1 then .seatRf else if u.orientation = 2 then .seatFf else .seatUnspec) ∧
     (t.kind = u.kind → tagReading [t, u] = .conflict) ∧
     (t.kind = .carrier → u.kind = .convertible → tagReading [t, u] = .conflict) ∧
     (t.kind = .booster → tagReading [t, u] = .conflict)) ∧
  tagReading [] = .none ∧
  (∀ t : TagRecord,
    (t.kind = .base → tagReading [t] = .baseOnly) ∧ (t.kind = .carrier → tagReading [t] = .carrierRf) ∧
    (t.kind = .convertible → tagReading [t] =
      if t.orientation = 1 then .seatRf else if t.orientation = 2 then .seatFf else .seatUnspec) ∧
    (t.kind = .booster → tagReading [t] = .boosterSeat) ∧
    (t.kind = .base ↔ t.id.toNat / 2 ^ 28 = 1) ∧ (t.kind = .carrier ↔ t.id.toNat / 2 ^ 28 = 2) ∧
    (t.kind = .convertible ↔ t.id.toNat / 2 ^ 28 = 3) ∧ (t.kind = .booster ↔ t.id.toNat / 2 ^ 28 = 4) ∧
    t.pairing.toNat = t.id.toNat / 2 ^ 16 % 4096) ∧
  (∀ tags : List TagRecord,
    (∀ t ∈ screenTags tags, t ∈ tags ∧ t.kind ≠ .foreign ∧ t.orientation ≠ 3) ∧
    ((screenTags tags).map (·.id)).Nodup ∧ (screenTags tags).Sublist tags) ∧
  (∀ t u : TagRecord, t.kind ≠ .foreign → t.orientation ≠ 3 →
    screenTags [t, u] = if u.kind = .foreign ∨ u.orientation = 3 ∨ u.id = t.id then [t] else [t, u]) ∧
  (∀ t u : TagRecord, t.kind = .foreign ∨ t.orientation = 3 → screenTags [t, u] = screenTags [u]) ∧
  (∀ t : TagRecord, screenTags [t] = if t.kind = .foreign ∨ t.orientation = 3 then [] else [t])

/-- One acceptance step by the table of spec 04, 4.4.1: a confirmation clears the pending state and the dropouts, and
refreshes the stored tags when the GOOD tags read the accepted state; a dropout counts and the fourth ends the state;
another reading is pending and its second consecutive reading is accepted (R61, R62, R63). -/
def Obligations.AcceptanceNeedsTwoReadingsAndFourDropouts : Prop :=
  ∀ (c : ChildRec) (tags : List TagRecord),
    let good := tags.filter fun t => !t.weak
    let r := tagReading good
    let rw := tagReading tags
    (r = c.accepted → c.accept tags = { c with pending := .none, pendingCount := 0, dropout := 0, tags := good }) ∧
    (r ≠ c.accepted → rw = c.accepted →
      c.accept tags = { c with pending := .none, pendingCount := 0, dropout := 0 }) ∧
    (r = .none → c.accepted ≠ .none → rw ≠ c.accepted → c.dropout ≤ 2 →
      c.accept tags = { c with pending := .none, pendingCount := 0, dropout := c.dropout + 1 }) ∧
    (r = .none → c.accepted ≠ .none → rw ≠ c.accepted → c.dropout = 3 →
      c.accept tags = { c with accepted := .none, pending := .none, pendingCount := 0, dropout := 0, tags := [] }) ∧
    (r ≠ .none → r ≠ c.accepted → rw ≠ c.accepted → r = c.pending → c.pendingCount = 1 →
      c.accept tags = { c with accepted := r, pending := .none, pendingCount := 0, dropout := 0, tags := good }) ∧
    (r ≠ .none → r ≠ c.accepted → rw ≠ c.accepted → r ≠ c.pending →
      c.accept tags = { c with pending := r, pendingCount := 1 })

/-- The child-load flag after the acceptance step, from the net child load and the profile's two thresholds: clear without a
child seat, held on a mat fault, set at CSu, kept down to CSd (R64, R65, R66). -/
def Obligations.ChildLoadFlagHasHysteresis : Prop :=
  ∀ (c : ChildRec) (p : Profile) (f : Nat) (x : SlotSample),
    let a := c.accept (screenTags x.tags)
    let tare := (a.tags.map fun t => t.mass.toNat).sum + p.cinch
    let net := if f < tare then 0 else f - tare
    let flag := (c.take true p f x).loadFlag
    (a.accepted = .none → flag = false) ∧
    (a.accepted ≠ .none → x.matFault = true → flag = c.loadFlag) ∧
    (a.accepted ≠ .none → x.matFault = false → c.loadFlag = false → flag = decide (p.csU ≤ net)) ∧
    (a.accepted ≠ .none → x.matFault = false → c.loadFlag = true → flag = decide (p.csD ≤ net)) ∧
    c.take false p f x = .cleared

/-- The instant class of a sample: FAULT on a mat fault, then the class of the recognized child seat by its flag, then the
class of the band with the untagged inference and the person test (R74, R75). -/
def Obligations.InstantClassOfSample : Prop :=
  ∀ (p : Profile) (r : PosRec),
    let person := p.nMin ≤ r.load.n ∧ r.load.k ≤ p.kHuman
    let rigid := r.childCap = true ∧ 8 ≤ r.load.n ∧ r.load.k ≤ p.kRigid
    instantClass p r true = .fault ∧
    (r.child.accepted = .conflict → instantClass p r false = .csUnspec) ∧
    (r.child.accepted ≠ .none → r.child.accepted ≠ .conflict → r.child.loadFlag = false →
      instantClass p r false = .csEmpty) ∧
    (r.child.loadFlag = true → r.child.accepted = .carrierRf ∨ r.child.accepted = .seatRf →
      instantClass p r false = .csRf) ∧
    (r.child.loadFlag = true → r.child.accepted = .seatFf → instantClass p r false = .csFf) ∧
    (r.child.loadFlag = true → r.child.accepted = .seatUnspec ∨ r.child.accepted = .baseOnly →
      instantClass p r false = .csUnspec) ∧
    (r.child.loadFlag = true → r.child.accepted = .boosterSeat → instantClass p r false = .booster) ∧
    (r.child.accepted = .none →
      (r.load.band = 0 → instantClass p r false = .empty) ∧
      (r.load.band = 1 → instantClass p r false = .object) ∧
      (r.load.band = 2 → rigid → instantClass p r false = .csUnspec) ∧
      (r.load.band = 2 → ¬ rigid → person → instantClass p r false = .small) ∧
      (r.load.band = 2 → ¬ rigid → ¬ person → instantClass p r false = .object) ∧
      (r.load.band = 3 → person → instantClass p r false = .adult) ∧
      (r.load.band = 3 → ¬ person → instantClass p r false = .object))

/-- A vote: an instant class equal to the stable class cancels the candidate, one equal to the candidate counts up to 15,
any other starts a new candidate at 1; a position under a direct class counts none (R77). A position is under a direct class
while its class is ABSENT, or FAULT with a cause other than MAT_FAULT (R71). The votes a candidate needs: the resolve count from
UNRESOLVED, then 3 for FAULT, then the entry votes of the class (R78). -/
def Obligations.VotesCountTowardRequiredNumber : Prop :=
  (∀ (c : ClassRec) (i : OccClass),
     (c.underDirect = true ↔ c.stable = .absent ∨
       (c.stable = .fault ∧ (c.cause = .nodeLost ∨ c.cause = .misfit ∨ c.cause = .noSlot))) ∧
     (c.underDirect = true → c.vote i = c) ∧
     (c.underDirect = false → i = c.stable → c.vote i = { c with candidate := c.stable, agreement := 0 }) ∧
     (c.underDirect = false → i ≠ c.stable → i = c.candidate →
       c.vote i = { c with agreement := if c.agreement < 15 then c.agreement + 1 else 15 }) ∧
     (c.underDirect = false → i ≠ c.stable → i ≠ c.candidate → c.vote i = { c with candidate := i, agreement := 1 })) ∧
  (∀ (c : ClassRec) (p : Profile),
     (c.stable = .unresolved → c.required p = p.resolve) ∧
     (c.stable ≠ .unresolved → c.candidate = .fault → c.required p = 3) ∧
     (c.stable ≠ .unresolved →
       (c.candidate = .empty → c.required p = p.vEmpty) ∧ (c.candidate = .object → c.required p = p.vObject) ∧
       (c.candidate = .csEmpty → c.required p = p.vCsEmpty) ∧ (c.candidate = .csRf → c.required p = p.vCsRf) ∧
       (c.candidate = .csFf → c.required p = p.vCsFf) ∧ (c.candidate = .csUnspec → c.required p = p.vCsUnspec) ∧
       (c.candidate = .booster → c.required p = p.vBooster) ∧ (c.candidate = .small → c.required p = p.vSmall) ∧
       (c.candidate = .adult → c.required p = p.vAdult)))

/-- A change of a position's class raises its record sequence by one and no other position's class record, makes the class the
candidate with no votes, marks a position whose new class is watched while the watch is active, and tells both the safety and
the cabin port (R79, R80, R86, R126). The direct class that an outcome asks for follows the node's state and verdict and the
fit (R33). An outcome handed to a position: with HOLD inactive a direct class is applied; an ONLINE node with none asked
returns the position to UNRESOLVED at an identification, a resolve mark or a direct class held, completes a standing vote, and
counts and completes the sample's vote; a node that is not ONLINE changes nothing; while HOLD is active an identification
leaves the resolve mark and a sample is counted, and no class changes (R73, R79, R81, R82, R84, R85). Nothing else of the
position but its reminder and its watched flag changes, and a suppression state that agreed with the decision still does (R80,
R107). A derivation that gives another decision raises the suppression sequence, changes the line and posts SUPPRESSION_CHANGED
with the new state and sequence, and one that gives the decision already held changes nothing; a class change of the airbag
position derives it once, one of any other position does not (R107, R108, R109). -/
def Obligations.ClassChangeRaisesSequenceAndTellsPorts : Prop :=
  (∀ (s : State) (p : Pos) (cls : OccClass) (cause : FaultCause),
    let t := s.changeClass true cls cause p
    let seq := (s.pos p).cls.sequence + 1
    (t.pos p).cls =
      { (s.pos p).cls with stable := cls, cause := cause, candidate := cls, agreement := 0, sequence := seq } ∧
    (∀ q, q ≠ p → t.pos q = s.pos q) ∧
    (∀ port : Port, port = .safety ∨ port = .cabin → (s.port port).queue.length < 16 →
      ∃ n ∈ (t.port port).queue, n.kind = .classChanged ∧ n.subject = p.val + 1 ∧
        n.payload = oneByte (cls.code * 16 + cause.code) ++ seq ∧ n.scan = s.scanner.number) ∧
    ((t.pos p).watched = true ↔ (s.pos p).watched = true ∨ (s.watching = true ∧
      (cls = .csRf ∨ cls = .csFf ∨ cls = .csUnspec ∨ cls = .booster ∨ cls = .small))) ∧
    (t.pos p).load = (s.pos p).load ∧ (t.pos p).child = (s.pos p).child ∧ (t.pos p).buckle = (s.pos p).buckle ∧
    t.config = s.config ∧
    (s.airbag = some p → s.Derived t ∧ ((s.port .safety).queue.length ≤ 14 → s.TellsDecision t)) ∧
    (s.airbag ≠ some p → t.restraint = s.restraint ∧
      (t.port .safety).queue.filter (fun n => n.kind = .suppressionChanged) =
        (s.port .safety).queue.filter (fun n => n.kind = .suppressionChanged))) ∧
  (∀ s : State,
    let t := s.deriveSuppression
    s.Derived t ∧ (s.decision = s.restraint.suppression → t = s) ∧
    (s.decision ≠ s.restraint.suppression →
      { t with restraint := s.restraint, ports := s.ports } = s ∧ t.ports.cabin = s.ports.cabin ∧
      t.ports.service = s.ports.service ∧
      t.restraint = { s.restraint with
        suppression := s.decision, sequence := t.restraint.sequence, pso := t.restraint.pso } ∧
      ((s.port .safety).queue.length < 16 → s.TellsDecision t))) ∧
  (∀ (n : NodeRec) (fit : FitState),
    (n.state = .online ∨ n.state = .silent →
      (fit = .misfit → directAsked n fit = some (.fault .misfit)) ∧
      (fit = .noSlot → directAsked n fit = some (.fault .noSlot)) ∧ (fit = .fits → directAsked n fit = none)) ∧
    (n.state = .unseen ∨ n.state = .lost →
      (n.verdict = .absent → directAsked n fit = some .absent) ∧
      (n.verdict = .fault → directAsked n fit = some (.fault .nodeLost)) ∧
      (n.verdict = .none → directAsked n fit = none))) ∧
  (∀ (s : State) (p : Pos) (h : Handover),
    let t := s.takeOutcome h p
    (∀ q, q ≠ p → t.pos q = s.pos q) ∧ s.KeepsAllBut t p ∧ t.config = s.config ∧
    (h.direct = some .absent → h.sample = none → (t.pos p).cls = s.directClass p .absent .none) ∧
    (∀ cause, h.direct = some (.fault cause) → h.sample = none → (t.pos p).cls = s.directClass p .fault cause) ∧
    (h.direct = none → h.node = .online → (t.pos p).cls =
      s.onlineClass p h.identified (h.sample.map (instantClass (s.profileOf p) (s.pos p)))) ∧
    (h.direct = none → h.node ≠ .online → h.identified = false → h.sample = none → t = s) ∧
    (s.restraint.suppression = s.decision → t.restraint.suppression = t.decision))

/-! ## Belts and reminders -/

/-- A decoded belt state is taken at the second of two consecutive samples: one equal to the belt state cancels the
pending state, one equal to a state pending once is taken, any other becomes pending (R89, R90). A delivered sample's buckle
code is decoded and debounced where the belt is sensed in effect, and the belt state is NONE where it is not; a changed belt
state is posted to the cabin port, and the reminder is then evaluated (R89 to R91, R93). A lost capability does the same with
state NONE (R91). -/
def Obligations.BeltChangesAtSecondEqualSample : Prop :=
  (decodeBuckle 0 = .fault ∧ decodeBuckle 1 = .latched ∧ decodeBuckle 2 = .unlatched ∧ decodeBuckle 3 = .fault) ∧
  (∀ (b : BeltRec) (d : Belt),
    (d = b.belt → b.debounce d = { b with pending := .none, count := 0 }) ∧
    (d ≠ b.belt → d = b.pending → b.count = 1 → b.debounce d = { belt := d, pending := .none, count := 0 }) ∧
    (d ≠ b.belt → ¬ (d = b.pending ∧ b.count = 1) → b.debounce d = { b with pending := d, count := 1 })) ∧
  (∀ (s : State) (p : Pos) (x : SlotSample),
    let old := (s.pos p).buckle
    let new : BeltRec := if (s.pos p).beltCap then old.debounce (decodeBuckle x.buckle) else
      { belt := .none, pending := .none, count := 0 }
    let taken := s.modPos p fun r => { r with buckle := new }
    (new.belt = old.belt → s.takeBuckle p x = taken.evaluate p) ∧
    (new.belt ≠ old.belt → s.takeBuckle p x =
      (taken.post .cabin .beltChanged (p.val + 1) (BitVec.ofNat 16 new.belt.code)).evaluate p) ∧
    ((s.takeBuckle p x).pos p).buckle = new ∧
    (new.belt ≠ old.belt → (s.port .cabin).queue.length < 16 → ∃ n ∈ ((s.takeBuckle p x).port .cabin).queue,
      n.kind = .beltChanged ∧ n.subject = p.val + 1 ∧ n.payload = BitVec.ofNat 16 new.belt.code ∧
      n.scan = s.scanner.number) ∧
    (∀ q, q ≠ p → (s.takeBuckle p x).pos q = s.pos q)) ∧
  (∀ (s : State) (p : Pos),
    let lost := s.modPos p fun r => { r with buckle := { belt := .none, pending := .none, count := 0 } }
    s.loseBelt p = if (s.pos p).buckle.belt = .none then lost
      else (lost.post .cabin .beltChanged (p.val + 1) 0).evaluate p)

/-- REMINDER_TICK lowers by one the timer of each position in GRACE, in VISUAL with class FULL, or in AUDIBLE that is not
frozen by a stable FAULT, and changes nothing else but the next tick (R92, R99); the expiries are rows of their own (log
entry 11). -/
def Obligations.ReminderTickLowersRunningTimers : Prop :=
  ∀ s : State, s.phase = .running → ∃ t, exec .reminderTick s = .next t ∧ s.Judged t ∧
    (∀ p : Pos,
      let r := s.pos p
      let runs := r.cls.stable ≠ .fault ∧ (r.reminder.step = .grace ∨
        (r.reminder.step = .visual ∧ (s.entry p).reminderClass = .full) ∨ r.reminder.step = .audible)
      (runs → t.pos p = { r with reminder := { r.reminder with timer := r.reminder.timer - 1 } }) ∧
      (¬ runs → t.pos p = r)) ∧
    t.reminderTimer = some (if s.vehicle.testMode then 25 else 800) ∧
    { s.ecoBack t with positions := s.positions, reminderTimer := s.reminderTimer } = s

/-- GRACE_TIMER_EXPIRY takes an unfrozen position from GRACE to VISUAL with the visual time, and posts the change; a
visual time of 0 passes on at once when the reminder class is FULL, to AUDIBLE, and with an audible time of 0 to LAPSED.
In any other step, or frozen, an expiry sent as a command completes and changes nothing, which is the model's choice (log
entries 10 and 12, DESIGN CHOICE; R92, R95, R96, R99, R100). -/
def Obligations.GraceExpiryShowsVisual : Prop :=
  ∀ (s : State) (p : Pos), s.phase = .running →
    let time := s.config.settings.visualTime
    let shown := (s.modPos p fun r => { r with reminder := { r.reminder with step := .visual, timer := time } }).post
      .cabin .reminderChanged (p.val + 1) 2
    ((s.pos p).reminder.step = .grace → (s.pos p).cls.stable ≠ .fault →
      (time ≠ 0 ∨ (s.entry p).reminderClass ≠ .full →
        ∃ t, exec (.graceTimerExpiry p) s = .next t ∧ s.ecoBack t = shown ∧ s.Judged t) ∧
      (time = 0 → (s.entry p).reminderClass = .full → s.config.settings.audibleTime ≠ 0 →
        ∃ t, exec (.graceTimerExpiry p) s = .next t ∧ (t.pos p).reminder =
          { step := .audible, timer := s.config.settings.audibleTime, confirmed := false, reissues := 0, scans := 0 }) ∧
      (time = 0 → (s.entry p).reminderClass = .full → s.config.settings.audibleTime = 0 →
        ∃ t, exec (.graceTimerExpiry p) s = .next t ∧ (t.pos p).reminder =
          { step := .lapsed, timer := 0, confirmed := false, reissues := 0, scans := 0 })) ∧
    ((s.pos p).reminder.step ≠ .grace ∨ (s.pos p).cls.stable = .fault →
      ∃ t, exec (.graceTimerExpiry p) s = .next t ∧ s.ecoBack t = s ∧ s.Judged t)

/-- VISUAL_TIMER_EXPIRY takes an unfrozen position of class FULL from VISUAL to AUDIBLE, with the audible time, no
confirmation and no re-issues, and posts the change before the audible request; an audible time of 0 lapses at once.
AUDIBLE_TIMER_EXPIRY takes an unfrozen position from AUDIBLE to LAPSED with timer 0 and keeps its confirmation and
re-issues (R96, R97, R99, R100). That an expiry sent to a position that is not due completes and changes nothing is the
model's choice (log entries 10 and 12, DESIGN CHOICE). -/
def Obligations.VisualExpirySoundsAndAudibleExpiryLapses : Prop :=
  (∀ (s : State) (p : Pos), s.phase = .running →
     let time := s.config.settings.audibleTime
     let sounded := ((s.modPos p fun r => { r with reminder :=
         { step := .audible, timer := time, confirmed := false, reissues := 0, scans := 0 } }).post
       .cabin .reminderChanged (p.val + 1) 3).post .cabin .audibleRequest (p.val + 1) 0
     let due := (s.pos p).reminder.step = .visual ∧ (s.pos p).cls.stable ≠ .fault ∧ (s.entry p).reminderClass = .full
     (due → time ≠ 0 → ∃ t, exec (.visualTimerExpiry p) s = .next t ∧ s.ecoBack t = sounded ∧ s.Judged t) ∧
     (due → time = 0 → ∃ t, exec (.visualTimerExpiry p) s = .next t ∧
       (t.pos p).reminder = { step := .lapsed, timer := 0, confirmed := false, reissues := 0, scans := 0 }) ∧
     (¬ due → ∃ t, exec (.visualTimerExpiry p) s = .next t ∧ s.ecoBack t = s ∧ s.Judged t)) ∧
  (∀ (s : State) (p : Pos), s.phase = .running →
     let due := (s.pos p).reminder.step = .audible ∧ (s.pos p).cls.stable ≠ .fault
     (due → ∃ t, exec (.audibleTimerExpiry p) s = .next t ∧ s.Judged t ∧
       s.ecoBack t = (s.modPos p fun r => { r with reminder := { r.reminder with step := .lapsed, timer := 0 } }).post
         .cabin .reminderChanged (p.val + 1) 5) ∧
     (¬ due → ∃ t, exec (.audibleTimerExpiry p) s = .next t ∧ s.ecoBack t = s ∧ s.Judged t))

/-- An IDLE position goes to GRACE at an evaluation exactly when its class is SMALL, ADULT or BOOSTER, its belt UNLATCHED
or FAULT, its reminder class FULL or VISUAL, and it is underway; a grace time of 0 passes on at once to VISUAL, and from
there as the other times of 0 say (R93 to R97). In every other step an evaluation returns the position to IDLE, with timer 0 and
the change posted, when its belt is LATCHED or NONE, its class neither eligible nor FAULT, the ignition not RUN or its reminder
class NONE, and in GRACE when the speed is below the threshold; a FAULT class is no cause of return (R95, R98, R99). That with no
cause a VISUAL position of class FULL whose timer stands at 0 goes to AUDIBLE at any evaluation, unless it is frozen, is the
model's reading (log entry 20, DEDUCED): R96 names the evaluation of a commit and the one that ends a freeze. Every other
position is left (R96, R99). The record that an evaluation leaves is the evaluated one, from reminder class, class, belt, report
and settings alone. -/
def Obligations.ReminderStartsWhenUnderwayUnbelted : Prop :=
  (∀ (s : State) (p : Pos), (s.pos p).reminder.step = .idle →
    let starts :=
      ((s.pos p).cls.stable = .small ∨ (s.pos p).cls.stable = .adult ∨ (s.pos p).cls.stable = .booster) ∧
      ((s.pos p).buckle.belt = .unlatched ∨ (s.pos p).buckle.belt = .fault) ∧
      ((s.entry p).reminderClass = .full ∨ (s.entry p).reminderClass = .visual) ∧
      s.vehicle.ignition = .run ∧ s.config.settings.speedThreshold ≤ s.vehicle.speed
    (starts → s.config.settings.graceTime ≠ 0 →
      s.evaluate p = (s.modPos p fun r => { r with reminder :=
        { r.reminder with step := .grace, timer := s.config.settings.graceTime } }).post
          .cabin .reminderChanged (p.val + 1) 1) ∧
    (starts → s.config.settings.graceTime = 0 →
      let r := ((s.evaluate p).pos p).reminder.step
      (s.config.settings.visualTime ≠ 0 ∨ (s.entry p).reminderClass = .visual → r = .visual) ∧
      (s.config.settings.visualTime = 0 → (s.entry p).reminderClass = .full →
        r = if s.config.settings.audibleTime = 0 then .lapsed else .audible)) ∧
    (¬ starts → s.evaluate p = s)) ∧
  (∀ (s : State) (p : Pos), (s.pos p).reminder.step ≠ .idle →
    let cls := (s.pos p).cls.stable
    let ends := (s.pos p).buckle.belt = .latched ∨ (s.pos p).buckle.belt = .none ∨
      (cls ≠ .small ∧ cls ≠ .adult ∧ cls ≠ .booster ∧ cls ≠ .fault) ∨ s.vehicle.ignition ≠ .run ∨
      (s.entry p).reminderClass = .none
    let slow := (s.pos p).reminder.step = .grace ∧ s.vehicle.speed < s.config.settings.speedThreshold
    let due := (s.pos p).reminder.step = .visual ∧ (s.pos p).reminder.timer = 0 ∧ (s.entry p).reminderClass = .full ∧
      cls ≠ .fault
    let time := s.config.settings.audibleTime
    let sounded := ((s.modPos p fun r => { r with reminder :=
        { step := .audible, timer := time, confirmed := false, reissues := 0, scans := 0 } }).post
      .cabin .reminderChanged (p.val + 1) 3).post .cabin .audibleRequest (p.val + 1) 0
    (ends ∨ slow → s.evaluate p = (s.modPos p fun r => { r with reminder :=
        { r.reminder with step := .idle, timer := 0 } }).post .cabin .reminderChanged (p.val + 1) 0) ∧
    (¬ ends → ¬ slow → due → time ≠ 0 → s.evaluate p = sounded) ∧
    (¬ ends → ¬ slow → due → time = 0 → ((s.evaluate p).pos p).reminder =
      { step := .lapsed, timer := 0, confirmed := false, reissues := 0, scans := 0 }) ∧
    (¬ ends → ¬ slow → ¬ due → s.evaluate p = s)) ∧
  (∀ (s : State) (p : Pos), ((s.evaluate p).pos p).reminder = (s.pos p).reminder.evaluated (s.entry p).reminderClass
    (s.pos p).cls.stable (s.pos p).buckle.belt s.vehicle s.config.settings)

/-- At a scan tick an AUDIBLE position that is neither confirmed nor frozen counts one scan, and at the re-issue interval
it asks again with a re-issue count that saturates at 15; every other position is left (R101). SCAN_TICK does so at every
position that no skip of the new scan reaches, and each request that is asked again stands in the cabin queue, where that was
empty before, with the new scan number (R101, R142). -/
def Obligations.UnconfirmedAudibleIsReissued : Prop :=
  (∀ (s : State) (p : Pos),
    let r := s.pos p
    let counts := r.reminder.step = .audible ∧ r.reminder.confirmed = false ∧ r.cls.stable ≠ .fault
    let count := if r.reminder.reissues < 15 then r.reminder.reissues + 1 else 15
    (counts → r.reminder.scans + 1 < s.config.settings.reissueInterval →
      s.countScan p = s.modPos p fun r => { r with reminder := { r.reminder with scans := r.reminder.scans + 1 } }) ∧
    (counts → s.config.settings.reissueInterval ≤ r.reminder.scans + 1 → r.reminder.reissues ≤ 15 →
      s.countScan p =
        (s.modPos p fun r => { r with reminder := { r.reminder with reissues := count, scans := 0 } }).post
          .cabin .audibleRequest (p.val + 1) (BitVec.ofNat 16 count)) ∧
    (¬ counts → s.countScan p = s)) ∧
  (∀ s : State, s.phase = .running → ∃ t, exec .scanTick s = .next t ∧
    ∀ p : Pos,
      let node := s.node (s.entry p).line (s.entry p).address
      (s.entry p).enabled = false ∨ node.state = .online ∨ node.state = .silent →
      let r := s.pos p
      let counts := r.reminder.step = .audible ∧ r.reminder.confirmed = false ∧ r.cls.stable ≠ .fault
      let count := if r.reminder.reissues < 15 then r.reminder.reissues + 1 else 15
      (counts → r.reminder.scans + 1 < s.config.settings.reissueInterval →
        t.pos p = { r with reminder := { r.reminder with scans := r.reminder.scans + 1 } }) ∧
      (counts → s.config.settings.reissueInterval ≤ r.reminder.scans + 1 → r.reminder.reissues ≤ 15 →
        t.pos p = { r with reminder := { r.reminder with reissues := count, scans := 0 } } ∧
        ((s.port .cabin).queue = [] → ∃ n ∈ (t.port .cabin).queue, n.kind = .audibleRequest ∧ n.subject = p.val + 1 ∧
          n.payload = BitVec.ofNat 16 count ∧ n.scan = s.scanner.number + 1)) ∧
      (¬ counts → t.pos p = r))

/-- CONFIRM AUDIBLE marks an AUDIBLE position confirmed and answers OK; in every other step it answers TOO_LATE and
changes nothing (R102). MUTE takes the AUDIBLE positions it concerns, one or all, to MUTED with timer 0 and answers OK;
with none in AUDIBLE it answers TOO_LATE; nothing else of any position changes, and for each muted position REMINDER_CHANGED with
state MUTED stands in the cabin queue, where that had room for it (R100, R103). -/
def Obligations.ConfirmAndMuteActInAudibleOnly : Prop :=
  (∀ (s : State) (n chk : Byte), s.ready .cabin → soundFrame 0x41 [n] chk →
     (n = 0 ∨ 16 < n.toNat → ∃ t, exec (.confirmAudible .cabin n chk) s = .next t ∧
       s.Answered t .cabin 0x41 .badArg [] ∧ s.putBack t = s) ∧
     (∀ p : Pos, n.toNat = p.val + 1 →
       ((s.pos p).reminder.step = .audible → ∃ t, exec (.confirmAudible .cabin n chk) s = .next t ∧
         s.Answered t .cabin 0x41 .ok [] ∧
         s.putBack t = s.modPos p fun r => { r with reminder := { r.reminder with confirmed := true } }) ∧
       ((s.pos p).reminder.step ≠ .audible → ∃ t, exec (.confirmAudible .cabin n chk) s = .next t ∧
         s.Answered t .cabin 0x41 .tooLate [] ∧ s.putBack t = s))) ∧
  (∀ (s : State) (n chk : Byte), s.ready .cabin → soundFrame 0x42 [n] chk →
     let muted (r : PosRec) : PosRec := { r with reminder := { r.reminder with step := .muted, timer := 0 } }
     let concerned (p : Pos) : Prop := (n = 0 ∨ n.toNat = p.val + 1) ∧ (s.pos p).reminder.step = .audible
     (16 < n.toNat → ∃ t, exec (.mute .cabin n chk) s = .next t ∧ s.Answered t .cabin 0x42 .badArg [] ∧
       s.putBack t = s) ∧
     (n.toNat ≤ 16 → (¬ ∃ p, concerned p) → ∃ t, exec (.mute .cabin n chk) s = .next t ∧
       s.Answered t .cabin 0x42 .tooLate [] ∧ s.putBack t = s) ∧
     ((∃ p, concerned p) → ∃ t, exec (.mute .cabin n chk) s = .next t ∧ t.replied .cabin 0x42 .ok [] ∧ s.Heard t ∧
       (∀ p, (concerned p → t.pos p = muted (s.pos p)) ∧ (¬ concerned p → t.pos p = s.pos p)) ∧
       (∀ p, concerned p →
         (n ≠ 0 ∧ (s.port .cabin).queue.length < 16) ∨ (s.port .cabin).queue.length + p.val < 16 →
         ∃ m ∈ (t.port .cabin).queue, m.kind = .reminderChanged ∧ m.subject = p.val + 1 ∧ m.payload = 4 ∧
           m.scan = s.scanner.number) ∧
       { s.putBack t with positions := s.positions } = s ∧ t.ports.safety = s.ports.safety ∧
       t.ports.service = s.ports.service))

/-! ## Restraint interface -/

/-- HOLD becomes active or is extended: the timer is loaded with the hold limit, the hold count rises to at most 255, the
last-expired flag is cleared and a snapshot of the table as it stands is pushed, a fifth dropping the oldest; the reply
gives the snapshot's number and the count. A capture in flight ends with LOCKED, and nothing else changes (R51, R111, R112,
R117). -/
def Obligations.HoldLoadsTimerAndPushesSnapshot : Prop :=
  ∀ (s : State) (chk : Byte), s.ready .safety → soundFrame 0x21 [] chk →
    let number := if s.restraint.holdCount < 255 then s.restraint.holdCount + 1 else 255
    ∃ (t : State) (x : Snapshot), exec (.hold .safety chk) s = .next t ∧ s.Heard t ∧
      t.replied .safety 0x21 .ok [oneByte number, oneByte (min (s.restraint.snapshots.length + 1) 4)] ∧
      t.restraint = { s.restraint with
        hold := some (s.config.settings.holdLimit * 8000), holdCount := number, lastExpired := false,
        snapshots := x :: s.restraint.snapshots.take 3 } ∧
      x.number = number ∧ x.scan = s.scanner.number ∧ x.suppression = s.restraint.suppression ∧
      (∀ p : Pos, (x.table.get p).stable = (s.pos p).cls.stable ∧ (x.table.get p).belt = (s.pos p).buckle.belt ∧
        (x.table.get p).child = (s.pos p).child.accepted) ∧
      t.capture = none ∧ (∀ c, s.capture = some c → s.TellsCapture t c.position 15 0x3000) ∧
      { s.putBack t with restraint := s.restraint, capture := s.capture } = s ∧
      t.ports.cabin = s.ports.cabin ∧ (s.capture = none → t.ports.service = s.ports.service)

/-- RELEASE ends an active HOLD and answers OK; after an expiry it clears the last-hold-expired flag and answers TOO_LATE;
with neither it answers OK and changes nothing. HOLD_TIMER_EXPIRY ends an active HOLD, sets the flag and posts
HOLD_EXPIRED with the hold count and the snapshot count. Both leave the snapshots and, with no commit pending, all else
(R114, R115). That an expiry without HOLD completes and changes nothing is the model's choice (log entries 10 and 12, DESIGN
CHOICE). -/
def Obligations.HoldEndsByReleaseOrExpiry : Prop :=
  (∀ (s : State) (chk : Byte), s.ready .safety → soundFrame 0x22 [] chk →
    (s.holdActive = true → s.staging.deferred = false → s.Answers (.release .safety chk) .safety 0x22 .ok []
      { s with restraint := { s.restraint with hold := none } }) ∧
    (s.holdActive = true → ∃ t, exec (.release .safety chk) s = .next t ∧ t.replied .safety 0x22 .ok [] ∧
      t.restraint.hold = none ∧ t.restraint.snapshots = s.restraint.snapshots) ∧
    (s.holdActive = false → s.restraint.lastExpired = true → s.Answers (.release .safety chk) .safety 0x22 .tooLate []
      { s with restraint := { s.restraint with lastExpired := false } }) ∧
    (s.holdActive = false → s.restraint.lastExpired = false → s.Answers (.release .safety chk) .safety 0x22 .ok [] s)) ∧
  (∀ s : State, s.phase = .running →
    (s.holdActive = true → s.staging.deferred = false → ∃ t, exec .holdTimerExpiry s = .next t ∧ s.Judged t ∧
      s.ecoBack t = { s with restraint := { s.restraint with hold := none, lastExpired := true } }.post
        .safety .holdExpired 0 (oneByte s.restraint.holdCount ++ oneByte s.restraint.snapshots.length)) ∧
    (s.holdActive = true → ∃ t, exec .holdTimerExpiry s = .next t ∧ t.restraint.hold = none ∧
      t.restraint.lastExpired = true ∧ t.restraint.snapshots = s.restraint.snapshots) ∧
    (s.holdActive = false → s.Passes .holdTimerExpiry))

/-- READ SNAPSHOT returns the snapshot at a depth with the count and keeps the stack, POP SNAPSHOT removes the top and
returns it with the count left, or 53 zero bytes from an empty stack, and CLEAR SNAPSHOTS empties the stack through the
service gate (R118, R119, R120). The 52 bytes of a snapshot are its number, scan number and suppression state, then three
bytes for each position (spec 11.4). -/
def Obligations.SnapshotCommandsReadPopAndClear : Prop :=
  (∀ (s : State) (d chk : Byte), s.ready .safety → soundFrame 0x23 [d] chk →
    (∀ x, d.toNat ≤ 3 → s.restraint.snapshots[d.toNat]? = some x → s.Answers (.readSnapshot .safety d chk) .safety 0x23 .ok
      (x.bytes ++ [oneByte s.restraint.snapshots.length]) s) ∧
    (3 < d.toNat ∨ s.restraint.snapshots.length ≤ d.toNat →
      s.Answers (.readSnapshot .safety d chk) .safety 0x23 .badArg [] s)) ∧
  (∀ (s : State) (chk : Byte), s.ready .safety → soundFrame 0x24 [] chk →
    (∀ x rest, s.restraint.snapshots = x :: rest → s.Answers (.popSnapshot .safety chk) .safety 0x24 .ok
      (x.bytes ++ [oneByte rest.length]) { s with restraint := { s.restraint with snapshots := rest } }) ∧
    (s.restraint.snapshots = [] →
      s.Answers (.popSnapshot .safety chk) .safety 0x24 .ok (List.replicate 53 0) s)) ∧
  (∀ (s : State) (chk : Byte), s.ready .service → soundFrame 0x70 [] chk →
    s.GateRefuses (.clearSnapshots .service chk) 0x70 ∧
    (s.gateOpen → s.Answers (.clearSnapshots .service chk) .service 0x70 .ok []
      { s with restraint := { s.restraint with snapshots := [] } })) ∧
  (∀ x : Snapshot, x.bytes.map (·.toNat) =
    ([x.number, x.scan.toNat / 256, x.scan.toNat, x.suppression.code] ++
      (List.finRange 16).flatMap fun p =>
        [(x.table.get p).stable.code, (x.table.get p).belt.code, (x.table.get p).child.code]).map (· % 256))

/-! ## Vehicle state -/

/-- VEHICLE STATE with a code outside its set is answered BAD_ARG and changes nothing; any other is stored, with a speed
above 250 taken as 250 and the freshness time loaded, and answered OK. A report of OFF after RUN starts the watch when a
position is watched, one of RUN or ACC ends it, one without RUN leaves no reminder, and one that ends standstill ends a
capture with LOCKED, and test mode with every injection, which posts TEST_MODE_ENDED with their mask; where standstill is not
lost these stay. With no deferred commit pending, which the report may apply, the reminder of every position is evaluated with
the new report, and its watched flag is as the watch says (R51, R93 to R98, R122, R124, R125, R128, R131); of a VISUAL timer at 0
at this evaluation log entry 20 (DEDUCED) says what is done. -/
def Obligations.VehicleReportIsStoredAndTakesEffect : Prop :=
  ∀ (s : State) (ig sp ge dr chk : Byte), s.ready .cabin → soundFrame 0x40 [ig, sp, ge, dr] chk →
    (ig = 0 ∨ 3 < ig.toNat ∨ 1 < ge.toNat ∨ 1 < dr.toNat →
      s.Answers (.vehicleState .cabin ig sp ge dr chk) .cabin 0x40 .badArg [] s) ∧
    (1 ≤ ig.toNat → ig.toNat ≤ 3 → ge.toNat ≤ 1 → dr.toNat ≤ 1 →
      ∃ t, exec (.vehicleState .cabin ig sp ge dr chk) s = .next t ∧ s.Heard t ∧ t.replied .cabin 0x40 .ok [] ∧
        t.vehicle.ignition = (if ig = 1 then .off else if ig = 2 then .acc else .run) ∧
        t.vehicle.speed = (if 250 < sp.toNat then 250 else sp.toNat) ∧
        t.vehicle.gear = (if ge = 0 then .park else .other) ∧ t.vehicle.door = (if dr = 0 then .closed else .opened) ∧
        t.vehicle.freshTimer = some 8000 ∧
        (t.standstill = true ↔ ig ≠ 3 ∨ (sp = 0 ∧ ge = 0)) ∧
        (ig = 1 → s.vehicle.ignition = .run → s.watching = false → s.staging.deferred = false →
          (∀ p : Pos, (t.pos p).watched = ((s.entry p).enabled && (s.pos p).cls.stable.leftBehind)) ∧
          ((∃ p : Pos, (t.pos p).watched = true) → t.vehicle.watch = some (s.config.settings.firstDelay * 8000)) ∧
          ((∀ p : Pos, (t.pos p).watched = false) → t.vehicle.watch = none)) ∧
        (ig ≠ 1 → t.vehicle.watch = none ∧ ∀ p : Pos, (t.pos p).watched = false) ∧
        (ig ≠ 3 → ∀ p : Pos, (t.pos p).reminder.step = .idle) ∧
        (s.standstill = true → t.standstill = false → t.capture = none ∧ t.vehicle.testMode = false ∧
          (∀ c, s.capture = some c → s.TellsCapture t c.position 15 0x3000) ∧
          (s.vehicle.testMode = true → (∀ p : Pos, (t.pos p).injection = none) ∧
            ((s.port .service).queue.length ≤ 14 → ∃ n ∈ (t.port .service).queue, n.kind = .testModeEnded ∧
              n.subject = 0 ∧ ∀ p : Pos, n.payload.getLsbD p.val = (s.pos p).injection.isSome))) ∧
        (s.standstill = false ∨ t.standstill = true → t.vehicle.testMode = s.vehicle.testMode ∧
          (s.staging.deferred = false → t.capture = s.capture ∧ t.ports.service = s.ports.service ∧
            ∀ p : Pos, (t.pos p).injection = (s.pos p).injection)) ∧
        (s.staging.deferred = false → ∀ p : Pos,
          (t.pos p).reminder = ((s.reported t.vehicle).pos p).reminder ∧
          (t.pos p).watched = ((s.reported t.vehicle).pos p).watched) ∧
        t.store = s.store ∧ t.saveImage = s.saveImage ∧ t.restraint.hold = s.restraint.hold ∧
        t.restraint.snapshots = s.restraint.snapshots ∧ t.scanner.number = s.scanner.number ∧
        (s.staging.deferred = false → t.config = s.config ∧ t.staging = s.staging ∧ t.restraint = s.restraint ∧
          ∀ p : Pos, (t.pos p).cls = (s.pos p).cls ∧ (t.pos p).buckle = (s.pos p).buckle ∧
            (t.pos p).load = (s.pos p).load ∧ (t.pos p).child = (s.pos p).child ∧ (t.pos p).fit = (s.pos p).fit))

/-- FRESHNESS_TIMER_EXPIRY makes the state STALE with its four values held. Where standstill held, that loss ends a
capture with LOCKED, and test mode with every injection, which posts TEST_MODE_ENDED; where it did not, nothing else happens (R123,
R124). That the expiry of a stopped timer completes and changes nothing is the model's choice (log entries 10 and 12, DESIGN
CHOICE), and so is the eco countdown that starts in the step that ends a capture (log entry 37, DESIGN CHOICE). -/
def Obligations.FreshnessExpiryLosesStandstill : Prop :=
  ∀ s : State, s.phase = .running →
    (s.vehicle.isFresh = false → s.Passes .freshnessTimerExpiry) ∧
    (s.vehicle.isFresh = true → s.standstill = false → ∃ t, exec .freshnessTimerExpiry s = .next t ∧ s.Judged t ∧
      s.ecoBack t = { s with vehicle := { s.vehicle with freshTimer := none } }) ∧
    (s.standstill = true → ∃ t, exec .freshnessTimerExpiry s = .next t ∧ s.Judged t ∧ t.standstill = false ∧
      { t.vehicle with eco := s.vehicle.eco } = { s.vehicle with freshTimer := none, testMode := false } ∧
      t.capture = none ∧ (∀ c, s.capture = some c → s.TellsCapture t c.position 15 0x3000) ∧
      (∀ p : Pos, t.pos p = if s.vehicle.testMode then { s.pos p with injection := none } else s.pos p) ∧
      (s.vehicle.testMode = true → s.ports.service.queue.length ≤ 14 →
        ∃ n ∈ t.ports.service.queue, n.kind = .testModeEnded ∧ n.subject = 0 ∧
          ∀ p : Pos, n.payload.getLsbD p.val = (s.pos p).injection.isSome) ∧
      (s.capture = none → s.vehicle.testMode = false → t.ports = s.ports) ∧
      t.config = s.config ∧ t.staging = s.staging ∧ t.scanner = s.scanner ∧ t.restraint = s.restraint ∧
      t.store = s.store ∧ t.saveImage = s.saveImage)

/-- WATCH_TIMER_EXPIRY keeps the mark of each watched position whose class is watched or FAULT: with a mark left it posts
LEFT_BEHIND with their mask and loads the repeat time, with none the watch ends. DISMISS LEFT BEHIND ends an active watch, and
answers TOO_LATE without one (R127, R128). That an expiry without a watch completes and changes nothing is the model's choice
(log entries 10 and 12, DESIGN CHOICE). -/
def Obligations.WatchExpiryRepeatsOrEnds : Prop :=
  (∀ s : State, s.phase = .running →
    let keeps (p : Pos) : Bool :=
      (s.pos p).watched && ((s.pos p).cls.stable.leftBehind || (s.pos p).cls.stable = .fault)
    (s.watching = false → s.Passes .watchTimerExpiry) ∧
    (s.watching = true → ∃ t, exec .watchTimerExpiry s = .next t ∧ s.Judged t ∧
      (∀ p : Pos, t.pos p = { s.pos p with watched := keeps p }) ∧
      ((∃ p, keeps p = true) → t.vehicle.watch = some (s.config.settings.repeatTime * 8000) ∧
        (s.ports.cabin.queue.length ≤ 15 → ∃ n ∈ t.ports.cabin.queue, n.kind = .leftBehind ∧ n.subject = 0 ∧
          n.scan = s.scanner.number ∧ ∀ p : Pos, n.payload.getLsbD p.val = keeps p)) ∧
      ((∀ p, keeps p = false) → t.vehicle.watch = none ∧ t.ports = s.ports) ∧
      t.ports.safety = s.ports.safety ∧ t.ports.service = s.ports.service ∧
      { s.ecoBack t with
        positions := s.positions, ports := s.ports, vehicle := { (s.ecoBack t).vehicle with watch := s.vehicle.watch } } =
        s)) ∧
  (∀ (s : State) (chk : Byte), s.ready .cabin → soundFrame 0x43 [] chk →
    (s.watching = false → s.Answers (.dismissLeftBehind .cabin chk) .cabin 0x43 .tooLate [] s) ∧
    (s.watching = true → ∃ t, exec (.dismissLeftBehind .cabin chk) s = .next t ∧ s.Answered t .cabin 0x43 .ok [] ∧
      t.vehicle.watch = none ∧ (∀ p : Pos, t.pos p = { s.pos p with watched := false }) ∧
      { s.putBack t with
        positions := s.positions
        vehicle := { (s.putBack t).vehicle with watch := s.vehicle.watch } } = s))

/-- ECO_COUNTDOWN_EXPIRY takes a running countdown's part to ECO, with the scan timer started afresh at 1000 ms, and changes
nothing else (R20, R129). AGE_LIMIT_REACHED asserts the attention line of a port with a queued notice, and with an empty queue
finds the line deasserted (R145). That the row counts the oldest notice as having waited the age limit, and that the expiry of
a stopped countdown completes and changes nothing, is the model's choice (log entries 10 and 12, DESIGN CHOICE). -/
def Obligations.EcoCountdownAndAgeLimitTakeEffect : Prop :=
  (∀ s : State, s.phase = .running →
    (s.vehicle.eco.isSome = true → exec .ecoCountdownExpiry s = .next { s with
      vehicle := { s.vehicle with mode := .eco, eco := none }
      scanner := { s.scanner with timer := some 8000 } }) ∧
    (s.vehicle.eco = none → s.Passes .ecoCountdownExpiry)) ∧
  (∀ (s : State) (p : Port), s.phase = .running → s.config.settings.valid = true →
    ∃ t, exec (.ageLimitReached p) s = .next t ∧ s.Judged t ∧
      (t.port p).attention = !(s.port p).queue.isEmpty ∧
      (t.port p).queue.map (fun n => { n with waited := 0 }) = (s.port p).queue.map (fun n => { n with waited := 0 }) ∧
      (∀ q, q ≠ p → t.port q = s.port q) ∧ { s.ecoBack t with ports := s.ports } = s)

/-! ## Staging and commit -/

/-- STAGE ENTRY, SWAP BINDINGS and DISCARD STAGE answer and act by their rules, and touch nothing but the staging area: an
operand out of range is BAD_ARG, a locked staging area BUSY; a swap exchanges line, address, slot, expected identity and
match mode of the staged or else live entries; a discard empties the area and cancels a pending commit (R9, R10, R11). The 17
bytes of an entry carry its fields in the order of spec 11.3, and bytes that are those of no entry in the ranges of R1 are
refused (R155). -/
def Obligations.StagingCommandsChangeStagingAlone : Prop :=
  (∀ (s : State) (n : Byte) (entry : Vector Byte 17) (chk : Byte), s.ready .service → soundFrame 0x62 (n :: entry.toList) chk →
    let i := Instr.stageEntry .service n entry chk
    (n = 0 ∨ 16 < n.toNat ∨ MapEntry.ofBytes entry.toList = none → s.Answers i .service 0x62 .badArg [] s) ∧
    (∀ (p : Pos) (e : MapEntry), n.toNat = p.val + 1 → e.inRange = true → entry.toList = e.bytes →
      (s.staging.deferred = true → s.Answers i .service 0x62 .busy [] s) ∧
      (s.staging.deferred = false → s.Answers i .service 0x62 .ok []
        { s with staging := { s.staging with entries := s.staging.entries.set p.val (some e) } }))) ∧
  (∀ b : List Byte, MapEntry.ofBytes b = none ↔ ¬ ∃ e : MapEntry, e.inRange = true ∧ b = e.bytes) ∧
  (∀ e : MapEntry,
    (e.inRange = true ↔ 1 ≤ e.row ∧ e.row ≤ 5 ∧ -512 ≤ e.z ∧ e.z ≤ 511 ∧ 896 ≤ e.g ∧ e.g ≤ 1152 ∧ e.k ≤ 4) ∧
    e.bytes.map (·.toNat) =
      ([e.enabled.toNat + 2 * e.childCapable.toNat + 4 * e.airbagZone.toNat + 8 * e.beltSensed.toNat, e.kind.code, e.row,
        lineCode e.line, e.address.val + 1, e.slot.val + 1, e.identity.toNat / 65536, e.identity.toNat / 256,
        e.identity.toNat, e.matchMode.code, e.reminderClass.code, e.profile.val, (e.z % 65536).toNat / 256,
        (e.z % 65536).toNat, e.g / 256, e.g, e.k]).map (· % 256)) ∧
  (∀ (s : State) (a b chk : Byte), s.ready .service → soundFrame 0x63 [a, b] chk →
    let i := Instr.swapBindings .service a b chk
    (a = 0 ∨ 16 < a.toNat ∨ b = 0 ∨ 16 < b.toNat ∨ a = b → s.Answers i .service 0x63 .badArg [] s) ∧
    (∀ p q : Pos, a.toNat = p.val + 1 → b.toNat = q.val + 1 → p ≠ q →
      let e := (s.staging.entries.get p).getD (s.entry p)
      let f := (s.staging.entries.get q).getD (s.entry q)
      (s.staging.deferred = true → s.Answers i .service 0x63 .busy [] s) ∧
      (s.staging.deferred = false → ∃ t, exec i s = .next t ∧ s.Answered t .service 0x63 .ok [] ∧
        t.staging.entries.get p = some { e with
          line := f.line, address := f.address, slot := f.slot, identity := f.identity, matchMode := f.matchMode } ∧
        t.staging.entries.get q = some { f with
          line := e.line, address := e.address, slot := e.slot, identity := e.identity, matchMode := e.matchMode } ∧
        (∀ r, r ≠ p → r ≠ q → t.staging.entries.get r = s.staging.entries.get r) ∧ t.staging.deferred = false ∧
        { s.putBack t with staging := s.staging } = s))) ∧
  (∀ (s : State) (chk : Byte), s.ready .service → soundFrame 0x64 [] chk →
    ∃ t, exec (.discardStage .service chk) s = .next t ∧ s.Answered t .service 0x64 .ok [] ∧
      (∀ p : Pos, t.staging.entries.get p = none) ∧ t.staging.deferred = false ∧
      { s.putBack t with staging := s.staging } = s)

/-- COMMIT MAP is decided by the first case of R12 that holds. Applied at once, the live map becomes the staged map, the
staging area is emptied, positions with no staged entry keep their records, and the suppression state is derived once from
the new map and told where it changes (R12, R16, R107, R108). A staged position whose enabled, line, address or slot changed has its record reset, UNRESOLVED or ABSENT with
its sequence raised (R14); that its last instant class is then UNRESOLVED and its resolve mark clear is the model's reading (R88;
log entry 28, DEDUCED). Any other keeps its record but for the fields of R15: its child-seat and belt record are kept unless the
capability is lost, and its reminder is evaluated (R7, R68, R91, R93). The fit of an enabled position that was reset
or has another expected identity or match mode is decided again: MISFIT and NO_SLOT take their FAULT, and a kept position that
leaves them for FITS is returned to UNRESOLVED (R4, R16). The capabilities in effect of every staged position are recomputed
(R7), a capture of a position that was reset or does not fit aborts with MAP and any other goes on (R51, R52), a reminder of
class NONE is IDLE, and every changed class stands in the safety queue, where that was empty before (R80,
R86). When the recomputation and the evaluations are taken is the model's (log entries 35, DEDUCED, and 39, DESIGN CHOICE), and so is that an entry identical to the live one has its
reminder evaluated (log entry 40, DESIGN CHOICE). The
five conditions of R2 are those that the check asks. -/
def Obligations.CommitMapDecidesByFirstCase : Prop :=
  (∀ (s : State) (chk : Byte), s.ready .service → soundFrame 0x65 [] chk →
    let i := Instr.commitMap .service chk
    let staged := ∃ p : Pos, (s.staging.entries.get p).isSome = true
    (¬ staged → s.Answers i .service 0x65 .ok [] s) ∧
    (staged → s.holdActive = true → s.Answers i .service 0x65 .locked [] s) ∧
    (staged → s.holdActive = false → s.saving = true ∨ s.staging.deferred = true →
      s.Answers i .service 0x65 .busy [] s) ∧
    (staged → s.holdActive = false → s.saving = false → s.staging.deferred = false →
      (mapConsistent s.stagedMap = false → s.Answers i .service 0x65 .conflict [] s) ∧
      (mapConsistent s.stagedMap = true → s.standstill = false → s.Answers i .service 0x65 .deferred []
        { s with staging := { s.staging with deferred := true } }) ∧
      (mapConsistent s.stagedMap = true → s.standstill = true →
        ∃ t, exec i s = .next t ∧ s.Heard t ∧ t.replied .service 0x65 .ok [] ∧
          t.config = { s.config with map := s.stagedMap } ∧ (∀ p : Pos, t.staging.entries.get p = none) ∧
          t.staging.deferred = false ∧ s.Derived t ∧ s.CommitsCapture t ∧
          ((s.port .safety).queue = [] → (∃ q : Pos, s.staging.entries.get q = none) → s.TellsDecision t) ∧
          (∀ p : Pos, s.staging.entries.get p = none → t.pos p = s.pos p) ∧
          (∀ (p : Pos) (e : MapEntry), s.staging.entries.get p = some e →
            s.Committed t p e ∧ s.TellsCommitted t p) ∧
          t.store = s.store ∧ t.restraint.hold = s.restraint.hold ∧ t.scanner.number = s.scanner.number ∧
          (∀ (l : Line) (a : Fin 6), t.node l a = s.node l a)))) ∧
  (∀ (s : State) (p : Pos),
    s.stagedMap.get p = match s.staging.entries.get p with
      | some e => e
      | none => s.entry p) ∧
  (∀ m : PerPos MapEntry, mapConsistent m = true ↔
    (∀ p q : Pos, p ≠ q → (m.get p).enabled = true → (m.get q).enabled = true →
      ¬ ((m.get p).line = (m.get q).line ∧ (m.get p).address = (m.get q).address ∧ (m.get p).slot = (m.get q).slot)) ∧
    (∀ p : Pos, (m.get p).enabled = true → (m.get p).airbagZone = true → (m.get p).kind = .front ∧
      ∀ q : Pos, q ≠ p → (m.get q).enabled = true → (m.get q).airbagZone = false) ∧
    ((m.get 0).enabled = true ∧ (m.get 0).kind = .driver) ∧
    (∀ p : Pos, p ≠ 0 → (m.get p).kind ≠ .driver) ∧
    (∀ p : Pos, if (m.get p).kind = .rear then 2 ≤ (m.get p).row ∧ (m.get p).row ≤ 5 else (m.get p).row = 1))

/-- A pending deferred commit is applied by a taken report, the end of HOLD or the completion of a save exactly when
standstill then holds, HOLD is inactive and no save is in flight: the live map takes the staged entries, the staging area
is emptied and unlocked, and COMMIT_APPLIED with their mask is posted. Otherwise it stays pending (R13, R116). Each staged
position's record is reset or kept as at a commit applied at once, and a position with no staged entry keeps its record; where a
report lets the commit apply, both start from the reminders and watched flags that the report has left (R14 to R16, R98, R124).
A changed class, and a changed decision, stands in the safety queue, where that was empty before and a HOLD_EXPIRED leaves it
room, and the decision is derived once (R80, R86, R107, R108, R115); a capture aborts or goes on as at any commit (R51). The
model's readings in a record's reset and in the order of an apply are those of log entries 28, 35, 39 and 40, and of a VISUAL timer at 0
at the report's evaluation that of log entry 20 (DEDUCED). -/
def Obligations.DeferredCommitAppliesWhenAllThreeHold : Prop :=
  ∀ (s t : State) (i : Instr), s.staging.deferred = true → exec i s = .next t →
    ((∃ chk, i = .release .safety chk ∧ s.ready .safety ∧ soundFrame 0x22 [] chk ∧ s.holdActive = true) ∨
      (i = .holdTimerExpiry ∧ s.phase = .running ∧ s.holdActive = true) ∨
      (∃ readBack, i = .saveEnd readBack ∧ s.phase = .running ∧ s.saving = true) ∨
      (∃ ig sp ge dr chk, i = .vehicleState .cabin ig sp ge dr chk ∧ s.ready .cabin ∧
        soundFrame 0x40 [ig, sp, ge, dr] chk ∧ 1 ≤ ig.toNat ∧ ig.toNat ≤ 3 ∧ ge.toNat ≤ 1 ∧ dr.toNat ≤ 1)) →
    (t.gateOpen → t.staging.deferred = false ∧ t.config = { s.config with map := s.stagedMap } ∧
      (∀ p : Pos, t.staging.entries.get p = none) ∧ s.Derived t ∧
      (s.ports.service.queue.length ≤ 13 → ∃ n ∈ t.ports.service.queue, n.kind = .commitApplied ∧ n.subject = 0 ∧
        ∀ p : Pos, n.payload.getLsbD p.val = (s.staging.entries.get p).isSome) ∧
      (let u := match i with
         | .vehicleState .. => s.reported t.vehicle
         | _ => s
       (∀ p : Pos, s.staging.entries.get p = none → t.pos p = u.pos p) ∧ u.CommitsCapture t ∧
       (i ≠ .holdTimerExpiry → (s.port .safety).queue = [] → (∃ q : Pos, s.staging.entries.get q = none) →
         s.TellsDecision t) ∧
       (∀ (p : Pos) (e : MapEntry), s.staging.entries.get p = some e → u.Committed t p e ∧
         (i ≠ .holdTimerExpiry ∨ (∃ q : Pos, s.staging.entries.get q = none) → u.TellsCommitted t p)))) ∧
    (¬ t.gateOpen → t.staging = s.staging ∧ t.config = s.config)

/-! ## Calibration, configuration and tests -/

/-- ZERO CAPTURE is decided by the first case of R48 that holds. A capture in flight adds up the raw loads of 16 samples
of its position, ends at a mat fault or a load of 400 or more, and at the sixteenth stages the mean rounded half up as the
position's zero; samples of other positions do not reach it (R48, R49, R50). -/
def Obligations.ZeroCaptureGathersSixteenLoads : Prop :=
  (∀ (s : State) (n chk : Byte), s.ready .service → soundFrame 0x66 [n] chk →
    let i := Instr.zeroCapture .service n chk
    (n = 0 ∨ 16 < n.toNat → s.Answers i .service 0x66 .badArg [] s) ∧
    (∀ p : Pos, n.toNat = p.val + 1 → s.GateRefuses i 0x66 ∧
      (s.gateOpen →
        (s.capture.isSome = true ∨ s.staging.deferred = true → s.Answers i .service 0x66 .busy [] s) ∧
        (s.capture = none → s.staging.deferred = false →
          let served := (s.entry p).enabled = true ∧ (s.pos p).fit = .fits ∧
            (s.node (s.entry p).line (s.entry p).address).state = .online
          (¬ served → s.Answers i .service 0x66 .badArg [] s) ∧
          (served → s.Answers i .service 0x66 .accepted []
            { s with capture := some { position := p, count := 0, sum := 0 } }))))) ∧
  (∀ (s : State) (p : Pos) (x : SlotSample) (c : Capture), s.capture = some c →
    (c.position ≠ p → s.captureTake p x = s) ∧
    (c.position = p → x.matFault = true ∨ 400 ≤ x.load →
      s.captureTake p x = { s with capture := none }.post .service .captureDone (p.val + 1) 0x1000) ∧
    (c.position = p → x.matFault = false → x.load < 400 → c.count < 15 →
      s.captureTake p x = { s with capture := some { c with count := c.count + 1, sum := c.sum + x.load } }) ∧
    (c.position = p → x.matFault = false → x.load < 400 → c.count = 15 → c.sum ≤ 15 * 399 →
      let mean := (c.sum + x.load + 8) / 16
      let e := (s.staging.entries.get p).getD (s.entry p)
      s.captureTake p x =
        { s with
          capture := none
          staging := { s.staging with entries := s.staging.entries.set p.val (some { e with z := (mean : Int) }) } }.post
            .service .captureDone (p.val + 1) (BitVec.ofNat 16 mean)))

/-- SET PROFILE and SET SETTINGS pass the gate and then the check of their values: the bytes of valid values replace the live
profile or settings, others are answered BAD_ARG. New settings act on every attention line at once; READ PROFILE and READ
SETTINGS return the live values (R104, R146, R149, R150). Valid are the ranges and the orders of R46, R67, R76 and R148, the bytes
carry the fields in the order of spec 11.3, and bytes that are those of no valid profile or settings are refused. -/
def Obligations.ProfilesAndSettingsAreReplacedThroughGate : Prop :=
  (∀ (s : State) (n chk : Byte) (v : Vector Byte 31), s.ready .service → soundFrame 0x68 (n :: v.toList) chk →
    let i := Instr.setProfile .service n v chk
    (3 < n.toNat → s.Answers i .service 0x68 .badArg [] s) ∧
    (∀ k : Fin 4, n.toNat = k.val → s.GateRefuses i 0x68 ∧
      (s.gateOpen → Profile.ofBytes v.toList = none → s.Answers i .service 0x68 .badArg [] s) ∧
      (∀ x : Profile, s.gateOpen → x.valid = true → v.toList = x.bytes → s.Answers i .service 0x68 .ok []
        { s with config := { s.config with profiles := s.config.profiles.set k.val x } }))) ∧
  (∀ (s : State) (chk : Byte) (v : Vector Byte 24), s.ready .service → soundFrame 0x6A v.toList chk →
    let i := Instr.setSettings .service v chk
    s.GateRefuses i 0x6A ∧
    (s.gateOpen → Settings.ofBytes v.toList = none → s.Answers i .service 0x6A .badArg [] s) ∧
    (∀ x : Settings, s.gateOpen → x.valid = true → v.toList = x.bytes →
      ∃ t, exec i s = .next t ∧ t.vehicle.mode = .run ∧ t.replied .service 0x6A .ok [] ∧
        s.putBack t = { s with config := { s.config with settings := x } } ∧
        ∀ p : Port, (t.port p).queue = (s.port p).queue ∧ (t.port p).attention = t.wantsAttention p)) ∧
  (∀ (s : State) (n chk : Byte), s.ready .service → soundFrame 0x67 [n] chk →
    (3 < n.toNat → s.Answers (.readProfile .service n chk) .service 0x67 .badArg [] s) ∧
    (∀ k : Fin 4, n.toNat = k.val →
      s.Answers (.readProfile .service n chk) .service 0x67 .ok (n :: (s.config.profiles.get k).bytes) s)) ∧
  (∀ (s : State) (chk : Byte), s.ready .service → soundFrame 0x69 [] chk →
    s.Answers (.readSettings .service chk) .service 0x69 .ok s.config.settings.bytes s) ∧
  (∀ b : List Byte,
    (Profile.ofBytes b = none ↔ ¬ ∃ x : Profile, x.valid = true ∧ b = x.bytes) ∧
    (Settings.ofBytes b = none ↔ ¬ ∃ x : Settings, x.valid = true ∧ b = x.bytes)) ∧
  (∀ x : Profile,
    (x.valid = true ↔
      (∀ t ∈ [x.t1u, x.t1d, x.t2u, x.t2d, x.t3u, x.t3d, x.csU], 1 ≤ t ∧ t ≤ 4000) ∧
      x.t1d < x.t1u ∧ x.t1u ≤ x.t2d ∧ x.t2d < x.t2u ∧ x.t2u ≤ x.t3d ∧ x.t3d < x.t3u ∧
      x.cinch ≤ 400 ∧ x.csD ≤ 3999 ∧ x.csD < x.csU ∧ 1 ≤ x.nMin ∧ x.nMin ≤ 16 ∧ x.kRigid ≤ 255 ∧ x.kHuman ≤ 255 ∧
      ∀ v ∈ [x.resolve, x.vEmpty, x.vObject, x.vCsEmpty, x.vCsRf, x.vCsFf, x.vCsUnspec, x.vBooster, x.vSmall, x.vAdult],
        1 ≤ v ∧ v ≤ 15) ∧
    x.bytes.map (·.toNat) =
      (([x.t1u, x.t1d, x.t2u, x.t2d, x.t3u, x.t3d, x.cinch, x.csU, x.csD].flatMap fun n => [n / 256, n]) ++
        [x.nMin, x.kRigid, x.kHuman, x.resolve, x.vEmpty, x.vObject, x.vCsEmpty, x.vCsRf, x.vCsFf, x.vCsUnspec,
          x.vBooster, x.vSmall, x.vAdult]).map (· % 256)) ∧
  (∀ x : Settings,
    (x.valid = true ↔ x.graceTime ≤ 600 ∧ x.visualTime ≤ 1200 ∧ x.audibleTime ≤ 1800 ∧ x.speedThreshold ≤ 60 ∧
      x.reissueInterval ∈ [1, 4, 8, 16] ∧ 1 ≤ x.holdLimit ∧ x.holdLimit ≤ 60 ∧
      10 ≤ x.firstDelay ∧ x.firstDelay ≤ 300 ∧ 10 ≤ x.repeatTime ∧ x.repeatTime ≤ 300 ∧
      x.ecoTime ∈ [30, 120, 300, 900] ∧
      (∀ p : Port, 1 ≤ x.trigger.get p ∧ x.trigger.get p ≤ 8) ∧
      (∀ p : Port, 10 ≤ x.ageLimit.get p ∧ x.ageLimit.get p ≤ 1000)) ∧
    x.bytes.map (·.toNat) =
      ([x.graceTime / 256, x.graceTime, x.visualTime / 256, x.visualTime, x.audibleTime / 256, x.audibleTime,
        x.speedThreshold, x.reissueInterval, x.holdLimit, x.firstDelay / 256, x.firstDelay, x.repeatTime / 256,
        x.repeatTime, x.ecoTime / 256, x.ecoTime, x.trigger.safety, x.trigger.cabin, x.trigger.service,
        x.ageLimit.safety / 256, x.ageLimit.safety, x.ageLimit.cabin / 256, x.ageLimit.cabin,
        x.ageLimit.service / 256, x.ageLimit.service]).map (· % 256))

/-- SAVE CONFIG is decided by the first case of R151 that holds; taken, it marks the store INCOMPLETE and holds the live
configuration as the image. SAVE_END marks the store COMPLETE exactly when the read-back agrees with the image, and posts
SAVE_DONE with 0 for agreement and 1 otherwise, whether or not a pending commit is then applied (R151). That SAVE_END carries the read-back as an operand, and that it completes
and changes nothing with no save in flight, is the model's choice (log entries 12 and 14, DESIGN CHOICE). -/
def Obligations.SaveMarksStoreCompleteOnlyWhenReadBackAgrees : Prop :=
  (∀ (s : State) (chk : Byte), s.ready .service → soundFrame 0x6B [] chk →
    s.GateRefuses (.saveConfig .service chk) 0x6B ∧
    (s.gateOpen → s.Answers (.saveConfig .service chk) .service 0x6B .accepted []
      { s with saveImage := some s.config.image, store := { s.store with complete := false } })) ∧
  (∀ (s : State) (readBack : StoreImage), s.phase = .running →
    (s.saveImage = none → s.Passes (.saveEnd readBack)) ∧
    (∀ image, s.saveImage = some image → s.staging.deferred = false →
      ∃ t, exec (.saveEnd readBack) s = .next t ∧ s.Judged t ∧
        s.ecoBack t =
          { s with saveImage := none, store := { complete := readBack = image, image := readBack } }.post
            .service .saveDone 0 (if readBack = image then 0 else 1)) ∧
    (∀ image, s.saveImage = some image →
      ∃ t, exec (.saveEnd readBack) s = .next t ∧ s.Judged t ∧ t.saveImage = none ∧
        t.store = { complete := readBack = image, image := readBack } ∧
        ((s.port .service).queue.length < 16 → ∃ n ∈ (t.port .service).queue, n.kind = .saveDone ∧ n.subject = 0 ∧
          n.payload = (if readBack = image then 0 else 1) ∧ n.scan = s.scanner.number)))

/-- TEST MODE ON passes the gate and turns the test mode on; OFF is taken at all times and ends every injection; another
operand is BAD_ARG (R131). The reminder tick comes at the new spacing (R92); that the next one comes a full new spacing later,
3.125 ms or 100 ms, is the model's reading (log entry 18, DEDUCED). INJECT SAMPLE gives a served position its operand as the
sample that each valid SAMPLE reply delivers, with as many of its tags as the tag count says, while test mode is on, and END
INJECT ends that (R132, spec 11.2). -/
def Obligations.TestModeAndInjectionFollowTheirChecks : Prop :=
  (∀ (s : State) (operand chk : Byte), s.ready .service → soundFrame 0x6D [operand] chk →
    let i := Instr.testModeOn .service operand chk
    (1 < operand.toNat → s.Answers i .service 0x6D .badArg [] s) ∧
    (operand = 1 → s.GateRefuses i 0x6D ∧
      (s.gateOpen → s.vehicle.testMode = true → s.Answers i .service 0x6D .ok [] s) ∧
      (s.gateOpen → s.vehicle.testMode = false → s.Answers i .service 0x6D .ok []
        { s with vehicle := { s.vehicle with testMode := true }, reminderTimer := some 25 }))) ∧
  (∀ (s : State) (chk : Byte), s.ready .service → soundFrame 0x6D [0] chk →
    let i := Instr.testModeOff .service chk
    (s.vehicle.testMode = false → s.Answers i .service 0x6D .ok [] s) ∧
    (s.vehicle.testMode = true → ∃ t, exec i s = .next t ∧ s.Answered t .service 0x6D .ok [] ∧
      (∀ p : Pos, t.pos p = { s.pos p with injection := none }) ∧
      { s.putBack t with positions := s.positions } =
        { s with vehicle := { s.vehicle with testMode := false }, reminderTimer := some 800 })) ∧
  (∀ (s : State) (n chk : Byte) (v : Vector Byte 20), s.ready .service → soundFrame 0x6E (n :: v.toList) chk →
    let i := Instr.injectSample .service n v chk
    (n = 0 ∨ 16 < n.toNat ∨ 1 < (v.get 5).toNat ∨ 3 < (v.get 6).toNat ∨ 2 < (v.get 7).toNat →
      s.Answers i .service 0x6E .badArg [] s) ∧
    (∀ p : Pos, n.toNat = p.val + 1 → (v.get 5).toNat ≤ 1 → (v.get 6).toNat ≤ 3 → (v.get 7).toNat ≤ 2 →
      s.GateRefuses i 0x6E ∧
      (s.gateOpen → s.vehicle.testMode = false ∨ s.serves p = false → s.Answers i .service 0x6E .badArg [] s) ∧
      (s.gateOpen → s.vehicle.testMode = true → s.serves p = true →
        ∃ x : SlotSample, x.statusFault = decide (v.get 5 = 1) ∧ x.buckle.toNat = (v.get 6).toNat ∧
          x.load = (v.get 0).toNat * 256 + (v.get 1).toNat ∧ x.cells = (v.get 2).toNat ∧
          x.peak = (v.get 3).toNat * 256 + (v.get 4).toNat ∧
          x.tags = [tagAt v.toList 8, tagAt v.toList 14].take (v.get 7).toNat ∧
          s.Answers i .service 0x6E .ok [] (s.modPos p fun r => { r with injection := some x })))) ∧
  (∀ (s : State) (n chk : Byte), s.ready .service → soundFrame 0x6F [n] chk →
    (n = 0 ∨ 16 < n.toNat → s.Answers (.endInject .service n chk) .service 0x6F .badArg [] s) ∧
    (∀ p : Pos, n.toNat = p.val + 1 → s.Answers (.endInject .service n chk) .service 0x6F .ok []
      (s.modPos p fun r => { r with injection := none })))

/-! ## Ports, notices and reads -/

/-- A character on a port starts or goes on with the frame being assembled, whose length its first byte decides; the last one
completes it, and the command that the frame spells is run (R134, spec 11.2). A port takes one frame at a time: a partial frame
is discarded and counted, a frame that begins during a reply is counted, discarded whole and still reported, by its first
character or as a whole, a gap ends the discarding, and the last stop bit ends the reply (R135, R136). A character that is
discarded, or comes while the port does not listen, changes nothing (R136, R147, R153). That waiting characters stand in a queue
of the model's own, and that a command row and INTER_BYTE_LIMIT may also stand for all the characters of their frame together, is
the model's choice (log entry 13, DESIGN CHOICE). -/
def Obligations.PortTakesOneFrameAtATime : Prop :=
  (∀ (s : State) (p : Port), s.ready p → exec (.interByteLimit p) s = .next (s.setPort p
    { s.port p with assembler := .idle, drops := if (s.port p).drops < 65535 then (s.port p).drops + 1 else 65535 })) ∧
  (∀ (s : State) (p : Port), s.phase = .running → (s.port p).assembler ≠ .discarding → (s.port p).reply.isSome = true →
    ∃ t, exec (.frameDiscarded p) s = .next t ∧ s.Heard t ∧ s.putBack t = s ∧
      t.port p = { s.port p with assembler := .discarding, drops := min ((s.port p).drops + 1) 65535 } ∧
      ∀ q, q ≠ p → t.port q = s.port q) ∧
  (∀ (s : State) (p : Port), (s.port p).assembler = .discarding →
    exec (.discardingGapEnd p) s = .next (s.setPort p { s.port p with assembler := .idle })) ∧
  (∀ (s : State) (p : Port), s.phase = .running →
    exec (.replyEnd p) s = .next (s.setPort p { s.port p with reply := none })) ∧
  (∀ (i : Instr) (p : Port) (s : State), i.wellFormed = true → i.sentOn = some p → (s.port p).reply.isSome = true →
    exec i s = exec (.frameDiscarded p) s) ∧
  (∀ (s : State) (p : Port) (c : Byte) (rest : List (Port × Byte)), s.pending = [] → s.incoming = (p, c) :: rest →
    step s = { s with incoming := rest }.stepChar p c) ∧
  (∀ (s : State) (p : Port) (c : Byte), s.ready p →
    let bytes := match (s.port p).assembler with
      | .assembling b => b ++ [c]
      | .idle | .discarding => [c]
    (bytes.length < frameLength (byteAt bytes 0) →
      s.stepChar p c = .next (s.setPort p { s.port p with assembler := .assembling bytes })) ∧
    (bytes.length = frameLength (byteAt bytes 0) → ∃ i : Instr,
      i.wellFormed = true ∧ i.sentOn = some p ∧ i.frame = some bytes ∧
      s.stepChar p c = exec i (s.setPort p { s.port p with assembler := .idle }))) ∧
  (∀ (s : State) (p : Port) (c : Byte),
    ((s.port p).assembler = .discarding → s.stepChar p c = .next s) ∧
    (s.phase = .running → (s.port p).reply.isSome = true → (s.port p).assembler ≠ .discarding →
      s.stepChar p c = exec (.frameDiscarded p) s) ∧
    (s.phase = .resetLow ∨ s.phase = .loading ∨ (s.phase = .resetReply ∧ p ≠ .service) → s.stepChar p c = .next s)) ∧
  (∀ cmd : Byte, frameLength cmd =
    (([(0x04, 1), (0x23, 1), (0x40, 4), (0x41, 1), (0x42, 1), (0x60, 1), (0x61, 1), (0x62, 18), (0x63, 2), (0x66, 1),
      (0x67, 1), (0x68, 32), (0x6A, 24), (0x6C, 2), (0x6D, 1), (0x6E, 21), (0x6F, 1)] : List (Nat × Nat)).lookup
        cmd.toNat).getD 0 + 2)

/-- A complete frame is judged in the order of R137: a byte sum other than 0 is BAD_CHECK, a command byte that names no
command UNKNOWN, a command of another port NOT_PERMITTED; such a frame changes nothing but what every received frame may
(R137, R138). -/
def Obligations.UnsoundFramesAreRefusedInOrder : Prop :=
  ∀ (i : Instr) (p : Port) (cmd : Byte) (rest : List Byte) (s : State),
    i.wellFormed = true → i.sentOn = some p → i.frame = some (cmd :: rest) → s.ready p →
    (byteSum (cmd :: rest) ≠ 0 → s.Answers i p cmd .badCheck [] s) ∧
    (byteSum (cmd :: rest) = 0 → operandLength cmd = none → s.Answers i p cmd .unknown [] s) ∧
    (byteSum (cmd :: rest) = 0 → (operandLength cmd).isSome = true →
      ¬ (cmd.toNat ≤ 5 ∨ (p = .safety ∧ 0x20 ≤ cmd.toNat ∧ cmd.toNat ≤ 0x24) ∨
        (p = .cabin ∧ 0x40 ≤ cmd.toNat ∧ cmd.toNat ≤ 0x43) ∨ (p = .service ∧ 0x60 ≤ cmd.toNat ∧ cmd.toNat ≤ 0x71)) →
      s.Answers i p cmd .notPermitted [] s)

/-- A posted notice takes the place and waiting time of a queued one of its kind and subject, with the new payload and
scan number; otherwise it is appended to a queue of fewer than 16, and at a full queue it is lost and the overflow flag
set. The attention line is judged, and no other port and no other block changes (R142, R145). -/
def Obligations.PostedNoticeCoalescesAppendsOrOverflows : Prop :=
  ∀ (s : State) (p : Port) (kind : NoticeKind) (subject : Nat) (payload : Half),
    let t := s.post p kind subject payload
    let q := (s.port p).queue
    let same (n : Notice) : Prop := n.kind = kind ∧ n.subject = subject
    ((∃ n ∈ q, same n) → (t.port p).overflow = (s.port p).overflow ∧ (t.port p).queue.length = q.length ∧
      ∀ (k : Nat) (n : Notice), q[k]? = some n →
        (same n → (t.port p).queue[k]? = some { n with payload := payload, scan := s.scanner.number }) ∧
        (¬ same n → (t.port p).queue[k]? = some n)) ∧
    ((¬ ∃ n ∈ q, same n) → q.length < 16 → (t.port p).overflow = (s.port p).overflow ∧
      (t.port p).queue = q ++
        [{ kind := kind, subject := subject, payload := payload, scan := s.scanner.number, waited := 0 }]) ∧
    ((¬ ∃ n ∈ q, same n) → 16 ≤ q.length → (t.port p).queue = q ∧ (t.port p).overflow = true) ∧
    ((t.port p).attention = true ↔ s.config.settings.trigger.get p ≤ (t.port p).queue.length ∨
      ∃ n rest, (t.port p).queue = n :: rest ∧ s.config.settings.ageLimit.get p * 8 ≤ n.waited) ∧
    (t.port p).reply = (s.port p).reply ∧ (t.port p).assembler = (s.port p).assembler ∧
    (t.port p).drops = (s.port p).drops ∧ (∀ r, r ≠ p → t.port r = s.port r) ∧ { t with ports := s.ports } = s

/-- READ NOTICE removes the oldest notice and returns its six bytes with the count left, or seven zero bytes from an empty
queue, and the attention line is judged; READ STATUS answers from one moment, with the scan mode before its own wake, and
clears the overflow flag. Neither changes anything else of the port, of another port or of another block (R143, R144, spec 11.4).
A reply is the command byte echoed, the status code, the data and a check byte that makes its byte sum 0 (R137). -/
def Obligations.NoticesAndStatusAreReadAtOneMoment : Prop :=
  (∀ (s : State) (p : Port) (chk : Byte), s.ready p → soundFrame 0x05 [] chk →
    ((s.port p).queue = [] → s.Answers (.readNotice p chk) p 0x05 .ok (List.replicate 7 0) s) ∧
    (∀ n rest, (s.port p).queue = n :: rest → ∃ t, exec (.readNotice p chk) s = .next t ∧ s.Heard t ∧
      t.port p = { s.port p with
        assembler := .idle, queue := rest
        attention := decide (s.config.settings.trigger.get p ≤ rest.length) ||
          rest.head?.any fun m => decide (s.config.settings.ageLimit.get p * 8 ≤ m.waited)
        reply := some (replyBytes 0x05 .ok ([oneByte n.kind.code, oneByte n.subject] ++ halfBytes n.payload ++
          halfBytes n.scan ++ [oneByte rest.length])) } ∧
      (∀ q, q ≠ p → t.port q = s.port q) ∧ s.putBack t = s)) ∧
  (∀ (s : State) (p : Port) (chk : Byte), s.ready p → soundFrame 0x02 [] chk →
    ∃ t, exec (.readStatus p chk) s = .next t ∧ s.Heard t ∧ s.putBack t = s ∧ (∀ q, q ≠ p → t.port q = s.port q) ∧
      t.port p = { s.port p with
        assembler := .idle, overflow := false
        reply := some (replyBytes 0x02 .ok
          ([oneByte s.vehicle.mode.code] ++ halfBytes s.scanner.number ++
            [oneByte (s.holdActive.toNat + 2 * s.restraint.lastExpired.toNat + 4 * s.standstill.toNat +
                8 * s.vehicle.isFresh.toNat + 16 * s.vehicle.testMode.toNat + 32 * s.capture.isSome.toNat +
                64 * s.saving.toNat + 128 * s.staging.deferred.toNat),
              oneByte s.vehicle.ignition.code, oneByte s.vehicle.speed, oneByte s.vehicle.gear.code,
              oneByte s.vehicle.door.code, oneByte s.configState.code, oneByte (s.port p).queue.length,
              flagByte (s.port p).overflow] ++
            twoBytes (s.port p).drops)) }) ∧
  (∀ (cmd : Byte) (st : Status) (data : List Byte), ∃ check : Byte,
    replyBytes cmd st data = cmd :: BitVec.ofNat 8 st.code :: data ++ [check] ∧ byteSum (replyBytes cmd st data) = 0) ∧
  [Status.ok, .accepted, .deferred, .badCheck, .unknown, .notPermitted, .badArg, .busy, .locked, .conflict, .tooLate].map
    (·.code) = [0x00, 0x01, 0x02, 0x10, 0x11, 0x12, 0x13, 0x14, 0x15, 0x16, 0x17]

/-- The reads answer OK with the record they name and change nothing but what every received frame may, and an operand
that names no position, line or address is BAD_ARG (R17, R37, R53, R69, R87, R105, R110, R140). The records hold their fields in
the order of spec 11.4, with the codes of spec 11.5, a number of two bytes high byte first, and a field that has no value as zero
(R155). That unused bits of a tag record, of a flags byte and of a capability byte are sent as zero, and which value of a timer or
counter a reply shows, is the model's choice (log entries 6, 34 and 38). -/
def Obligations.ReadsReturnTheirRecordsAndChangeNothing : Prop :=
  (∀ (s : State) (p : Port) (chk : Byte), s.ready p → soundFrame 0x01 [] chk →
    s.Answers (.identifyPart p chk) p 0x01 .ok [0x74, 0x16, 0x03, oneByte s.configState.code, oneByte (portCode p)] s) ∧
  (∀ (s : State) (p : Port) (chk : Byte), s.ready p → soundFrame 0x03 [] chk →
    s.Answers (.readSummary p chk) p 0x03 .ok s.summaryData s) ∧
  (∀ (s : State) (p : Port) (n chk : Byte), s.ready p → soundFrame 0x04 [n] chk →
    (n = 0 ∨ 16 < n.toNat → s.Answers (.readPosition p n chk) p 0x04 .badArg [] s) ∧
    (∀ q : Pos, n.toNat = q.val + 1 → s.Answers (.readPosition p n chk) p 0x04 .ok (s.positionData q) s)) ∧
  (∀ (s : State) (chk : Byte), s.ready .safety → soundFrame 0x20 [] chk →
    s.Answers (.readSuppression .safety chk) .safety 0x20 .ok s.suppressionData s) ∧
  (∀ (s : State) (n chk : Byte), s.ready .service →
    (soundFrame 0x60 [n] chk →
      (n = 0 ∨ 16 < n.toNat → s.Answers (.readMapEntry .service n chk) .service 0x60 .badArg [] s) ∧
      (∀ q : Pos, n.toNat = q.val + 1 →
        s.Answers (.readMapEntry .service n chk) .service 0x60 .ok (s.mapEntryData q) s)) ∧
    (soundFrame 0x61 [n] chk →
      (n = 0 ∨ 16 < n.toNat → s.Answers (.readStaged .service n chk) .service 0x61 .badArg [] s) ∧
      (∀ q : Pos, n.toNat = q.val + 1 →
        s.Answers (.readStaged .service n chk) .service 0x61 .ok (s.stagedData q) s))) ∧
  (∀ (s : State) (line a chk : Byte), s.ready .service → soundFrame 0x6C [line, a] chk →
    (1 < line.toNat ∨ a = 0 ∨ 6 < a.toNat → s.Answers (.readNode .service line a chk) .service 0x6C .badArg [] s) ∧
    (∀ (l : Line) (k : Fin 6), line.toNat = lineCode l → a.toNat = k.val + 1 →
      s.Answers (.readNode .service line a chk) .service 0x6C .ok (s.nodeData l k) s)) ∧
  (∀ (s : State) (q : Pos),
    let r := s.pos q
    let tag (t : Option TagRecord) : List Nat := match t with
      | none => [0, 0, 0, 0, 0, 0]
      | some t => [t.id.toNat / 2 ^ 24, t.id.toNat / 2 ^ 16, t.id.toNat / 2 ^ 8, t.id.toNat,
          t.orientation.toNat + 128 * t.weak.toNat, t.mass.toNat]
    (s.positionData q).map (·.toNat) =
      ([q.val + 1, r.cls.stable.code, r.cls.cause.code, r.cls.candidate.code, r.cls.agreement, r.cls.lastInstant.code,
        r.cls.sequence.toNat,
        r.cls.resolveMark.toNat + 2 * r.load.seeded.toNat + 4 * r.child.loadFlag.toNat + 8 * r.reminder.confirmed.toNat +
          16 * r.watched.toNat + 32 * r.injection.isSome.toNat,
        r.load.w / 256, r.load.w, r.load.f16 / 16 / 256, r.load.f16 / 16, r.load.band, r.load.n, r.load.k,
        r.child.accepted.code, r.child.pending.code, r.child.pendingCount, r.child.dropout, r.child.tags.length] ++
        tag r.child.tags[0]? ++ tag r.child.tags[1]? ++
        [r.buckle.belt.code, r.buckle.pending.code, r.buckle.count, r.reminder.step.code, r.reminder.timer / 256,
          r.reminder.timer, r.reminder.reissues, r.reminder.scans]).map (· % 256) ∧
    s.mapEntryData q = (s.entry q).bytes ++
      [BitVec.ofNat 8 r.fit.code, BitVec.ofNat 8 (r.childCap.toNat + 2 * r.beltCap.toNat),
        BitVec.ofNat 8 (s.staging.entries.get q).isSome.toNat,
        BitVec.ofNat 8 ((List.finRange 16).filter fun p => (s.staging.entries.get p).isSome).length,
        BitVec.ofNat 8 s.staging.deferred.toNat] ∧
    s.stagedData q = match s.staging.entries.get q with
      | none => List.replicate 18 0
      | some e => 1 :: e.bytes) ∧
  (∀ s : State,
    s.summaryData.map (·.toNat) =
      (((List.finRange 16).flatMap fun p =>
          [(s.pos p).cls.stable.code, (s.pos p).cls.cause.code, (s.pos p).cls.sequence.toNat]) ++
        [s.holdActive.toNat, s.scanner.number.toNat / 256, s.scanner.number.toNat]).map (· % 256) ∧
    s.suppressionData.map (·.toNat) =
      ([s.restraint.suppression.code, s.restraint.sequence.toNat] ++
        (match s.airbag with
          | none => [0, 1, 0]
          | some p => [p.val + 1, (s.pos p).cls.stable.code, (s.pos p).cls.cause.code]) ++
        [s.holdActive.toNat, s.restraint.lastExpired.toNat, s.restraint.holdCount,
          s.restraint.snapshots.length]).map (· % 256) ∧
    (∀ p : Pos, s.airbag = some p ↔ ((s.entry p).enabled = true ∧ (s.entry p).airbagZone = true ∧
      ∀ q : Pos, q < p → ¬ ((s.entry q).enabled = true ∧ (s.entry q).airbagZone = true)))) ∧
  (∀ (s : State) (l : Line) (a : Fin 6),
    let n := s.node l a
    (s.nodeData l a).map (·.toNat) =
      ([lineCode l, a.val + 1, n.state.code, n.misses, n.verdict.code] ++
        (match n.identity with
          | none => [0, 0, 0, 0, 0, 0, 0, 0, 0]
          | some id => [1, id.id.toNat / 65536, id.id.toNat / 256, id.id.toNat, id.slots] ++
              ([0, 1, 2, 3].map fun k => match id.caps[k]? with
                | none => 0
                | some c => c.1.toNat + 2 * c.2.toNat)) ++
        [n.timeouts / 256, n.timeouts, n.crcErrors / 256, n.crcErrors, n.formatErrors / 256, n.formatErrors,
          s.scanner.number.toNat / 256, s.scanner.number.toNat]).map (· % 256)) ∧
  ([OccClass.unresolved, .absent, .fault, .empty, .object, .csEmpty, .csRf, .csFf, .csUnspec, .booster, .small,
      .adult].map (·.code) = [0, 1, 2, 3, 4, 5, 6, 7, 8, 9, 10, 11] ∧
    [FaultCause.none, .nodeLost, .misfit, .noSlot, .matFault].map (·.code) = [0, 1, 2, 3, 4] ∧
    [ChildSeat.none, .baseOnly, .carrierRf, .seatRf, .seatFf, .seatUnspec, .boosterSeat, .conflict].map (·.code) =
      [0, 1, 2, 3, 4, 5, 6, 7] ∧
    [Belt.none, .latched, .unlatched, .fault].map (·.code) = [0, 1, 2, 3] ∧
    [ReminderStep.idle, .grace, .visual, .audible, .muted, .lapsed].map (·.code) = [0, 1, 2, 3, 4, 5] ∧
    [NodeState.unseen, .online, .silent, .lost].map (·.code) = [0, 1, 2, 3] ∧
    [Verdict.none, .absent, .fault].map (·.code) = [0, 1, 2] ∧
    [FitState.unchecked, .fits, .misfit, .noSlot].map (·.code) = [0, 1, 2, 3] ∧
    [Suppression.enable, .suppress, .indeterminate].map (·.code) = [0, 1, 2] ∧
    [Ignition.unknown, .off, .acc, .run].map (·.code) = [0, 1, 2, 3] ∧
    [Gear.park, .other].map (·.code) = [0, 1] ∧ [Door.closed, .opened].map (·.code) = [0, 1] ∧
    [ScanMode.run, .eco].map (·.code) = [0, 1] ∧ [ConfigState.loaded, .defaulted].map (·.code) = [0, 1] ∧
    [SeatKind.driver, .front, .rear].map (·.code) = [0, 1, 2] ∧
    [MatchMode.exact, .variant, .model, .any].map (·.code) = [0, 1, 2, 3] ∧
    [ReminderClass.full, .visual, .none].map (·.code) = [0, 1, 2] ∧
    [Line.a, .b].map lineCode = [0, 1] ∧ [Port.safety, .cabin, .service].map portCode = [0, 1, 2])

/-! ## Rules that hold at all times -/

/-- No step makes a notice queue longer than 16 or gives it two notices of one kind and subject (R142). No step leaves a frame
assembler with a frame that is empty or already whole, or one begun while a reply is in progress (R134, R136). -/
def Obligations.EveryStepKeepsQueuesLegal : Prop :=
  (∀ s t : State, s.QueuesLegal → step s = .next t → t.QueuesLegal) ∧
  (∀ s t : State, s.AssemblersLegal → step s = .next t → t.AssemblersLegal)

/-- No step lets a value out of its range into the live configuration, the staging area or a capture, and none makes the live
map, or the map of a pending commit, break a condition of R2 (R1, R2, R8, R49). The ranges and the map conditions are spelled
in StagingCommandsChangeStagingAlone, ProfilesAndSettingsAreReplacedThroughGate and CommitMapDecidesByFirstCase. -/
def Obligations.EveryStepKeepsConfigurationLegal : Prop :=
  ∀ s t : State, s.FieldsLegal → s.MapLegal → step s = .next t → t.FieldsLegal ∧ t.MapLegal

/-- Every step keeps each position's load, band, votes and cause in range and in agreement, and its fit, capability and
injection by their rules (R5, R7, R72, R77, R132). -/
def Obligations.EveryStepKeepsRecordsLegal : Prop :=
  ∀ s t : State, s.RecordsLegal → s.CapabilitiesLegal → step s = .next t → t.RecordsLegal ∧ t.CapabilitiesLegal

/-- Every step keeps a reminder that is not IDLE under an unfastened belt, a class that asks for it or FAULT, ignition RUN
and a reminder class other than NONE, and its timer at 0 outside GRACE, VISUAL and AUDIBLE (R92, R94, R95, R98). -/
def Obligations.EveryStepKeepsRemindersLegal : Prop :=
  ∀ s t : State, s.RemindersLegal → step s = .next t → t.RemindersLegal

/-- Every step keeps the suppression state equal to the decision from the live map and the classes, and the decision line
at its pattern, at every moment of a reset too (R107, R108, R109). The decision without an airbag position is SUPPRESS; with one it
is ENABLE for ADULT, INDETERMINATE for UNRESOLVED and FAULT, and SUPPRESS for any other class (R107). -/
def Obligations.EveryStepKeepsDecisionLineTrue : Prop :=
  (∀ s t : State, s.LineLegal → step s = .next t → t.LineLegal) ∧
  (∀ s : State,
    let airbag (p : Pos) : Prop := (s.entry p).enabled = true ∧ (s.entry p).airbagZone = true
    ((∀ p, ¬ airbag p) → s.decision = .suppress) ∧
    (∀ p, airbag p → (∀ q, q < p → ¬ airbag q) → s.decision =
      if (s.pos p).cls.stable = .adult then .enable
      else if (s.pos p).cls.stable = .unresolved ∨ (s.pos p).cls.stable = .fault then .indeterminate
      else .suppress))

/-- Every step keeps the eco countdown running exactly while its conditions hold, and ECO possible only with nothing in flight
(R129, R130). The conditions are scan mode RUN, ignition OFF, no watch, no HOLD, no capture, no save and no deferred commit in
flight, and every reminder IDLE; the full countdown is its setting in seconds, in quanta (R129; log entry 2). -/
def Obligations.EveryStepKeepsEcoLegal : Prop :=
  (∀ s t : State, s.EcoLegal → step s = .next t → t.EcoLegal) ∧
  (∀ s : State,
    (s.ecoConditions = true ↔ s.vehicle.mode = .run ∧ s.vehicle.ignition = .off ∧ s.vehicle.watch = none ∧
      s.restraint.hold = none ∧ s.capture = none ∧ s.saveImage = none ∧ s.staging.deferred = false ∧
      ∀ p : Pos, (s.pos p).reminder.step = .idle) ∧
    s.ecoFull = s.config.settings.ecoTime * 8000)

/-- While HOLD stays active no step changes a stable class, a fault cause, a record sequence, the suppression state, its
sequence or the live map (R12, R13, R84, R107). -/
def Obligations.HoldFreezesClassesSuppressionAndMap : Prop :=
  ∀ s t : State, s.holdActive = true → step s = .next t → t.holdActive = true → s.SameFrozen t

/-- The state right after reset satisfies every rule that each step keeps. -/
def Obligations.ResetSatisfiesTheRulesThatStepsKeep : Prop :=
  State.reset.QueuesLegal ∧ State.reset.FieldsLegal ∧ State.reset.MapLegal ∧ State.reset.RecordsLegal ∧
  State.reset.CapabilitiesLegal ∧ State.reset.RemindersLegal ∧ State.reset.LineLegal ∧ State.reset.EcoLegal ∧
  State.reset.AssemblersLegal
end

