-- ==== Sys2Proof/Laws/State.lean ====
section
/-! SUPPORT. The small lemmas of the state and its updates: what a table reads after an update, and one lemma for each field
that an update keeps. -/

namespace Sys2Proof.Machine

/-! ## Tables -/

@[simp] theorem PerPos.get_ofFn {α : Type} (f : Pos → α) (p : Pos) : (PerPos.ofFn f).get p = f p := by
  fin_cases p <;> rfl

/-- Reading a table after one entry was replaced. -/
theorem vector_get_set {α : Type} {n : Nat} (v : Vector α n) (i j : Fin n) (x : α) :
    (v.set i.val x i.isLt).get j = if j = i then x else v.get j := by
  rw [Vector.get_eq_getElem, Vector.get_eq_getElem, Vector.getElem_set]
  by_cases h : i = j
  · simp [h]
  · have : i.val ≠ j.val := fun e => h (Fin.ext e)
    simp [this, Ne.symm h]

@[simp] theorem PerLine.get_set {α : Type} (t : PerLine α) (l m : Line) (x : α) :
    (t.set l x).get m = if m = l then x else t.get m := by cases l <;> cases m <;> rfl

@[simp] theorem PerPort.get_set {α : Type} (t : PerPort α) (p q : Port) (x : α) :
    (t.set p x).get q = if q = p then x else t.get q := by cases p <;> cases q <;> rfl

@[simp] theorem State.pos_setPos (s : State) (p q : Pos) (r : PosRec) :
    (s.setPos p r).pos q = if q = p then r else s.pos q := vector_get_set s.positions p q r

@[simp] theorem State.pos_modPos (s : State) (p q : Pos) (f : PosRec → PosRec) :
    (s.modPos p f).pos q = if q = p then f (s.pos p) else s.pos q := State.pos_setPos s p q _

@[simp] theorem State.port_setPort (s : State) (p q : Port) (x : PortState) :
    (s.setPort p x).port q = if q = p then x else s.port q := PerPort.get_set s.ports p q x

@[simp] theorem State.node_setNode (s : State) (l m : Line) (a b : Fin 6) (r : NodeRec) :
    (s.setNode l a r).node m b = if m = l ∧ b = a then r else s.node m b := by
  by_cases h : m = l
  · subst h
    simp only [State.node, State.setNode, State.setLine, PerLine.get_set, if_true, true_and]
    exact vector_get_set _ a b r
  · simp [State.node, State.setNode, State.setLine, PerLine.get_set, h]

/-- Two tables with equal entries are equal. -/
theorem vector_ext_get {α : Type} {n : Nat} {v w : Vector α n} (h : ∀ i : Fin n, v.get i = w.get i) : v = w := by
  apply Vector.ext
  intro i hi
  simpa [Vector.get_eq_getElem] using h ⟨i, hi⟩

/-! ## Fields that an update keeps -/

/-! ### A position's record is replaced: every other field is kept -/

@[simp] theorem State.setPos_phase (s : State) (p : Pos) (r : PosRec) :
    (s.setPos p r).phase = s.phase := rfl

@[simp] theorem State.setPos_config (s : State) (p : Pos) (r : PosRec) :
    (s.setPos p r).config = s.config := rfl

@[simp] theorem State.setPos_configState (s : State) (p : Pos) (r : PosRec) :
    (s.setPos p r).configState = s.configState := rfl

@[simp] theorem State.setPos_store (s : State) (p : Pos) (r : PosRec) :
    (s.setPos p r).store = s.store := rfl

@[simp] theorem State.setPos_saveImage (s : State) (p : Pos) (r : PosRec) :
    (s.setPos p r).saveImage = s.saveImage := rfl

@[simp] theorem State.setPos_staging (s : State) (p : Pos) (r : PosRec) :
    (s.setPos p r).staging = s.staging := rfl

@[simp] theorem State.setPos_scanner (s : State) (p : Pos) (r : PosRec) :
    (s.setPos p r).scanner = s.scanner := rfl

@[simp] theorem State.setPos_capture (s : State) (p : Pos) (r : PosRec) :
    (s.setPos p r).capture = s.capture := rfl

@[simp] theorem State.setPos_reminderTimer (s : State) (p : Pos) (r : PosRec) :
    (s.setPos p r).reminderTimer = s.reminderTimer := rfl

@[simp] theorem State.setPos_restraint (s : State) (p : Pos) (r : PosRec) :
    (s.setPos p r).restraint = s.restraint := rfl

@[simp] theorem State.setPos_vehicle (s : State) (p : Pos) (r : PosRec) :
    (s.setPos p r).vehicle = s.vehicle := rfl

@[simp] theorem State.setPos_ports (s : State) (p : Pos) (r : PosRec) :
    (s.setPos p r).ports = s.ports := rfl

@[simp] theorem State.setPos_freeCount (s : State) (p : Pos) (r : PosRec) :
    (s.setPos p r).freeCount = s.freeCount := rfl

@[simp] theorem State.setPos_pending (s : State) (p : Pos) (r : PosRec) :
    (s.setPos p r).pending = s.pending := rfl

@[simp] theorem State.setPos_incoming (s : State) (p : Pos) (r : PosRec) :
    (s.setPos p r).incoming = s.incoming := rfl

/-! ### A position's record is changed: every other field is kept -/

@[simp] theorem State.modPos_phase (s : State) (p : Pos) (f : PosRec → PosRec) :
    (s.modPos p f).phase = s.phase := rfl

@[simp] theorem State.modPos_config (s : State) (p : Pos) (f : PosRec → PosRec) :
    (s.modPos p f).config = s.config := rfl

@[simp] theorem State.modPos_configState (s : State) (p : Pos) (f : PosRec → PosRec) :
    (s.modPos p f).configState = s.configState := rfl

@[simp] theorem State.modPos_store (s : State) (p : Pos) (f : PosRec → PosRec) :
    (s.modPos p f).store = s.store := rfl

@[simp] theorem State.modPos_saveImage (s : State) (p : Pos) (f : PosRec → PosRec) :
    (s.modPos p f).saveImage = s.saveImage := rfl

@[simp] theorem State.modPos_staging (s : State) (p : Pos) (f : PosRec → PosRec) :
    (s.modPos p f).staging = s.staging := rfl

@[simp] theorem State.modPos_scanner (s : State) (p : Pos) (f : PosRec → PosRec) :
    (s.modPos p f).scanner = s.scanner := rfl

@[simp] theorem State.modPos_capture (s : State) (p : Pos) (f : PosRec → PosRec) :
    (s.modPos p f).capture = s.capture := rfl

@[simp] theorem State.modPos_reminderTimer (s : State) (p : Pos) (f : PosRec → PosRec) :
    (s.modPos p f).reminderTimer = s.reminderTimer := rfl

@[simp] theorem State.modPos_restraint (s : State) (p : Pos) (f : PosRec → PosRec) :
    (s.modPos p f).restraint = s.restraint := rfl

@[simp] theorem State.modPos_vehicle (s : State) (p : Pos) (f : PosRec → PosRec) :
    (s.modPos p f).vehicle = s.vehicle := rfl

@[simp] theorem State.modPos_ports (s : State) (p : Pos) (f : PosRec → PosRec) :
    (s.modPos p f).ports = s.ports := rfl

@[simp] theorem State.modPos_freeCount (s : State) (p : Pos) (f : PosRec → PosRec) :
    (s.modPos p f).freeCount = s.freeCount := rfl

@[simp] theorem State.modPos_pending (s : State) (p : Pos) (f : PosRec → PosRec) :
    (s.modPos p f).pending = s.pending := rfl

@[simp] theorem State.modPos_incoming (s : State) (p : Pos) (f : PosRec → PosRec) :
    (s.modPos p f).incoming = s.incoming := rfl

/-! ### A port is replaced: every other field is kept -/

@[simp] theorem State.setPort_phase (s : State) (p : Port) (x : PortState) :
    (s.setPort p x).phase = s.phase := rfl

@[simp] theorem State.setPort_config (s : State) (p : Port) (x : PortState) :
    (s.setPort p x).config = s.config := rfl

@[simp] theorem State.setPort_configState (s : State) (p : Port) (x : PortState) :
    (s.setPort p x).configState = s.configState := rfl

@[simp] theorem State.setPort_store (s : State) (p : Port) (x : PortState) :
    (s.setPort p x).store = s.store := rfl

@[simp] theorem State.setPort_saveImage (s : State) (p : Port) (x : PortState) :
    (s.setPort p x).saveImage = s.saveImage := rfl

@[simp] theorem State.setPort_staging (s : State) (p : Port) (x : PortState) :
    (s.setPort p x).staging = s.staging := rfl

@[simp] theorem State.setPort_scanner (s : State) (p : Port) (x : PortState) :
    (s.setPort p x).scanner = s.scanner := rfl

@[simp] theorem State.setPort_positions (s : State) (p : Port) (x : PortState) :
    (s.setPort p x).positions = s.positions := rfl

@[simp] theorem State.setPort_capture (s : State) (p : Port) (x : PortState) :
    (s.setPort p x).capture = s.capture := rfl

@[simp] theorem State.setPort_reminderTimer (s : State) (p : Port) (x : PortState) :
    (s.setPort p x).reminderTimer = s.reminderTimer := rfl

@[simp] theorem State.setPort_restraint (s : State) (p : Port) (x : PortState) :
    (s.setPort p x).restraint = s.restraint := rfl

@[simp] theorem State.setPort_vehicle (s : State) (p : Port) (x : PortState) :
    (s.setPort p x).vehicle = s.vehicle := rfl

@[simp] theorem State.setPort_freeCount (s : State) (p : Port) (x : PortState) :
    (s.setPort p x).freeCount = s.freeCount := rfl

@[simp] theorem State.setPort_pending (s : State) (p : Port) (x : PortState) :
    (s.setPort p x).pending = s.pending := rfl

@[simp] theorem State.setPort_incoming (s : State) (p : Port) (x : PortState) :
    (s.setPort p x).incoming = s.incoming := rfl

/-! ### A line is replaced: every other field is kept -/

@[simp] theorem State.setLine_phase (s : State) (l : Line) (x : LineState) :
    (s.setLine l x).phase = s.phase := rfl

@[simp] theorem State.setLine_config (s : State) (l : Line) (x : LineState) :
    (s.setLine l x).config = s.config := rfl

@[simp] theorem State.setLine_configState (s : State) (l : Line) (x : LineState) :
    (s.setLine l x).configState = s.configState := rfl

@[simp] theorem State.setLine_store (s : State) (l : Line) (x : LineState) :
    (s.setLine l x).store = s.store := rfl

@[simp] theorem State.setLine_saveImage (s : State) (l : Line) (x : LineState) :
    (s.setLine l x).saveImage = s.saveImage := rfl

@[simp] theorem State.setLine_staging (s : State) (l : Line) (x : LineState) :
    (s.setLine l x).staging = s.staging := rfl

@[simp] theorem State.setLine_positions (s : State) (l : Line) (x : LineState) :
    (s.setLine l x).positions = s.positions := rfl

@[simp] theorem State.setLine_capture (s : State) (l : Line) (x : LineState) :
    (s.setLine l x).capture = s.capture := rfl

@[simp] theorem State.setLine_reminderTimer (s : State) (l : Line) (x : LineState) :
    (s.setLine l x).reminderTimer = s.reminderTimer := rfl

@[simp] theorem State.setLine_restraint (s : State) (l : Line) (x : LineState) :
    (s.setLine l x).restraint = s.restraint := rfl

@[simp] theorem State.setLine_vehicle (s : State) (l : Line) (x : LineState) :
    (s.setLine l x).vehicle = s.vehicle := rfl

@[simp] theorem State.setLine_ports (s : State) (l : Line) (x : LineState) :
    (s.setLine l x).ports = s.ports := rfl

@[simp] theorem State.setLine_freeCount (s : State) (l : Line) (x : LineState) :
    (s.setLine l x).freeCount = s.freeCount := rfl

@[simp] theorem State.setLine_pending (s : State) (l : Line) (x : LineState) :
    (s.setLine l x).pending = s.pending := rfl

@[simp] theorem State.setLine_incoming (s : State) (l : Line) (x : LineState) :
    (s.setLine l x).incoming = s.incoming := rfl

/-! ### A node record is replaced: every other field is kept -/

@[simp] theorem State.setNode_phase (s : State) (l : Line) (a : Fin 6) (r : NodeRec) :
    (s.setNode l a r).phase = s.phase := rfl

@[simp] theorem State.setNode_config (s : State) (l : Line) (a : Fin 6) (r : NodeRec) :
    (s.setNode l a r).config = s.config := rfl

@[simp] theorem State.setNode_configState (s : State) (l : Line) (a : Fin 6) (r : NodeRec) :
    (s.setNode l a r).configState = s.configState := rfl

@[simp] theorem State.setNode_store (s : State) (l : Line) (a : Fin 6) (r : NodeRec) :
    (s.setNode l a r).store = s.store := rfl

@[simp] theorem State.setNode_saveImage (s : State) (l : Line) (a : Fin 6) (r : NodeRec) :
    (s.setNode l a r).saveImage = s.saveImage := rfl

@[simp] theorem State.setNode_staging (s : State) (l : Line) (a : Fin 6) (r : NodeRec) :
    (s.setNode l a r).staging = s.staging := rfl

@[simp] theorem State.setNode_positions (s : State) (l : Line) (a : Fin 6) (r : NodeRec) :
    (s.setNode l a r).positions = s.positions := rfl

@[simp] theorem State.setNode_capture (s : State) (l : Line) (a : Fin 6) (r : NodeRec) :
    (s.setNode l a r).capture = s.capture := rfl

@[simp] theorem State.setNode_reminderTimer (s : State) (l : Line) (a : Fin 6) (r : NodeRec) :
    (s.setNode l a r).reminderTimer = s.reminderTimer := rfl

@[simp] theorem State.setNode_restraint (s : State) (l : Line) (a : Fin 6) (r : NodeRec) :
    (s.setNode l a r).restraint = s.restraint := rfl

@[simp] theorem State.setNode_vehicle (s : State) (l : Line) (a : Fin 6) (r : NodeRec) :
    (s.setNode l a r).vehicle = s.vehicle := rfl

@[simp] theorem State.setNode_ports (s : State) (l : Line) (a : Fin 6) (r : NodeRec) :
    (s.setNode l a r).ports = s.ports := rfl

@[simp] theorem State.setNode_freeCount (s : State) (l : Line) (a : Fin 6) (r : NodeRec) :
    (s.setNode l a r).freeCount = s.freeCount := rfl

@[simp] theorem State.setNode_pending (s : State) (l : Line) (a : Fin 6) (r : NodeRec) :
    (s.setNode l a r).pending = s.pending := rfl

@[simp] theorem State.setNode_incoming (s : State) (l : Line) (a : Fin 6) (r : NodeRec) :
    (s.setNode l a r).incoming = s.incoming := rfl

/-! ### The scan mode is changed: every other field is kept -/

@[simp] theorem State.setMode_phase (s : State) (m : ScanMode) :
    (s.setMode m).phase = s.phase := rfl

@[simp] theorem State.setMode_config (s : State) (m : ScanMode) :
    (s.setMode m).config = s.config := rfl

@[simp] theorem State.setMode_configState (s : State) (m : ScanMode) :
    (s.setMode m).configState = s.configState := rfl

@[simp] theorem State.setMode_store (s : State) (m : ScanMode) :
    (s.setMode m).store = s.store := rfl

@[simp] theorem State.setMode_saveImage (s : State) (m : ScanMode) :
    (s.setMode m).saveImage = s.saveImage := rfl

@[simp] theorem State.setMode_staging (s : State) (m : ScanMode) :
    (s.setMode m).staging = s.staging := rfl

@[simp] theorem State.setMode_positions (s : State) (m : ScanMode) :
    (s.setMode m).positions = s.positions := rfl

@[simp] theorem State.setMode_capture (s : State) (m : ScanMode) :
    (s.setMode m).capture = s.capture := rfl

@[simp] theorem State.setMode_reminderTimer (s : State) (m : ScanMode) :
    (s.setMode m).reminderTimer = s.reminderTimer := rfl

@[simp] theorem State.setMode_restraint (s : State) (m : ScanMode) :
    (s.setMode m).restraint = s.restraint := rfl

@[simp] theorem State.setMode_ports (s : State) (m : ScanMode) :
    (s.setMode m).ports = s.ports := rfl

@[simp] theorem State.setMode_freeCount (s : State) (m : ScanMode) :
    (s.setMode m).freeCount = s.freeCount := rfl

@[simp] theorem State.setMode_pending (s : State) (m : ScanMode) :
    (s.setMode m).pending = s.pending := rfl

@[simp] theorem State.setMode_incoming (s : State) (m : ScanMode) :
    (s.setMode m).incoming = s.incoming := rfl

/-! ### The eco countdown is judged: every other field is kept -/

@[simp] theorem State.judgeEco_phase (s : State) :
    (s.judgeEco).phase = s.phase := rfl

@[simp] theorem State.judgeEco_config (s : State) :
    (s.judgeEco).config = s.config := rfl

@[simp] theorem State.judgeEco_configState (s : State) :
    (s.judgeEco).configState = s.configState := rfl

@[simp] theorem State.judgeEco_store (s : State) :
    (s.judgeEco).store = s.store := rfl

@[simp] theorem State.judgeEco_saveImage (s : State) :
    (s.judgeEco).saveImage = s.saveImage := rfl

@[simp] theorem State.judgeEco_staging (s : State) :
    (s.judgeEco).staging = s.staging := rfl

@[simp] theorem State.judgeEco_scanner (s : State) :
    (s.judgeEco).scanner = s.scanner := rfl

@[simp] theorem State.judgeEco_positions (s : State) :
    (s.judgeEco).positions = s.positions := rfl

@[simp] theorem State.judgeEco_capture (s : State) :
    (s.judgeEco).capture = s.capture := rfl

@[simp] theorem State.judgeEco_reminderTimer (s : State) :
    (s.judgeEco).reminderTimer = s.reminderTimer := rfl

@[simp] theorem State.judgeEco_restraint (s : State) :
    (s.judgeEco).restraint = s.restraint := rfl

@[simp] theorem State.judgeEco_ports (s : State) :
    (s.judgeEco).ports = s.ports := rfl

@[simp] theorem State.judgeEco_freeCount (s : State) :
    (s.judgeEco).freeCount = s.freeCount := rfl

@[simp] theorem State.judgeEco_pending (s : State) :
    (s.judgeEco).pending = s.pending := rfl

@[simp] theorem State.judgeEco_incoming (s : State) :
    (s.judgeEco).incoming = s.incoming := rfl

/-! ### The eco countdown starts again: every other field is kept -/

@[simp] theorem State.restartEco_phase (s : State) :
    (s.restartEco).phase = s.phase := rfl

@[simp] theorem State.restartEco_config (s : State) :
    (s.restartEco).config = s.config := rfl

@[simp] theorem State.restartEco_configState (s : State) :
    (s.restartEco).configState = s.configState := rfl

@[simp] theorem State.restartEco_store (s : State) :
    (s.restartEco).store = s.store := rfl

@[simp] theorem State.restartEco_saveImage (s : State) :
    (s.restartEco).saveImage = s.saveImage := rfl

@[simp] theorem State.restartEco_staging (s : State) :
    (s.restartEco).staging = s.staging := rfl

@[simp] theorem State.restartEco_scanner (s : State) :
    (s.restartEco).scanner = s.scanner := rfl

@[simp] theorem State.restartEco_positions (s : State) :
    (s.restartEco).positions = s.positions := rfl

@[simp] theorem State.restartEco_capture (s : State) :
    (s.restartEco).capture = s.capture := rfl

@[simp] theorem State.restartEco_reminderTimer (s : State) :
    (s.restartEco).reminderTimer = s.reminderTimer := rfl

@[simp] theorem State.restartEco_restraint (s : State) :
    (s.restartEco).restraint = s.restraint := rfl

@[simp] theorem State.restartEco_ports (s : State) :
    (s.restartEco).ports = s.ports := rfl

@[simp] theorem State.restartEco_freeCount (s : State) :
    (s.restartEco).freeCount = s.freeCount := rfl

@[simp] theorem State.restartEco_pending (s : State) :
    (s.restartEco).pending = s.pending := rfl

@[simp] theorem State.restartEco_incoming (s : State) :
    (s.restartEco).incoming = s.incoming := rfl

/-! ### A notice is posted: every other field is kept -/

@[simp] theorem State.post_phase (s : State) (p : Port) (k : NoticeKind) (n : Nat) (x : Half) :
    (s.post p k n x).phase = s.phase := rfl

@[simp] theorem State.post_config (s : State) (p : Port) (k : NoticeKind) (n : Nat) (x : Half) :
    (s.post p k n x).config = s.config := rfl

@[simp] theorem State.post_configState (s : State) (p : Port) (k : NoticeKind) (n : Nat) (x : Half) :
    (s.post p k n x).configState = s.configState := rfl

@[simp] theorem State.post_store (s : State) (p : Port) (k : NoticeKind) (n : Nat) (x : Half) :
    (s.post p k n x).store = s.store := rfl

@[simp] theorem State.post_saveImage (s : State) (p : Port) (k : NoticeKind) (n : Nat) (x : Half) :
    (s.post p k n x).saveImage = s.saveImage := rfl

@[simp] theorem State.post_staging (s : State) (p : Port) (k : NoticeKind) (n : Nat) (x : Half) :
    (s.post p k n x).staging = s.staging := rfl

@[simp] theorem State.post_scanner (s : State) (p : Port) (k : NoticeKind) (n : Nat) (x : Half) :
    (s.post p k n x).scanner = s.scanner := rfl

@[simp] theorem State.post_positions (s : State) (p : Port) (k : NoticeKind) (n : Nat) (x : Half) :
    (s.post p k n x).positions = s.positions := rfl

@[simp] theorem State.post_capture (s : State) (p : Port) (k : NoticeKind) (n : Nat) (x : Half) :
    (s.post p k n x).capture = s.capture := rfl

@[simp] theorem State.post_reminderTimer (s : State) (p : Port) (k : NoticeKind) (n : Nat) (x : Half) :
    (s.post p k n x).reminderTimer = s.reminderTimer := rfl

@[simp] theorem State.post_restraint (s : State) (p : Port) (k : NoticeKind) (n : Nat) (x : Half) :
    (s.post p k n x).restraint = s.restraint := rfl

@[simp] theorem State.post_vehicle (s : State) (p : Port) (k : NoticeKind) (n : Nat) (x : Half) :
    (s.post p k n x).vehicle = s.vehicle := rfl

@[simp] theorem State.post_freeCount (s : State) (p : Port) (k : NoticeKind) (n : Nat) (x : Half) :
    (s.post p k n x).freeCount = s.freeCount := rfl

@[simp] theorem State.post_pending (s : State) (p : Port) (k : NoticeKind) (n : Nat) (x : Half) :
    (s.post p k n x).pending = s.pending := rfl

@[simp] theorem State.post_incoming (s : State) (p : Port) (k : NoticeKind) (n : Nat) (x : Half) :
    (s.post p k n x).incoming = s.incoming := rfl

/-! ### An attention line is judged: every other field is kept -/

@[simp] theorem State.judgeAttention_phase (s : State) (p : Port) :
    (s.judgeAttention p).phase = s.phase := rfl

@[simp] theorem State.judgeAttention_config (s : State) (p : Port) :
    (s.judgeAttention p).config = s.config := rfl

@[simp] theorem State.judgeAttention_configState (s : State) (p : Port) :
    (s.judgeAttention p).configState = s.configState := rfl

@[simp] theorem State.judgeAttention_store (s : State) (p : Port) :
    (s.judgeAttention p).store = s.store := rfl

@[simp] theorem State.judgeAttention_saveImage (s : State) (p : Port) :
    (s.judgeAttention p).saveImage = s.saveImage := rfl

@[simp] theorem State.judgeAttention_staging (s : State) (p : Port) :
    (s.judgeAttention p).staging = s.staging := rfl

@[simp] theorem State.judgeAttention_scanner (s : State) (p : Port) :
    (s.judgeAttention p).scanner = s.scanner := rfl

@[simp] theorem State.judgeAttention_positions (s : State) (p : Port) :
    (s.judgeAttention p).positions = s.positions := rfl

@[simp] theorem State.judgeAttention_capture (s : State) (p : Port) :
    (s.judgeAttention p).capture = s.capture := rfl

@[simp] theorem State.judgeAttention_reminderTimer (s : State) (p : Port) :
    (s.judgeAttention p).reminderTimer = s.reminderTimer := rfl

@[simp] theorem State.judgeAttention_restraint (s : State) (p : Port) :
    (s.judgeAttention p).restraint = s.restraint := rfl

@[simp] theorem State.judgeAttention_vehicle (s : State) (p : Port) :
    (s.judgeAttention p).vehicle = s.vehicle := rfl

@[simp] theorem State.judgeAttention_freeCount (s : State) (p : Port) :
    (s.judgeAttention p).freeCount = s.freeCount := rfl

@[simp] theorem State.judgeAttention_pending (s : State) (p : Port) :
    (s.judgeAttention p).pending = s.pending := rfl

@[simp] theorem State.judgeAttention_incoming (s : State) (p : Port) :
    (s.judgeAttention p).incoming = s.incoming := rfl

/-! ### A position's reminder is replaced: every other field is kept -/

@[simp] theorem State.setReminder_phase (s : State) (p : Pos) (r : ReminderRec) :
    (s.setReminder p r).phase = s.phase := rfl

@[simp] theorem State.setReminder_config (s : State) (p : Pos) (r : ReminderRec) :
    (s.setReminder p r).config = s.config := rfl

@[simp] theorem State.setReminder_configState (s : State) (p : Pos) (r : ReminderRec) :
    (s.setReminder p r).configState = s.configState := rfl

@[simp] theorem State.setReminder_store (s : State) (p : Pos) (r : ReminderRec) :
    (s.setReminder p r).store = s.store := rfl

@[simp] theorem State.setReminder_saveImage (s : State) (p : Pos) (r : ReminderRec) :
    (s.setReminder p r).saveImage = s.saveImage := rfl

@[simp] theorem State.setReminder_staging (s : State) (p : Pos) (r : ReminderRec) :
    (s.setReminder p r).staging = s.staging := rfl

@[simp] theorem State.setReminder_scanner (s : State) (p : Pos) (r : ReminderRec) :
    (s.setReminder p r).scanner = s.scanner := rfl

@[simp] theorem State.setReminder_capture (s : State) (p : Pos) (r : ReminderRec) :
    (s.setReminder p r).capture = s.capture := rfl

@[simp] theorem State.setReminder_reminderTimer (s : State) (p : Pos) (r : ReminderRec) :
    (s.setReminder p r).reminderTimer = s.reminderTimer := rfl

@[simp] theorem State.setReminder_restraint (s : State) (p : Pos) (r : ReminderRec) :
    (s.setReminder p r).restraint = s.restraint := rfl

@[simp] theorem State.setReminder_vehicle (s : State) (p : Pos) (r : ReminderRec) :
    (s.setReminder p r).vehicle = s.vehicle := rfl

@[simp] theorem State.setReminder_ports (s : State) (p : Pos) (r : ReminderRec) :
    (s.setReminder p r).ports = s.ports := rfl

@[simp] theorem State.setReminder_freeCount (s : State) (p : Pos) (r : ReminderRec) :
    (s.setReminder p r).freeCount = s.freeCount := rfl

@[simp] theorem State.setReminder_pending (s : State) (p : Pos) (r : ReminderRec) :
    (s.setReminder p r).pending = s.pending := rfl

@[simp] theorem State.setReminder_incoming (s : State) (p : Pos) (r : ReminderRec) :
    (s.setReminder p r).incoming = s.incoming := rfl

end Sys2Proof.Machine
end

