-- ==== Sys2Proof/Laws/Ops.lean ====
section
/-! SUPPORT. What the shared operations do, each said once: walking the positions, posting notices, and taking a frame on a
port. -/

namespace Sys2Proof.Machine

/-! ## Walking the positions -/

@[simp] theorem State.forPositions_nil (f : Pos → State → State) (s : State) : s.forPositions [] f = s := rfl

@[simp] theorem State.forPositions_cons (p : Pos) (ps : List Pos) (f : Pos → State → State) (s : State) :
    s.forPositions (p :: ps) f = (f p s).forPositions ps f := rfl

/-- What every visit keeps, the whole walk keeps. -/
theorem State.forPositions_keeps {P : State → Prop} {f : Pos → State → State} (h : ∀ p s, P s → P (f p s)) (ps : List Pos)
    (s : State) (hs : P s) : P (s.forPositions ps f) := by
  induction ps generalizing s with
  | nil => exact hs
  | cons p ps ih => exact ih _ (h p s hs)

/-- What no visit changes, the whole walk does not change. -/
theorem State.forPositions_reads {α : Type} {g : State → α} {f : Pos → State → State} (h : ∀ p s, g (f p s) = g s)
    (ps : List Pos) (s : State) : g (s.forPositions ps f) = g s := by
  induction ps generalizing s with
  | nil => rfl
  | cons p ps ih => exact (ih _).trans (h p s)

/-- A walk whose visits each leave every other position's record leaves the records of positions it does not visit. -/
theorem State.forPositions_pos_of_not_mem {f : Pos → State → State} (h : ∀ p q s, q ≠ p → (f p s).pos q = s.pos q)
    (ps : List Pos) (s : State) (q : Pos) (hq : q ∉ ps) : (s.forPositions ps f).pos q = s.pos q := by
  induction ps generalizing s with
  | nil => rfl
  | cons p ps ih =>
    rw [List.mem_cons, not_or] at hq
    exact (ih _ hq.2).trans (h p q s hq.1)

/-- Every position is listed. -/
theorem mem_allPos (p : Pos) : p ∈ allPos := by revert p; decide

/-- No position is listed twice. -/
theorem allPos_nodup : allPos.Nodup := by decide

/-! ## Notices -/

/-- The port that a notice is posted to receives it, and its line is judged; no other port changes. -/
@[simp] theorem State.port_post (s : State) (p q : Port) (k : NoticeKind) (n : Nat) (x : Half) :
    (s.post p k n x).port q =
      if q = p then
        let r := (s.port p).receive k n x s.scanner.number
        { r with attention := (s.setPort p r).wantsAttention p }
      else s.port q := by
  simp only [State.post, State.judgeAttention, State.port_setPort]
  by_cases h : q = p
  · subst h; simp
  · simp [h]

/-- Whether a line is wanted depends on the settings and the queue alone. -/
theorem State.wantsAttention_congr {s t : State} {p : Port} (hs : t.config.settings = s.config.settings)
    (hq : (t.port p).queue = (s.port p).queue) : t.wantsAttention p = s.wantsAttention p := by
  simp only [State.wantsAttention, State.ageLimit, hs, hq]
  rfl

/-- Receiving a notice keeps the reply, the assembler and the drop count. -/
@[simp] theorem PortState.receive_reply (x : PortState) (k : NoticeKind) (n : Nat) (v w : Half) :
    (x.receive k n v w).reply = x.reply := by
  unfold PortState.receive; split <;> [rfl; (split <;> rfl)]

@[simp] theorem PortState.receive_assembler (x : PortState) (k : NoticeKind) (n : Nat) (v w : Half) :
    (x.receive k n v w).assembler = x.assembler := by
  unfold PortState.receive; split <;> [rfl; (split <;> rfl)]

@[simp] theorem PortState.receive_drops (x : PortState) (k : NoticeKind) (n : Nat) (v w : Half) :
    (x.receive k n v w).drops = x.drops := by
  unfold PortState.receive; split <;> [rfl; (split <;> rfl)]

/-- A queue that receives a notice: updated in place when it holds the kind and subject, or longer by one, or full. -/
theorem PortState.receive_queue (x : PortState) (k : NoticeKind) (n : Nat) (v w : Half) :
    ((x.receive k n v w).queue = coalesce x.queue k n v w ∧ x.queue.any (·.about k n) = true) ∨
    ((x.receive k n v w).queue = x.queue ++ [{ kind := k, subject := n, payload := v, scan := w, waited := 0 }] ∧
      x.queue.any (·.about k n) = false ∧ x.queue.length < queueLimit) ∨
    ((x.receive k n v w).queue = x.queue ∧ x.queue.any (·.about k n) = false ∧ queueLimit ≤ x.queue.length) := by
  unfold PortState.receive
  split
  · exact .inl ⟨rfl, ‹_›⟩
  · next h =>
    rw [Bool.not_eq_true] at h
    split
    · exact .inr (.inl ⟨rfl, h, ‹_›⟩)
    · exact .inr (.inr ⟨rfl, h, Nat.le_of_not_lt ‹_›⟩)

/-- Coalescing keeps the kinds and subjects in their places. -/
@[simp] theorem coalesce_keys (q : List Notice) (k : NoticeKind) (n : Nat) (v w : Half) :
    (coalesce q k n v w).map (fun x => (x.kind, x.subject)) = q.map fun x => (x.kind, x.subject) := by
  simp only [coalesce, List.map_map]
  refine List.map_congr_left fun x _ => ?_
  simp only [Function.comp_apply]
  split <;> rfl

/-- A legal queue stays legal when it receives a notice (R142). -/
theorem PortState.receive_queueLegal {x : PortState} (h : queueLegal x.queue) (k : NoticeKind) (n : Nat) (v w : Half) :
    queueLegal (x.receive k n v w).queue := by
  obtain ⟨hq, -⟩ | ⟨hq, hn, hl⟩ | ⟨hq, -, -⟩ := x.receive_queue k n v w
  · rw [hq]
    refine ⟨?_, ?_⟩
    · have := congrArg List.length (coalesce_keys x.queue k n v w)
      simp only [List.length_map] at this
      omega
    · rw [coalesce_keys]; exact h.2
  · rw [hq]
    refine ⟨by simp only [List.length_append, List.length_singleton]; omega, ?_⟩
    rw [List.map_append, List.nodup_append]
    refine ⟨h.2, List.nodup_singleton _, ?_⟩
    intro a ha b hb
    simp only [List.map_cons, List.map_nil, List.mem_singleton] at hb
    subst hb
    rintro rfl
    obtain ⟨y, hy, he⟩ := List.mem_map.1 ha
    rw [List.any_eq_false] at hn
    refine hn y hy ?_
    simp only [Prod.mk.injEq] at he
    simp [Notice.about, he.1, he.2]
  · rw [hq]; exact h

/-- Posting keeps every queue legal (R142). -/
theorem State.post_queuesLegal {s : State} (h : s.QueuesLegal) (p : Port) (k : NoticeKind) (n : Nat) (x : Half) :
    (s.post p k n x).QueuesLegal := by
  obtain ⟨hs, hc, hv⟩ := h
  cases p
  · exact ⟨PortState.receive_queueLegal hs _ _ _ _, hc, hv⟩
  · exact ⟨hs, PortState.receive_queueLegal hc _ _ _ _, hv⟩
  · exact ⟨hs, hc, PortState.receive_queueLegal hv _ _ _ _⟩

/-- A posted notice stands in the queue unless the queue was full. -/
theorem PortState.receive_mem (x : PortState) (k : NoticeKind) (n : Nat) (v w : Half) (h : x.queue.length < queueLimit) :
    ∃ m ∈ (x.receive k n v w).queue, m.kind = k ∧ m.subject = n ∧ m.payload = v ∧ m.scan = w := by
  obtain ⟨hq, hm⟩ | ⟨hq, -, -⟩ | ⟨-, -, hl⟩ := x.receive_queue k n v w
  · obtain ⟨m, hm, ha⟩ := List.any_eq_true.1 hm
    refine ⟨{ m with payload := v, scan := w }, ?_, ?_⟩
    · rw [hq, coalesce]
      exact List.mem_map.2 ⟨m, hm, by simp [ha]⟩
    · simpa [Notice.about] using ha
  · exact ⟨_, by rw [hq]; exact List.mem_append_right _ (List.mem_singleton_self _), rfl, rfl, rfl, rfl⟩
  · omega

/-! ## The eco countdown -/

/-- The judged countdown. -/
@[simp] theorem State.judgeEco_eco (s : State) :
    s.judgeEco.vehicle.eco = if s.ecoConditions then some (s.vehicle.eco.getD s.ecoFull) else none := rfl

@[simp] theorem State.judgeEco_mode (s : State) : s.judgeEco.vehicle.mode = s.vehicle.mode := rfl

/-- Judging the countdown changes nothing else. -/
@[simp] theorem State.ecoBack_judgeEco (s t : State) : s.ecoBack t.judgeEco = s.ecoBack t := rfl

/-- The conditions of the countdown do not read it. -/
@[simp] theorem State.judgeEco_ecoConditions (s : State) : s.judgeEco.ecoConditions = s.ecoConditions := rfl

@[simp] theorem State.judgeEco_ecoFull (s : State) : s.judgeEco.ecoFull = s.ecoFull := rfl

/-! ## Frames on the ports -/

/-- Reporting a frame changes only the scan mode, the scan timer and the eco countdown. -/
theorem State.putBack_frameReported (s t : State) : s.putBack t.frameReported = s.putBack t := by
  unfold State.frameReported State.wake; split
  · rfl
  · rfl

/-- A received frame changes only what every frame may. -/
@[simp] theorem State.putBack_received (s : State) (p : Port) : s.putBack (s.received p) = s := by
  rw [State.received, State.putBack_frameReported]; rfl

/-- After a frame is reported the mode is RUN. -/
@[simp] theorem State.frameReported_mode (s : State) : s.frameReported.vehicle.mode = .run := by
  unfold State.frameReported State.wake; split
  · rfl
  · cases h : s.vehicle.mode <;> simp_all [State.restartEco]

@[simp] theorem State.received_mode (s : State) (p : Port) : (s.received p).vehicle.mode = .run := State.frameReported_mode _

/-- A frame reported in ECO starts the scan timer afresh. -/
@[simp] theorem State.frameReported_timer (s : State) :
    s.frameReported.scanner.timer = if s.vehicle.mode = .eco then some Config.runPeriod else s.scanner.timer := by
  unfold State.frameReported State.wake; split
  · rfl
  · rfl

@[simp] theorem State.received_timer (s : State) (p : Port) :
    (s.received p).scanner.timer = if s.vehicle.mode = .eco then some Config.runPeriod else s.scanner.timer :=
  State.frameReported_timer _

/-- After a frame is reported the countdown stands at full, or does not run. -/
theorem State.frameReported_eco (s : State) :
    s.frameReported.vehicle.eco = none ∨ s.frameReported.vehicle.eco = some s.ecoFull := by
  unfold State.frameReported State.wake; split
  · rw [State.judgeEco_eco]
    split
    · exact .inr rfl
    · exact .inl rfl
  · cases h : s.vehicle.eco <;> simp [State.restartEco, h]

theorem State.received_eco (s : State) (p : Port) :
    (s.received p).vehicle.eco = none ∨ (s.received p).vehicle.eco = some s.ecoFull := State.frameReported_eco _

/-- The ports of a state in which a frame is judged. -/
@[simp] theorem State.frameReported_ports (s : State) : s.frameReported.ports = s.ports := by
  unfold State.frameReported State.wake; split
  · rfl
  · rfl

@[simp] theorem State.received_port (s : State) (p q : Port) :
    (s.received p).port q = if q = p then { s.port p with assembler := .idle } else s.port q := by
  have : (s.received p).port q = (s.setPort p { s.port p with assembler := .idle }).port q := by
    simp only [State.port, State.received, State.frameReported_ports]
  rw [this, State.port_setPort]

/-- A sound frame of a permitted command is judged by the command's own rule (R137). -/
theorem State.judgeFrame_sound {s : State} {p : Port} {cmd : Byte} {ops : List Byte} {chk : Byte} {act : State → Answer}
    (hs : soundFrame cmd ops chk) (hk : (operandLength cmd).isSome = true) (hp : permitted p cmd = true) :
    s.judgeFrame p cmd ops chk act = act s := by
  unfold State.judgeFrame
  rw [if_neg (fun h => h hs), if_neg (by cases h : operandLength cmd <;> simp_all), if_neg (by simp [hp])]

/-- A frame that a ready port takes is judged and answered (R136). -/
theorem State.takeFrame_taken {s : State} {p : Port} {cmd : Byte} {ops : List Byte} {chk : Byte} {act : State → Answer}
    (hr : s.ready p) :
    s.takeFrame p cmd ops chk act =
      (((s.received p).judgeFrame p cmd ops chk act).state.sendReply p
        (replyBytes cmd ((s.received p).judgeFrame p cmd ops chk act).status
          ((s.received p).judgeFrame p cmd ops chk act).data)).judgeEco := by
  obtain ⟨hrun, hd, hrep⟩ := hr
  unfold State.takeFrame
  rw [if_neg (by simp [State.listening, hrun, hd]), if_neg (by simp [hrep])]
  rfl

/-- A sound frame of a permitted command that a ready port takes is answered by the command's own rule (R136, R137). -/
theorem State.takeFrame_ready {s : State} {p : Port} {cmd : Byte} {ops : List Byte} {chk : Byte} {act : State → Answer}
    (hr : s.ready p) (hs : soundFrame cmd ops chk) (hk : (operandLength cmd).isSome = true) (hp : permitted p cmd = true) :
    s.takeFrame p cmd ops chk act =
      ((act (s.received p)).state.sendReply p
        (replyBytes cmd (act (s.received p)).status (act (s.received p)).data)).judgeEco := by
  rw [State.takeFrame_taken hr, State.judgeFrame_sound hs hk hp]

/-- The ports after a reply has begun. -/
@[simp] theorem State.port_answered (u : State) (p q : Port) (b : List Byte) :
    ((u.sendReply p b).judgeEco).port q = if q = p then { u.port p with reply := some b } else u.port q :=
  State.port_setPort u p q { u.port p with reply := some b }

/-- What a taken frame does to the scan mode, the scan timer and the eco countdown, for a command that leaves those alone. -/
theorem State.heard_of {s u : State} {p : Port} (b : List Byte) (hmode : u.vehicle.mode = .run)
    (htimer : u.scanner.timer = (s.received p).scanner.timer)
    (heco : u.vehicle.eco = none ∨ u.vehicle.eco = some s.ecoFull) (hset : u.config.settings = s.config.settings) :
    s.Heard ((u.sendReply p b).judgeEco) := by
  have hfull : (u.sendReply p b).ecoFull = s.ecoFull := by
    show u.config.settings.ecoTime * 1000 * Config.quantaPerMs = _
    rw [hset]; rfl
  refine ⟨hmode, htimer.trans (s.received_timer p), ?_⟩
  rw [State.judgeEco_eco, State.judgeEco_ecoConditions, State.judgeEco_ecoFull, hfull]
  refine if_congr Iff.rfl (congrArg some ?_) rfl
  show u.vehicle.eco.getD s.ecoFull = s.ecoFull
  rcases heco with h | h <;> rw [h] <;> rfl

/-- What a taken frame does to the ports, the scan mode, the scan timer and the eco countdown, for a command that leaves
those alone. -/
theorem State.answered_of {s u : State} {p : Port} {cmd : Byte} {st : Status} {data : List Byte}
    (hports : u.ports = (s.received p).ports) (hmode : u.vehicle.mode = .run)
    (htimer : u.scanner.timer = (s.received p).scanner.timer) (heco : u.vehicle.eco = (s.received p).vehicle.eco)
    (hset : u.config.settings = s.config.settings) :
    s.Answered ((u.sendReply p (replyBytes cmd st data)).judgeEco) p cmd st data ∧
      s.putBack ((u.sendReply p (replyBytes cmd st data)).judgeEco) = s.putBack u := by
  have hport (q : Port) : u.port q = (s.received p).port q := by simp only [State.port, hports]
  refine ⟨⟨State.heard_of _ hmode htimer (heco ▸ s.received_eco p) hset, ?_, fun q hq => ?_⟩, rfl⟩
  · rw [State.port_answered, if_pos rfl, hport, State.received_port, if_pos rfl]
  · rw [State.port_answered, if_neg hq, hport, State.received_port, if_neg hq]

/-- What a taken frame does, for a command that leaves the scan mode, the scan timer and the eco countdown alone. -/
theorem State.takeFrame_effect {s u : State} {p : Port} {cmd : Byte} {ops : List Byte} {chk : Byte} {act : State → Answer}
    {st : Status} {data : List Byte} (hr : s.ready p) (hs : soundFrame cmd ops chk)
    (hk : (operandLength cmd).isSome = true) (hp : permitted p cmd = true)
    (hact : act (s.received p) = { state := u, status := st, data := data }) (hmode : u.vehicle.mode = .run)
    (htimer : u.scanner.timer = (s.received p).scanner.timer)
    (heco : u.vehicle.eco = none ∨ u.vehicle.eco = some s.ecoFull) (hset : u.config.settings = s.config.settings) :
    ∃ t, s.takeFrame p cmd ops chk act = t ∧ s.Heard t ∧ t.replied p cmd st data ∧ s.putBack t = s.putBack u ∧
      (∀ q, t.port q = if q = p then { u.port p with reply := some (replyBytes cmd st data) } else u.port q) ∧
      { t with ports := u.ports, vehicle := { t.vehicle with eco := u.vehicle.eco } } = u := by
  refine ⟨_, rfl, ?_⟩
  rw [State.takeFrame_ready hr hs hk hp, hact]
  refine ⟨State.heard_of _ hmode htimer heco hset, ?_, rfl, fun q => State.port_answered u p q _, rfl⟩
  rw [State.replied, State.port_answered, if_pos rfl]

/-- A taken command that answers from a state differing from the received one in nothing that a frame may change. -/
theorem State.takeFrame_answers {s u : State} {p : Port} {cmd : Byte} {ops : List Byte} {chk : Byte} {act : State → Answer}
    {st : Status} {data : List Byte} (hr : s.ready p) (hs : soundFrame cmd ops chk)
    (hk : (operandLength cmd).isSome = true) (hp : permitted p cmd = true)
    (hact : act (s.received p) = { state := u, status := st, data := data })
    (hports : u.ports = (s.received p).ports) (hmode : u.vehicle.mode = .run)
    (htimer : u.scanner.timer = (s.received p).scanner.timer) (heco : u.vehicle.eco = (s.received p).vehicle.eco)
    (hset : u.config.settings = s.config.settings) :
    s.Answered (s.takeFrame p cmd ops chk act) p cmd st data ∧ s.putBack (s.takeFrame p cmd ops chk act) = s.putBack u := by
  rw [State.takeFrame_ready hr hs hk hp, hact]
  exact State.answered_of hports hmode htimer heco hset

/-- Everything but the ports, the scan mode, the scan timer and the eco countdown stands in a received state as before. -/
theorem State.received_form (s : State) (p : Port) :
    s.received p =
      { s with
        ports := (s.received p).ports
        scanner := { s.scanner with timer := (s.received p).scanner.timer }
        vehicle := { s.vehicle with mode := (s.received p).vehicle.mode, eco := (s.received p).vehicle.eco } } := by
  have h := s.putBack_received p
  generalize s.received p = u at *
  exact congrArg (fun v : State => { v with
    ports := u.ports
    scanner := { v.scanner with timer := u.scanner.timer }
    vehicle := { v.vehicle with mode := u.vehicle.mode, eco := u.vehicle.eco } }) h

/-- A command that answers from the received state, changed by an operation that touches nothing a frame may always change,
leaves that operation's change alone. -/
theorem State.answers_of {s u : State} {i : Instr} {p : Port} {cmd : Byte} {ops : List Byte} {chk : Byte}
    {act : State → Answer} {st : Status} {data : List Byte}
    (hi : exec i s = .next (s.takeFrame p cmd ops chk act)) (hr : s.ready p) (hs : soundFrame cmd ops chk)
    (hk : (operandLength cmd).isSome = true) (hp : permitted p cmd = true)
    (hact : act (s.received p) = { state := u, status := st, data := data })
    (hports : u.ports = (s.received p).ports) (hmode : u.vehicle.mode = .run)
    (htimer : u.scanner.timer = (s.received p).scanner.timer) (heco : u.vehicle.eco = (s.received p).vehicle.eco)
    (hset : u.config.settings = s.config.settings) : s.Answers i p cmd st data (s.putBack u) :=
  let h := State.takeFrame_answers hr hs hk hp hact hports hmode htimer heco hset
  ⟨_, hi, h.1, h.2⟩

/-- A command that answers from the received state unchanged changes nothing but what every frame may. -/
theorem State.answers_unchanged {s : State} {i : Instr} {p : Port} {cmd : Byte} {ops : List Byte} {chk : Byte}
    {act : State → Answer} {st : Status} {data : List Byte}
    (hi : exec i s = .next (s.takeFrame p cmd ops chk act)) (hr : s.ready p) (hs : soundFrame cmd ops chk)
    (hk : (operandLength cmd).isSome = true) (hp : permitted p cmd = true)
    (hact : act (s.received p) = { state := s.received p, status := st, data := data }) : s.Answers i p cmd st data s := by
  have hset : (s.received p).config.settings = s.config.settings := by rw [s.received_form p]
  have h := State.answers_of hi hr hs hk hp hact rfl (s.received_mode p) rfl rfl hset
  rwa [s.putBack_received p] at h

/-- A received state is the state before with other ports, scan mode, scan timer and eco countdown. -/
theorem State.received_cases (s : State) (p : Port) : ∃ ports timer mode eco,
    s.received p =
      { s with
        ports := ports
        scanner := { s.scanner with timer := timer }
        vehicle := { s.vehicle with mode := mode, eco := eco } } := ⟨_, _, _, _, s.received_form p⟩

/-- The settings that stood when a frame arrived stand while it is judged. -/
@[simp] theorem State.received_config (s : State) (p : Port) : (s.received p).config = s.config := by rw [s.received_form p]

/-- The restraint interface that stood when a frame arrived stands while it is judged. -/
@[simp] theorem State.received_restraint (s : State) (p : Port) : (s.received p).restraint = s.restraint := by
  rw [s.received_form p]

/-- The positions that stood when a frame arrived stand while it is judged. -/
@[simp] theorem State.received_pos (s : State) (p : Port) (q : Pos) : (s.received p).pos q = s.pos q := by
  rw [s.received_form p]; rfl

/-- The staging area that stood when a frame arrived stands while it is judged. -/
@[simp] theorem State.received_staging (s : State) (p : Port) : (s.received p).staging = s.staging := by
  rw [s.received_form p]

/-! ## The service gate (R139) -/

/-- The gate as it is tried while a frame is judged. -/
@[simp] theorem State.received_gate (s : State) (p : Port) : (s.received p).gate = s.gate := by
  obtain ⟨ports, timer, mode, eco, h⟩ := s.received_cases p
  rw [h]; rfl

theorem State.gate_open {s : State} (h : s.gateOpen) : s.gate = none := by simp [State.gate, h.1, h.2.1, h.2.2]

theorem State.gate_locked {s : State} (h : s.standstill = false ∨ s.holdActive = true) : s.gate = some .locked := by
  rcases h with h | h <;> simp [State.gate, h]

theorem State.gate_busy {s : State} (hs : s.standstill = true) (hh : s.holdActive = false) (hv : s.saving = true) :
    s.gate = some .busy := by simp [State.gate, hs, hh, hv]

/-- A service write that goes through the gate. -/
theorem State.gated_open {s : State} (h : s.gateOpen) (p : Port) (g : Answer) : (s.received p).gated g = g := by
  rw [State.gated, State.received_gate, State.gate_open h]

/-- A service write that the gate refuses. -/
theorem State.gateRefuses_of {s : State} {i : Instr} {cmd : Byte} {ops : List Byte} {chk : Byte} {act : State → Answer}
    (g : Answer) (hi : exec i s = .next (s.takeFrame .service cmd ops chk act)) (hr : s.ready .service)
    (hs : soundFrame cmd ops chk) (hk : (operandLength cmd).isSome = true) (hp : permitted .service cmd = true)
    (hact : act (s.received .service) = (s.received .service).gated g) : s.GateRefuses i cmd := by
  refine ⟨fun h => ?_, fun a b c => ?_⟩
  · refine State.answers_unchanged hi hr hs hk hp ?_
    rw [hact, State.gated, State.received_gate, State.gate_locked h]; rfl
  · refine State.answers_unchanged hi hr hs hk hp ?_
    rw [hact, State.gated, State.received_gate, State.gate_busy a b c]; rfl

/-! ## Operands -/

/-- A byte that names a position. -/
theorem positionOf_eq {n : Byte} {p : Pos} (h : n.toNat = p.val + 1) : positionOf n = some p := by
  have hp := p.isLt
  unfold positionOf indexFromOne
  rw [dif_pos (by omega)]
  exact congrArg some (Fin.ext (by simp only; omega))

/-- A byte that names no position. -/
theorem positionOf_none {n : Byte} (h : n = 0 ∨ 16 < n.toNat) : positionOf n = none := by
  unfold positionOf indexFromOne
  rw [dif_neg]
  rcases h with rfl | h
  · decide
  · omega

/-! ## Events -/

/-- An event of the running part. -/
theorem State.event_running {s : State} (h : s.phase = .running) (f : State → State) : s.event f = (f s).judgeEco := by
  unfold State.event; rw [if_pos h]

/-- An event that finds nothing to act on. -/
theorem State.passes_of_id {s : State} {i : Instr} (h : s.phase = .running) {f : State → State}
    (hi : exec i s = .next (s.event f)) (hf : f s = s) : s.Passes i := by
  refine ⟨s.judgeEco, by rw [hi, State.event_running h, hf], rfl, rfl⟩

/-! ## Characters -/

/-- What a character on a port can do: nothing, where the port does not listen or discards; a frame discarded, where a reply is in
progress; one more character held; or a complete frame, with the assembler idle. -/
theorem State.receiveChar_cases (s : State) (p : Port) (b : Byte) :
    let bytes := (s.port p).assembler.received ++ [b]
    ((s.listening p = false ∨ (s.port p).assembler = .discarding) ∧ s.receiveChar p b = (s, none)) ∨
    (s.listening p = true ∧ (s.port p).assembler ≠ .discarding ∧
      (((s.port p).reply.isSome = true ∧ s.receiveChar p b = (s, some (.frameDiscarded p))) ∨
       ((s.port p).reply = none ∧ bytes.length < frameLength (byteAt bytes 0) ∧
         s.receiveChar p b = (s.setPort p { s.port p with assembler := .assembling bytes }, none)) ∨
       ((s.port p).reply = none ∧ frameLength (byteAt bytes 0) ≤ bytes.length ∧
         s.receiveChar p b = (s.setPort p { s.port p with assembler := .idle }, decodeFrame p bytes)))) := by
  intro bytes
  unfold State.receiveChar
  by_cases hl : s.listening p = false ∨ (s.port p).assembler = .discarding
  · exact .inl ⟨hl, if_pos (by simpa using hl)⟩
  · have hn := not_or.mp hl
    refine .inr ⟨by simpa using hn.1, hn.2, ?_⟩
    rw [if_neg (by simpa using hl)]
    by_cases hr : (s.port p).reply.isSome = true
    · exact .inl ⟨hr, if_pos hr⟩
    · refine .inr ?_
      rw [if_neg hr]
      have hn : (s.port p).reply = none := by simpa using hr
      by_cases hb : bytes.length < frameLength (byteAt bytes 0)
      · exact .inl ⟨hn, hb, if_pos hb⟩
      · exact .inr ⟨hn, Nat.le_of_not_lt hb, if_neg hb⟩

/-- A character leaves everything but the ports. -/
theorem State.receiveChar_rest (s : State) (p : Port) (b : Byte) :
    { (s.receiveChar p b).1 with ports := s.ports } = s := by
  rcases s.receiveChar_cases p b with ⟨-, h⟩ | ⟨-, -, ⟨-, h⟩ | ⟨-, -, h⟩ | ⟨-, -, h⟩⟩ <;> rw [h] <;> rfl

/-- A character leaves every other port. -/
theorem State.receiveChar_port (s : State) (p q : Port) (b : Byte) (h : q ≠ p) : (s.receiveChar p b).1.port q = s.port q := by
  rcases s.receiveChar_cases p b with ⟨-, k⟩ | ⟨-, -, ⟨-, k⟩ | ⟨-, -, k⟩ | ⟨-, -, k⟩⟩ <;> rw [k] <;>
    simp [State.port_setPort, h]

end Sys2Proof.Machine
end

