-- ==== Sys2Proof/Laws/Blocks.lean ====
section
/-! SUPPORT. What the operations of the blocks can change, each said once. An operation's frame is one equation: the state after it,
with the fields the operation may change put back, is the state before. -/

namespace Sys2Proof.Machine

/-! ## The reminder machine of one position -/

/-- t with what an operation of the reminder machine may change put back from s: the positions and the cabin port. -/
def State.reminderBack (s t : State) : State :=
  { t with positions := s.positions, ports := { t.ports with cabin := s.ports.cabin } }

/-- An operation of the reminder machine at a position: it changes that position's reminder and the cabin port alone. -/
structure State.ReminderFrame (s t : State) (p : Pos) : Prop where
  rest : s.reminderBack t = s
  others : ∀ q, q ≠ p → t.pos q = s.pos q
  own : { t.pos p with reminder := (s.pos p).reminder } = s.pos p

theorem State.ReminderFrame.refl (s : State) (p : Pos) : s.ReminderFrame s p := ⟨rfl, fun _ _ => rfl, rfl⟩

theorem State.ReminderFrame.trans {s t u : State} {p : Pos} (h : s.ReminderFrame t p) (k : t.ReminderFrame u p) :
    s.ReminderFrame u p := by
  refine ⟨?_, fun q hq => (k.others q hq).trans (h.others q hq), ?_⟩
  · exact (congrArg s.reminderBack k.rest).trans h.rest
  · exact (congrArg (fun r : PosRec => { r with reminder := (s.pos p).reminder }) k.own).trans h.own

theorem State.setReminder_frame (s : State) (p : Pos) (r : ReminderRec) : s.ReminderFrame (s.setReminder p r) p := by
  refine ⟨rfl, fun q hq => ?_, ?_⟩
  · rw [State.setReminder, State.pos_modPos, if_neg hq]
  · rw [State.setReminder, State.pos_modPos, if_pos rfl]

theorem State.postCabin_frame (s : State) (p : Pos) (k : NoticeKind) (n : Nat) (x : Half) :
    s.ReminderFrame (s.post .cabin k n x) p := ⟨rfl, fun _ _ => rfl, rfl⟩

theorem State.moveReminder_frame (s : State) (p : Pos) (step : ReminderStep) (timer : Nat) :
    s.ReminderFrame (s.moveReminder p step timer) p :=
  (s.setReminder_frame p _).trans (State.postCabin_frame _ p _ _ _)

/-- The record that a moved reminder has. -/
theorem State.moveReminder_reminder (s : State) (p : Pos) (step : ReminderStep) (timer : Nat) :
    ((s.moveReminder p step timer).pos p).reminder = { (s.pos p).reminder with step := step, timer := timer } := by
  have h : (s.moveReminder p step timer).pos p =
      (s.setReminder p { (s.pos p).reminder with step := step, timer := timer }).pos p := rfl
  rw [h, State.setReminder, State.pos_modPos, if_pos rfl]

theorem State.enterAudible_frame (s : State) (p : Pos) : s.ReminderFrame (s.enterAudible p) p := by
  have h := ((s.setReminder_frame p { (s.pos p).reminder with confirmed := false, reissues := 0, scans := 0 }).trans
    (State.moveReminder_frame _ p .audible s.config.settings.audibleTime)).trans
    (State.postCabin_frame _ p .audibleRequest (posNumber p) (payloadOf 0
      (((s.setReminder p { (s.pos p).reminder with confirmed := false, reissues := 0, scans := 0 }).moveReminder p .audible
        s.config.settings.audibleTime).pos p).reminder.reissues))
  unfold State.enterAudible
  simp only
  split
  · exact h.trans (State.moveReminder_frame _ p .lapsed 0)
  · exact h

theorem State.enterVisual_frame (s : State) (p : Pos) : s.ReminderFrame (s.enterVisual p) p := by
  unfold State.enterVisual
  simp only
  split
  · exact (s.moveReminder_frame p _ _).trans (State.enterAudible_frame _ p)
  · exact s.moveReminder_frame p _ _

theorem State.enterGrace_frame (s : State) (p : Pos) : s.ReminderFrame (s.enterGrace p) p := by
  unfold State.enterGrace
  simp only
  split
  · exact (s.moveReminder_frame p _ _).trans (State.enterVisual_frame _ p)
  · exact s.moveReminder_frame p _ _

/-- An evaluation changes only its position's reminder and the cabin port (R93 to R98). -/
theorem State.evaluate_frame (s : State) (p : Pos) : s.ReminderFrame (s.evaluate p) p := by
  unfold State.evaluate
  simp only
  split
  · split
    · exact s.enterGrace_frame p
    · exact .refl s p
  · split
    · exact s.moveReminder_frame p _ _
    · exact .refl s p
  · split
    · exact s.moveReminder_frame p _ _
    · split
      · exact s.enterAudible_frame p
      · exact .refl s p
  all_goals
    split
    · exact s.moveReminder_frame p _ _
    · exact .refl s p

/-- A counted scan changes only its position's reminder and the cabin port (R101). -/
theorem State.countScan_frame (s : State) (p : Pos) : s.ReminderFrame (s.countScan p) p := by
  unfold State.countScan
  simp only
  split
  · split
    · exact (s.setReminder_frame p _).trans (State.postCabin_frame _ p _ _ _)
    · exact s.setReminder_frame p _
  · exact .refl s p

/-! ## An outcome at a position -/

/-- t with what an outcome handed to positions may change put back from s: positions, ports, capture, staged entries, the decision
with its line, the scan mode, the scan timer and the eco countdown. -/
def State.outcomeBack (s t : State) : State :=
  { t with
    positions := s.positions
    ports := s.ports
    capture := s.capture
    staging := { t.staging with entries := s.staging.entries }
    restraint := { t.restraint with
      suppression := s.restraint.suppression, sequence := s.restraint.sequence, pso := s.restraint.pso }
    vehicle := { t.vehicle with mode := s.vehicle.mode, eco := s.vehicle.eco }
    scanner := { t.scanner with timer := s.scanner.timer } }

/-- An operation of the pipeline or the Classifier at one position: no other position's record changes, and nothing else that
`outcomeBack` does not name. -/
structure State.OutcomeFrame (s t : State) (p : Pos) : Prop where
  rest : s.outcomeBack t = s
  others : ∀ q, q ≠ p → t.pos q = s.pos q

theorem State.OutcomeFrame.refl (s : State) (p : Pos) : s.OutcomeFrame s p := ⟨rfl, fun _ _ => rfl⟩

theorem State.OutcomeFrame.trans {s t u : State} {p : Pos} (h : s.OutcomeFrame t p) (k : t.OutcomeFrame u p) :
    s.OutcomeFrame u p :=
  ⟨(congrArg s.outcomeBack k.rest).trans h.rest, fun q hq => (k.others q hq).trans (h.others q hq)⟩

theorem State.ReminderFrame.outcome {s t : State} {p : Pos} (h : s.ReminderFrame t p) : s.OutcomeFrame t p :=
  ⟨(congrArg s.outcomeBack h.rest : s.outcomeBack (s.reminderBack t) = s.outcomeBack s), h.others⟩

/-- A choice between two operations with the frame has it. -/
theorem State.OutcomeFrame.ite {c : Prop} [Decidable c] {s t u : State} {p : Pos} (h : s.OutcomeFrame t p)
    (k : s.OutcomeFrame u p) : s.OutcomeFrame (if c then t else u) p := by
  split
  · exact h
  · exact k

theorem State.modPos_outcome (s : State) (p : Pos) (f : PosRec → PosRec) : s.OutcomeFrame (s.modPos p f) p :=
  ⟨rfl, fun q hq => by rw [State.pos_modPos, if_neg hq]⟩

theorem State.post_outcome (s : State) (p : Pos) (port : Port) (k : NoticeKind) (n : Nat) (x : Half) :
    s.OutcomeFrame (s.post port k n x) p := ⟨rfl, fun _ _ => rfl⟩

theorem State.wake_outcome (s : State) (p : Pos) : s.OutcomeFrame s.wake p := by
  unfold State.wake
  split
  · exact ⟨rfl, fun _ _ => rfl⟩
  · exact .refl s p

/-- A derivation changes the decision with its line and the safety port alone (R107, R108). -/
theorem State.deriveSuppression_outcome (s : State) (p : Pos) : s.OutcomeFrame s.deriveSuppression p := by
  unfold State.deriveSuppression
  simp only
  split
  · exact .refl s p
  · exact ⟨rfl, fun _ _ => rfl⟩

/-- After a derivation the suppression state is the decision (R107). -/
theorem State.deriveSuppression_suppression (s : State) : s.deriveSuppression.restraint.suppression = s.decision := by
  unfold State.deriveSuppression
  simp only
  split
  · exact Eq.symm ‹_›
  · rfl

/-- The decision does not read what a derivation changes. -/
theorem State.deriveSuppression_decision (s : State) : s.deriveSuppression.decision = s.decision := by
  unfold State.deriveSuppression
  simp only
  split <;> rfl

theorem State.markWatched_outcome (s : State) (p : Pos) : s.OutcomeFrame (s.markWatched p) p :=
  .ite (s.modPos_outcome p _) (.refl s p)

theorem State.postClass_outcome (s : State) (p : Pos) : s.OutcomeFrame (s.postClass p) p :=
  (s.post_outcome p .safety _ _ _).trans (State.post_outcome _ p .cabin _ _ _)

theorem State.restartEco_outcome (s : State) (p : Pos) : s.OutcomeFrame s.restartEco p := ⟨rfl, fun _ _ => rfl⟩

/-- The effects of a class change stay at its position, the ports and the decision (R80). -/
theorem State.classEffects_outcome (s : State) (derive : Bool) (p : Pos) : s.OutcomeFrame (s.classEffects derive p) p := by
  unfold State.classEffects
  extract_lets raised told derived
  have h1 : s.OutcomeFrame raised p := s.modPos_outcome p _
  have h2 : raised.OutcomeFrame told p := (raised.postClass_outcome p).trans (State.evaluate_frame _ p).outcome
  have h3 : told.OutcomeFrame derived p := .ite (told.deriveSuppression_outcome p) (.refl told p)
  exact ((h1.trans h2).trans h3).trans ((derived.markWatched_outcome p).trans (State.restartEco_outcome _ p))

theorem State.changeClass_outcome (s : State) (derive : Bool) (cls : OccClass) (cause : FaultCause) (p : Pos) :
    s.OutcomeFrame (s.changeClass derive cls cause p) p :=
  (s.modPos_outcome p _).trans (State.classEffects_outcome _ derive p)

theorem State.applyDirect_outcome (s : State) (derive : Bool) (d : Direct) (p : Pos) :
    s.OutcomeFrame (s.applyDirect derive d p) p := by
  unfold State.applyDirect
  extract_lets cleared
  have h : s.OutcomeFrame cleared p := s.modPos_outcome p _
  exact .ite h (h.trans (cleared.changeClass_outcome derive _ _ p))

theorem State.returnUnresolved_outcome (s : State) (derive : Bool) (p : Pos) :
    s.OutcomeFrame (s.returnUnresolved derive p) p := by
  unfold State.returnUnresolved
  extract_lets was cleared
  have h : s.OutcomeFrame cleared p := s.modPos_outcome p _
  exact .ite (h.trans (cleared.modPos_outcome p _)) (h.trans (cleared.changeClass_outcome derive _ _ p))

theorem State.completeVote_outcome (s : State) (p : Pos) : s.OutcomeFrame (s.completeVote p) p := by
  unfold State.completeVote
  exact .ite (s.changeClass_outcome true _ _ p) (.refl s p)

theorem State.takeInstant_outcome (s : State) (matFault : Bool) (p : Pos) : s.OutcomeFrame (s.takeInstant matFault p) p := by
  unfold State.takeInstant
  extract_lets i stored woken
  have h1 : s.OutcomeFrame stored p := s.modPos_outcome p _
  have h2 : stored.OutcomeFrame woken p := .ite (stored.wake_outcome p) (.refl stored p)
  exact (h1.trans h2).trans (woken.modPos_outcome p _)

/-- The sample of an outcome. -/
theorem State.sample_outcome {g : Bool → State → State} {p : Pos} (hg : ∀ (m : Bool) (s : State), s.OutcomeFrame (g m s) p) (x : Option Bool)
    (s : State) : s.OutcomeFrame (match x with | none => s | some m => g m s) p := by
  cases x with
  | none => exact .refl s p
  | some m => exact hg m s

theorem State.classifyHeld_outcome (s : State) (h : Handover) (p : Pos) : s.OutcomeFrame (s.classifyHeld h p) p := by
  unfold State.classifyHeld
  extract_lets marked
  have h1 : s.OutcomeFrame marked p := .ite (s.modPos_outcome p _) (.refl s p)
  exact h1.trans (State.sample_outcome (fun m s => s.takeInstant_outcome m p) h.sample marked)

theorem State.classify_outcome (s : State) (h : Handover) (p : Pos) : s.OutcomeFrame (s.classify h p) p := by
  unfold State.classify
  cases h.direct with
  | some d => exact s.applyDirect_outcome true d p
  | none =>
    cases h.node with
    | silent => exact .refl s p
    | unseen => exact .refl s p
    | lost => exact .refl s p
    | online =>
      extract_lets c back voted
      have h1 : s.OutcomeFrame back p := .ite (s.returnUnresolved_outcome true p) (.refl s p)
      have h2 : back.OutcomeFrame voted p := back.completeVote_outcome p
      exact (h1.trans h2).trans (State.sample_outcome
        (fun m s => (s.takeInstant_outcome m p).trans (State.completeVote_outcome _ p)) h.sample voted)

/-- The Classifier's part of an outcome stays at its position, the ports, the decision and the scan mode (R73, R84). -/
theorem State.takeOutcome_outcome (s : State) (h : Handover) (p : Pos) : s.OutcomeFrame (s.takeOutcome h p) p :=
  .ite (s.classifyHeld_outcome h p) (s.classify_outcome h p)

/-! ## Buckle, fit and capture at a position -/

theorem State.takeBuckle_outcome (s : State) (p : Pos) (x : SlotSample) : s.OutcomeFrame (s.takeBuckle p x) p := by
  unfold State.takeBuckle
  extract_lets r b decoded told
  have h1 : s.OutcomeFrame decoded p := s.modPos_outcome p _
  have h2 : decoded.OutcomeFrame told p := .ite (State.post_outcome _ p _ _ _ _) (.refl _ p)
  exact (h1.trans h2).trans (told.evaluate_frame p).outcome

theorem State.loseBelt_outcome (s : State) (p : Pos) : s.OutcomeFrame (s.loseBelt p) p := by
  unfold State.loseBelt
  extract_lets r cleared
  have h : s.OutcomeFrame cleared p := s.modPos_outcome p _
  exact .ite (h.trans ((State.post_outcome _ p _ _ _ _).trans (State.evaluate_frame _ p).outcome)) h

/-- Computing capabilities anew stays at its position and the cabin port (R7). -/
theorem State.recompute_outcome (s : State) (p : Pos) : s.OutcomeFrame (s.recompute p) p := by
  unfold State.recompute
  extract_lets r e caps child belt changed
  have h : s.OutcomeFrame changed p := s.modPos_outcome p _
  exact .ite (h.trans (changed.loseBelt_outcome p)) h

theorem State.setFit_outcome (s : State) (p : Pos) (fit : FitState) : s.OutcomeFrame (s.setFit p fit) p :=
  (s.modPos_outcome p _).trans (State.recompute_outcome _ p)

theorem State.abortCapture_outcome (s : State) (r : CaptureResult) (p : Pos) : s.OutcomeFrame (s.abortCapture r) p := by
  unfold State.abortCapture
  split
  · exact .refl s p
  · exact ⟨rfl, fun _ _ => rfl⟩

theorem State.abortCaptureOf_outcome (s : State) (r : CaptureResult) (p : Pos) :
    s.OutcomeFrame (s.abortCaptureOf r p) p := .ite (s.abortCapture_outcome r p) (.refl s p)

theorem State.captureTake_outcome (s : State) (p : Pos) (x : SlotSample) : s.OutcomeFrame (s.captureTake p x) p := by
  unfold State.captureTake
  split
  · exact .refl s p
  · exact .ite (.refl s p) (.ite (s.abortCapture_outcome _ p) (.ite ⟨rfl, fun _ _ => rfl⟩ ⟨rfl, fun _ _ => rfl⟩))

/-! ## The hand-over of an outcome (R34) -/

theorem State.pipeline_outcome (s : State) (p : Pos) (x : SlotSample) : s.OutcomeFrame (s.pipeline p x) p :=
  ((s.captureTake_outcome p x).trans ((State.modPos_outcome _ p _).trans (State.modPos_outcome _ p _))).trans
    (State.takeBuckle_outcome _ p x)

/-- An outcome handed to a position changes no other position's record. -/
theorem State.handTo_outcome (s : State) (n : NodeRec) (slip : Bool) (o : PollOutcome) (p : Pos) :
    s.OutcomeFrame (s.handTo n slip o p) p := by
  unfold State.handTo
  extract_lets h
  cases s.delivered p slip o with
  | some x => exact (s.pipeline_outcome p x).trans (State.takeOutcome_outcome _ h p)
  | none => exact (s.abortCaptureOf_outcome _ p).trans (State.takeOutcome_outcome _ h p)

theorem State.refit_outcome (s : State) (n : NodeRec) (reason : Option NodeReason) (p : Pos) :
    s.OutcomeFrame (s.refit n reason p) p := by
  unfold State.refit
  split
  · split
    · exact s.setFit_outcome p _
    · exact .refl s p
  · exact s.setFit_outcome p _
  · exact s.setFit_outcome p _
  · exact .refl s p

/-! ## A line -/

/-- t with what an outcome at an address may change put back from s. -/
def State.lineBack (s t : State) : State :=
  { s.outcomeBack t with scanner := { (s.outcomeBack t).scanner with lines := s.scanner.lines } }

/-- A walk of hand-overs leaves everything that `outcomeBack` does not name. -/
theorem State.forPositions_outcome {f : Pos → State → State} (hf : ∀ (p : Pos) (s : State), s.OutcomeFrame (f p s) p) (ps : List Pos)
    (s : State) : s.outcomeBack (s.forPositions ps f) = s := by
  induction ps generalizing s with
  | nil => rfl
  | cons p ps ih => exact (congrArg s.outcomeBack (ih (f p s))).trans (hf p s).rest

/-- A walk of hand-overs leaves the records of positions it does not visit. -/
theorem State.forPositions_outcome_pos {f : Pos → State → State} (hf : ∀ (p : Pos) (s : State), s.OutcomeFrame (f p s) p) (ps : List Pos)
    (s : State) (q : Pos) (hq : q ∉ ps) : (s.forPositions ps f).pos q = s.pos q :=
  State.forPositions_pos_of_not_mem (fun p _ s h => (hf p s).others _ h) ps s q hq

/-- The positions bound to an address. -/
theorem State.mem_bound {s : State} {l : Line} {a : Fin 6} {p : Pos} : p ∈ s.bound l a ↔ s.boundTo l a p = true := by
  simp [State.bound, mem_allPos]

/-- An outcome at an address: the node's record becomes the one that the outcome gives, and nothing but that record and what
`outcomeBack` names changes (R28 to R36). -/
theorem State.takeNodeOutcome_rest (l : Line) (a : Fin 6) (o : PollOutcome) (s : State) :
    (s.setNode l a ((s.node l a).after s.standstill o).1).outcomeBack (s.takeNodeOutcome l a o) =
      s.setNode l a ((s.node l a).after s.standstill o).1 := by
  unfold State.takeNodeOutcome
  simp only
  generalize ((s.node l a).after s.standstill o).2 = reason
  generalize s.setNode l a ((s.node l a).after s.standstill o).1 = t
  have walk (u : State) (ps : List Pos) (f g : Pos → State → State) (hf : ∀ (p : Pos) (s : State), s.OutcomeFrame (f p s) p)
      (hg : ∀ (p : Pos) (s : State), s.OutcomeFrame (g p s) p) (hu : t.outcomeBack u = t) :
      t.outcomeBack ((u.forPositions ps f).forPositions ps g) = t :=
    (congrArg t.outcomeBack ((congrArg u.outcomeBack (State.forPositions_outcome hg ps _)).trans
      (State.forPositions_outcome hf ps u))).trans hu
  split
  · exact walk _ _ _ _ (fun p s => s.refit_outcome _ _ p) (fun p s => s.handTo_outcome _ _ _ p) rfl
  · exact walk _ _ _ _ (fun p s => s.refit_outcome _ _ p) (fun p s => s.handTo_outcome _ _ _ p) rfl

/-- An outcome at an address leaves the records of the positions that are not bound to it (R34). -/
theorem State.takeNodeOutcome_pos {l : Line} {a : Fin 6} {o : PollOutcome} {s : State} {q : Pos}
    (hq : s.boundTo l a q = false) : (s.takeNodeOutcome l a o).pos q = s.pos q := by
  have walk (u : State) (f g : Pos → State → State) (hf : ∀ (p : Pos) (s : State), s.OutcomeFrame (f p s) p)
      (hg : ∀ (p : Pos) (s : State), s.OutcomeFrame (g p s) p) (hc : u.config = s.config) (hp : u.pos q = s.pos q) :
      ((u.forPositions (u.bound l a) f).forPositions (u.bound l a) g).pos q = s.pos q := by
    have hb : u.boundTo l a q = s.boundTo l a q := by unfold State.boundTo State.entry; rw [hc]
    have hn : q ∉ u.bound l a := by rw [State.mem_bound, hb, hq]; exact Bool.false_ne_true
    exact ((State.forPositions_outcome_pos hg _ _ q hn).trans (State.forPositions_outcome_pos hf _ _ q hn)).trans hp
  unfold State.takeNodeOutcome
  simp only
  split
  · exact walk _ _ _ (fun p s => s.refit_outcome _ _ p) (fun p s => s.handTo_outcome _ _ _ p) rfl rfl
  · exact walk _ _ _ (fun p s => s.refit_outcome _ _ p) (fun p s => s.handTo_outcome _ _ _ p) rfl rfl

/-- The record of the node at an address after an outcome there, and of every other node (R28 to R32). -/
theorem State.takeNodeOutcome_node (l m : Line) (a b : Fin 6) (o : PollOutcome) (s : State) :
    (s.takeNodeOutcome l a o).node m b =
      if m = l ∧ b = a then ((s.node l a).after s.standstill o).1 else s.node m b := by
  have h := congrArg (fun t : State => t.node m b) (State.takeNodeOutcome_rest l a o s)
  simp only [State.node_setNode] at h
  exact h

/-- A visit of addresses changes no node's record: a skip leaves it (R21). -/
theorem State.visit_node (l m : Line) (as : List (Fin 6)) (b : Fin 6) (s : State) :
    (s.visit l as).node m b = s.node m b := by
  have hx (t : State) (x : Option Exchange) : (t.setExchange l x).node m b = t.node m b := by
    unfold State.setExchange State.setLine State.node
    rw [PerLine.get_set]
    split
    · subst ‹m = l›; rfl
    · rfl
  induction as generalizing s with
  | nil => exact hx s none
  | cons a as ih =>
    unfold State.visit
    split
    · exact hx s _
    · rw [ih, State.takeNodeOutcome_node]
      split
      · obtain ⟨rfl, rfl⟩ := ‹m = l ∧ b = a›; rfl
      · rfl

/-- A visit leaves everything but the seat lines and what an outcome may change. -/
theorem State.visit_rest (l : Line) (as : List (Fin 6)) (s : State) : s.lineBack (s.visit l as) = s := by
  induction as generalizing s with
  | nil => rfl
  | cons a as ih =>
    unfold State.visit
    split
    · rfl
    · have h := congrArg s.lineBack (ih (s.takeNodeOutcome l a .skip))
      have k := congrArg s.lineBack (State.takeNodeOutcome_rest l a .skip s)
      exact h.trans k

/-- A visit leaves the records of the positions that are bound to none of its addresses. -/
theorem State.visit_pos {l : Line} {as : List (Fin 6)} {s : State} {q : Pos} (hq : ∀ a, s.boundTo l a q = false) :
    (s.visit l as).pos q = s.pos q := by
  induction as generalizing s with
  | nil => rfl
  | cons a as ih =>
    unfold State.visit
    split
    · rfl
    · refine (ih fun b => ?_).trans (State.takeNodeOutcome_pos (hq a))
      have hc := congrArg State.config (State.takeNodeOutcome_rest l a .skip s)
      have hb : (s.takeNodeOutcome l a .skip).boundTo l b q = s.boundTo l b q := by
        unfold State.boundTo State.entry
        rw [show (s.takeNodeOutcome l a .skip).config = s.config from hc]
      rw [hb, hq b]

end Sys2Proof.Machine
end

