-- ==== Sys2Proof/Laws/PerInstr.lean ====
section
/-! SUPPORT. Facts about every command, one lemma for each constructor. -/

namespace Sys2Proof.Laws.FrameLength

open Sys2Proof.Machine

/-- The frame of a command has the length that its first byte decides (R134). -/
def Statement (i : Instr) : Prop :=
  i.wellFormed = true → ∀ cmd rest, i.frame = some (cmd :: rest) → (cmd :: rest).length = frameLength cmd

/-- An event has no frame. -/
theorem of_no_frame {i : Instr} (h : i.frame = none) : Statement i := fun _ cmd rest hf => by rw [h] at hf; cases hf

/-- A command whose frame is written out. -/
theorem of_frame {i : Instr} {cmd : Byte} {rest : List Byte} (h : i.frame = some (cmd :: rest))
    (hl : i.wellFormed = true → (cmd :: rest).length = frameLength cmd) : Statement i := fun hw c r hf => by
  rw [h] at hf
  cases hf
  exact hl hw

theorem powerOn : Statement Instr.powerOn := of_no_frame rfl

theorem resetLineAssert : Statement Instr.resetLineAssert := of_no_frame rfl

theorem resetLineRelease : Statement Instr.resetLineRelease := of_no_frame rfl

theorem configurationLoadEnd : Statement Instr.configurationLoadEnd := of_no_frame rfl

theorem scanTick : Statement Instr.scanTick := of_no_frame rfl

theorem replyWindowClose (l : Line) : Statement (Instr.replyWindowClose l) := of_no_frame rfl

theorem seatReplyReceived (l : Line) (chars : List Byte) : Statement (Instr.seatReplyReceived l chars) := of_no_frame rfl

theorem seatReplyGap (l : Line) (chars : List Byte) : Statement (Instr.seatReplyGap l chars) := of_no_frame rfl

theorem exchangeLimit (l : Line) (chars : List Byte) : Statement (Instr.exchangeLimit l chars) := of_no_frame rfl

theorem reminderTick : Statement Instr.reminderTick := of_no_frame rfl

theorem graceTimerExpiry (n : Pos) : Statement (Instr.graceTimerExpiry n) := of_no_frame rfl

theorem visualTimerExpiry (n : Pos) : Statement (Instr.visualTimerExpiry n) := of_no_frame rfl

theorem audibleTimerExpiry (n : Pos) : Statement (Instr.audibleTimerExpiry n) := of_no_frame rfl

theorem holdTimerExpiry : Statement Instr.holdTimerExpiry := of_no_frame rfl

theorem freshnessTimerExpiry : Statement Instr.freshnessTimerExpiry := of_no_frame rfl

theorem watchTimerExpiry : Statement Instr.watchTimerExpiry := of_no_frame rfl

theorem ecoCountdownExpiry : Statement Instr.ecoCountdownExpiry := of_no_frame rfl

theorem ageLimitReached (p : Port) : Statement (Instr.ageLimitReached p) := of_no_frame rfl

theorem saveEnd (readBack : StoreImage) : Statement (Instr.saveEnd readBack) := of_no_frame rfl

theorem interByteLimit (p : Port) : Statement (Instr.interByteLimit p) := of_no_frame rfl

theorem frameDiscarded (p : Port) : Statement (Instr.frameDiscarded p) := of_no_frame rfl

theorem discardingGapEnd (p : Port) : Statement (Instr.discardingGapEnd p) := of_no_frame rfl

theorem unknownCommand (p : Port) (cmd chk : Byte) : Statement (Instr.unknownCommand p cmd chk) := by
  refine of_frame rfl fun h => ?_
  rw [frameLength, Option.isNone_iff_eq_none.1 h]
  rfl

theorem identifyPart (p : Port) (chk : Byte) : Statement (Instr.identifyPart p chk) := of_frame rfl fun _ => rfl

theorem readStatus (p : Port) (chk : Byte) : Statement (Instr.readStatus p chk) := of_frame rfl fun _ => rfl

theorem readSummary (p : Port) (chk : Byte) : Statement (Instr.readSummary p chk) := of_frame rfl fun _ => rfl

theorem readPosition (p : Port) (n chk : Byte) : Statement (Instr.readPosition p n chk) := of_frame rfl fun _ => rfl

theorem readNotice (p : Port) (chk : Byte) : Statement (Instr.readNotice p chk) := of_frame rfl fun _ => rfl

theorem readSuppression (p : Port) (chk : Byte) : Statement (Instr.readSuppression p chk) := of_frame rfl fun _ => rfl

theorem hold (p : Port) (chk : Byte) : Statement (Instr.hold p chk) := of_frame rfl fun _ => rfl

theorem release (p : Port) (chk : Byte) : Statement (Instr.release p chk) := of_frame rfl fun _ => rfl

theorem readSnapshot (p : Port) (d chk : Byte) : Statement (Instr.readSnapshot p d chk) := of_frame rfl fun _ => rfl

theorem popSnapshot (p : Port) (chk : Byte) : Statement (Instr.popSnapshot p chk) := of_frame rfl fun _ => rfl

theorem vehicleState (p : Port) (ignition speed gear door chk : Byte) : Statement (Instr.vehicleState p ignition speed gear door chk) := of_frame rfl fun _ => rfl

theorem confirmAudible (p : Port) (n chk : Byte) : Statement (Instr.confirmAudible p n chk) := of_frame rfl fun _ => rfl

theorem mute (p : Port) (n chk : Byte) : Statement (Instr.mute p n chk) := of_frame rfl fun _ => rfl

theorem dismissLeftBehind (p : Port) (chk : Byte) : Statement (Instr.dismissLeftBehind p chk) := of_frame rfl fun _ => rfl

theorem readMapEntry (p : Port) (n chk : Byte) : Statement (Instr.readMapEntry p n chk) := of_frame rfl fun _ => rfl

theorem readStaged (p : Port) (n chk : Byte) : Statement (Instr.readStaged p n chk) := of_frame rfl fun _ => rfl

theorem stageEntry (p : Port) (n : Byte) (entry : Vector Byte 17) (chk : Byte) : Statement (Instr.stageEntry p n entry chk) := of_frame rfl fun _ => by simp [frameLength, operandLength]

theorem swapBindings (p : Port) (a b chk : Byte) : Statement (Instr.swapBindings p a b chk) := of_frame rfl fun _ => rfl

theorem discardStage (p : Port) (chk : Byte) : Statement (Instr.discardStage p chk) := of_frame rfl fun _ => rfl

theorem commitMap (p : Port) (chk : Byte) : Statement (Instr.commitMap p chk) := of_frame rfl fun _ => rfl

theorem zeroCapture (p : Port) (n chk : Byte) : Statement (Instr.zeroCapture p n chk) := of_frame rfl fun _ => rfl

theorem readProfile (p : Port) (n chk : Byte) : Statement (Instr.readProfile p n chk) := of_frame rfl fun _ => rfl

theorem setProfile (p : Port) (n : Byte) (profile : Vector Byte 31) (chk : Byte) : Statement (Instr.setProfile p n profile chk) := of_frame rfl fun _ => by simp [frameLength, operandLength]

theorem readSettings (p : Port) (chk : Byte) : Statement (Instr.readSettings p chk) := of_frame rfl fun _ => rfl

theorem setSettings (p : Port) (settings : Vector Byte 24) (chk : Byte) : Statement (Instr.setSettings p settings chk) := of_frame rfl fun _ => by simp [frameLength, operandLength]

theorem saveConfig (p : Port) (chk : Byte) : Statement (Instr.saveConfig p chk) := of_frame rfl fun _ => rfl

theorem readNode (p : Port) (line address chk : Byte) : Statement (Instr.readNode p line address chk) := of_frame rfl fun _ => rfl

theorem testModeOn (p : Port) (operand chk : Byte) : Statement (Instr.testModeOn p operand chk) := of_frame rfl fun _ => rfl

theorem testModeOff (p : Port) (chk : Byte) : Statement (Instr.testModeOff p chk) := of_frame rfl fun _ => rfl

theorem injectSample (p : Port) (n : Byte) (sample : Vector Byte 20) (chk : Byte) : Statement (Instr.injectSample p n sample chk) := of_frame rfl fun _ => by simp [frameLength, operandLength]

theorem endInject (p : Port) (n chk : Byte) : Statement (Instr.endInject p n chk) := of_frame rfl fun _ => rfl

theorem clearSnapshots (p : Port) (chk : Byte) : Statement (Instr.clearSnapshots p chk) := of_frame rfl fun _ => rfl

theorem resetPart (p : Port) (chk : Byte) : Statement (Instr.resetPart p chk) := of_frame rfl fun _ => rfl

theorem resetPartReplySent : Statement Instr.resetPartReplySent := of_no_frame rfl

theorem replyEnd (p : Port) : Statement (Instr.replyEnd p) := of_no_frame rfl

end Sys2Proof.Laws.FrameLength
end

