-- ==== Sys2Proof/Tests/Slice0.lean ====
section
/-! SUPPORT. The author's own tests: ill-formed terms, frames and worked examples of the manual written out, one step of the
commands on small states, and for every statement a state and operands that meet its hypotheses. -/

namespace Sys2Proof.Tests

open Sys2Proof.Machine

-- The kernel evaluates these theorems one after another: all at once they would hold the memory of many threads.
set_option Elab.async false

/-! ## States and helpers -/

/-- The state after a command. -/
def after (i : Instr) (s : State) : State :=
  match exec i s with
  | .next t => t
  | .fault _ | .refused _ => s

/-- The state after the command that a frame spells, sent on a port with its check byte. -/
def send (p : Port) (b : List Byte) (s : State) : State :=
  match decodeFrame p (b ++ [checkByte b]) with
  | some i => after i s
  | none => s

/-- The status byte of the reply in progress on a port. -/
def statusOf (p : Port) (s : State) : Option Byte := (s.port p).reply.bind (·[1]?)

/-- After reset, with a taken report that the van is parked. -/
def parked : State :=
  { State.reset with vehicle := { State.reset.vehicle with ignition := .off, gear := .park, freshTimer := some 8000 } }

/-- After reset, with a taken report that the van drives. -/
def driving : State :=
  { State.reset with vehicle := { State.reset.vehicle with ignition := .run, speed := 30, freshTimer := some 8000 } }

/-- Parked, with HOLD active. -/
def held : State := { parked with restraint := { parked.restraint with hold := some 80000, holdCount := 1 } }

/-- A small store image, for tests of a save in flight. -/
def smallImage : StoreImage := { body := [3], crc := 0x1234 }

/-- Parked, with a save in flight. -/
def savingNow : State :=
  { parked with saveImage := some smallImage, store := { parked.store with complete := false } }

/-- A node's identity: model 4Ah, variant 3, serial 0B7h, two slots with tag reader and buckle sensor. -/
def nodeId : NodeIdentity := { id := 0x4A30B7, slots := 2, caps := [(true, true), (true, true)] }

/-- Position 3 as the index that the model uses. -/
def pos3 : Pos := 2

/-- Parked, with position 3's node ONLINE, the position fitting, and its samples polled on line A. -/
def fitted : State :=
  ((parked.setNode .a 1 { NodeRec.fresh with state := .online, identity := some nodeId }).modPos pos3
    fun r => { r with fit := .fits, childCap := true, beltCap := true }).setExchange .a
      (some { address := 1, command := .sample, frame := pollFrame 1 .sample })

/-- Driving, with position 1's reminder at a step with a timer. -/
def reminding (step : ReminderStep) (timer : Nat) : State :=
  driving.modPos 0 fun r =>
    { r with
      beltCap := true, fit := .fits, buckle := { r.buckle with belt := .unlatched }
      cls := r.cls.settle .adult .none, reminder := { r.reminder with step := step, timer := timer } }

/-- Parked, with the live entry of position 3 staged again with a zero of 5. -/
def staged : State := parked.stage pos3 { defaultEntry pos3 with z := 5 }

/-- A snapshot of the state after reset. -/
def shot : Snapshot := State.reset.snapshot

/-- A slot sample of a seated adult, belt unlatched. -/
def adultSample : SlotSample :=
  { statusFault := false, buckle := 2, load := 1312, cells := 9, peak := 260, tags := [] }

/-! ## Well-formedness: each check refuses a term -/

theorem test_wf_refuses_short_reply : (Instr.seatReplyReceived .a [0xC3, 0x81, 0x41]).wellFormed = false := by decide
theorem test_wf_refuses_long_reply : (Instr.seatReplyReceived .a [0xC3, 0x81, 0x41, 0, 1, 2, 3]).wellFormed = false := by
  decide
theorem test_wf_refuses_empty_gap : (Instr.seatReplyGap .b []).wellFormed = false := by decide
theorem test_wf_refuses_whole_reply_cut : (Instr.exchangeLimit .b [0xC3, 0x81, 0x41, 0, 1, 2]).wellFormed = false := by decide
theorem test_wf_refuses_short_read_back : (Instr.saveEnd { body := [3], crc := 0 }).wellFormed = false := by decide
theorem test_wf_refuses_known_unknown : (Instr.unknownCommand .cabin 0x40 0xC0).wellFormed = false := by decide
theorem test_wf_refuses_off_as_on : (Instr.testModeOn .service 0 0x93).wellFormed = false := by decide
theorem test_wf_takes_whole_reply : (Instr.seatReplyReceived .a (identityReply 0 nodeId)).wellFormed = true := by
  decide +kernel

/-! ## Encodings: the manual's own bytes -/

/-- Spec 02, the example of R24: the span 03h, 01h gives BE0Eh. -/
theorem test_crc_of_example : crc16 [0x03, 0x01] = 0xBE0E := by decide +kernel
/-- The IDENTIFY poll to address 3 carries BEh then 0Eh (R23, R24). -/
theorem test_poll_frame : pollFrame 2 .identify = [0xC3, 0x03, 0x01, 0xBE, 0x0E] := by decide +kernel
/-- Spec 09, the example of R137: a sum of 1A7h is followed by 59h. -/
theorem test_check_byte : checkByte [0xFF, 0xA8] = 0x59 := by decide +kernel
/-- One frame of each family, by the layouts of spec 11.2. -/
theorem test_decode_common : decodeFrame .cabin [0x04, 0x03, 0xF9] = some (.readPosition .cabin 3 0xF9) := by decide
theorem test_decode_safety : decodeFrame .safety [0x23, 0x01, 0xDC] = some (.readSnapshot .safety 1 0xDC) := by decide
theorem test_decode_cabin :
    decodeFrame .cabin [0x40, 0x03, 0x19, 0x01, 0x00, 0xA3] = some (.vehicleState .cabin 3 0x19 1 0 0xA3) := by decide
theorem test_decode_service : decodeFrame .service [0x63, 0x07, 0x0A, 0x8C] = some (.swapBindings .service 7 10 0x8C) := by
  decide
theorem test_decode_test_mode_off : decodeFrame .service [0x6D, 0x00, 0x93] = some (.testModeOff .service 0x93) := by decide
theorem test_decode_unknown : decodeFrame .safety [0x99, 0x67] = some (.unknownCommand .safety 0x99 0x67) := by decide
theorem test_decode_short_frame : decodeFrame .cabin [0x40, 0x03] = none := by decide
/-- Spec 11.3: the entry of position 3 in the default map, byte by byte. -/
theorem test_map_entry_bytes :
    (defaultEntry 2).bytes = [0x0F, 0x01, 0x01, 0, 2, 1, 0, 0, 0, 3, 0, 0, 0, 0, 0x04, 0x00, 2] := by decide
/-- R155: a flags byte with bit 4 set is outside its set. -/
theorem test_map_entry_flags :
    MapEntry.ofBytes [0x1F, 0x01, 0x01, 0, 2, 1, 0, 0, 0, 3, 0, 0, 0, 0, 0x04, 0x00, 2] = none := by decide
/-- R155: a reminder class code above 2 is outside its set. -/
theorem test_map_entry_reminder_class :
    MapEntry.ofBytes [0x0F, 0x01, 0x01, 0, 2, 1, 0, 0, 0, 3, 3, 0, 0, 0, 0x04, 0x00, 2] = none := by decide
theorem test_table_word_spells_none : decodeTableWord 8 1 = none := rfl

/-! ## Worked examples of the manual -/

/-- Spec 01, the example of R4. -/
theorem test_fit_example :
    ({ defaultEntry 2 with identity := 0x4A30B7, matchMode := .exact }.fitWith { nodeId with id := 0x4A3112 }) = .misfit ∧
    ({ defaultEntry 2 with identity := 0x4A30B7, matchMode := .variant }.fitWith { nodeId with id := 0x4A3112 }) = .fits ∧
    ({ defaultEntry 2 with slot := 2 }.fitWith nodeId) = .noSlot := by decide
/-- Spec 03, 3.7: W, F16, F, K and the band of one sample. -/
theorem test_load_example :
    ({ w := 0, f16 := 19200, seeded := true, band := 3, n := 0, k := 0 } : LoadRec).take
      { defaultEntry 2 with z := 12, g := 1000 } defaultProfile adultSample =
    { w := 1269, f16 := 19476, seeded := true, band := 3, n := 9, k := 14 } := by decide +kernel
/-- Spec 03: a falling gap steps by the floor, from 11 sixteenths to 8. -/
theorem test_filter_floor : stepFilter 11 0 2 = 8 ∧ stepFilter 15997 1000 2 = 15997 := by decide
/-- Spec 03, R47: 299 falls from B2 to B1 and 839 from B3 to B2. -/
theorem test_band_falls : updateBand defaultProfile 299 2 = 1 ∧ updateBand defaultProfile 839 3 = 2 := by decide
/-- Spec 03, R50: a sum of 228 gives the zero 14. -/
theorem test_capture_zero : captureZero 228 = 14 := by decide
/-- Spec 04, the example of R57: base 12A10C3Eh and carrier 22A15507h pair. -/
theorem test_tag_pair :
    tagReading [⟨0x12A10C3E, 1, false, 30⟩, ⟨0x22A15507, 0, false, 40⟩] = .carrierRf := by decide
/-- Spec 12.4: positions 10 to 15 give the mask 7E00h. -/
theorem test_commit_mask : maskOf (fun p => 9 ≤ p.val && p.val ≤ 14) = 0x7E00 := by decide
/-- Spec 12.6: positions 13 and 15 give the mask 5000h. -/
theorem test_left_behind_mask : maskOf (fun p => p.val = 12 || p.val = 14) = 0x5000 := by decide

/-! ## One step of the commands -/

theorem test_reset_line_assert_holds_line_high : (after .resetLineAssert parked).restraint.pso = .high := by decide
theorem test_load_end_defaults_unwritten_store :
    (after .configurationLoadEnd (after .powerOn parked)).configState = .defaulted := by decide +kernel
theorem test_scan_tick_polls_first_addresses :
    ((after .scanTick State.reset).scanner.lines.a.exchange).map (·.frame) = some (pollFrame 0 .identify) := by
  decide +kernel
/-- An adult on an UNRESOLVED position is a candidate after one sample (spec 12.1). -/
theorem test_sample_reply_votes :
    ((after (.seatReplyReceived .a (sampleReply 1 0xB7 [adultSample, adultSample])) fitted).pos pos3).cls.candidate =
      .adult := by decide +kernel
theorem test_window_close_makes_node_silent : ((after (.replyWindowClose .a) fitted).node .a 1).state = .silent := by
  decide +kernel
theorem test_reminder_tick_lowers : ((after .reminderTick (reminding .grace 60)).pos 0).reminder.timer = 59 := by decide
theorem test_grace_expiry_shows : ((after (.graceTimerExpiry 0) (reminding .grace 0)).pos 0).reminder.timer = 200 := by
  decide +kernel
theorem test_visual_expiry_sounds : ((after (.visualTimerExpiry 0) (reminding .visual 0)).pos 0).reminder.timer = 960 := by
  decide +kernel
theorem test_audible_expiry_lapses :
    ((after (.audibleTimerExpiry 0) (reminding .audible 0)).pos 0).reminder.step = .lapsed := by decide +kernel
theorem test_hold_reply : ((send .safety [0x21] parked).port .safety).reply = some [0x21, 0x00, 0x01, 0x01, 0xDD] := by
  decide +kernel
theorem test_release_ends_hold : (send .safety [0x22] held).restraint.hold = none := by decide +kernel
theorem test_hold_expiry_posts :
    (after .holdTimerExpiry held).ports.safety.queue.map (·.kind) = [.holdExpired] := by decide +kernel
theorem test_vehicle_report_clamps_speed : (send .cabin [0x40, 3, 255, 1, 0] parked).vehicle.speed = 250 := by
  decide +kernel
theorem test_vehicle_report_unknown_ignition : statusOf .cabin (send .cabin [0x40, 0, 0, 0, 0] parked) = some 0x13 := by
  decide +kernel
theorem test_freshness_expiry_ends_standstill : (after .freshnessTimerExpiry parked).standstill = false := by decide +kernel
theorem test_commit_deferred_without_standstill :
    statusOf .service (send .service [0x65] { staged with vehicle := driving.vehicle }) = some 0x02 := by decide +kernel
theorem test_commit_applies_at_standstill : ((send .service [0x65] staged).entry pos3).z = 5 := by decide +kernel
theorem test_zero_capture_refuses_unfitted : statusOf .service (send .service [0x66, 3] parked) = some 0x13 := by
  decide +kernel
theorem test_zero_capture_accepted : statusOf .service (send .service [0x66, 3] fitted) = some 0x01 := by decide +kernel
theorem test_save_marks_incomplete :
    (send .service [0x6B] { parked with store := { parked.store with complete := true } }).store.complete = false := by
  decide +kernel
theorem test_save_end_marks_complete :
    (after (.saveEnd smallImage) savingNow).store.complete = true := by decide +kernel
theorem test_test_mode_speeds_reminder_tick : (send .service [0x6D, 1] parked).reminderTimer = some 25 := by decide +kernel
theorem test_identify_part_reply :
    ((send .cabin [0x01] parked).port .cabin).reply = some [0x01, 0x00, 0x74, 0x16, 0x03, 0x01, 0x01, 0x70] := by
  decide +kernel
theorem test_cabin_command_on_safety_port : statusOf .safety (send .safety [0x43] parked) = some 0x12 := by decide +kernel
theorem test_unknown_command : statusOf .safety (send .safety [0x99] parked) = some 0x11 := by decide +kernel
theorem test_bad_check : statusOf .safety (after (.hold .safety 0) parked) = some 0x10 := by decide +kernel
theorem test_reset_part_replies_first : (send .service [0x71] parked).phase = .resetReply := by decide +kernel
theorem test_read_status_reports_eco :
    (((send .cabin [0x02] { parked with vehicle := { parked.vehicle with mode := .eco } }).port .cabin).reply).bind (·[2]?) =
      some 1 := by decide +kernel
theorem test_read_notice_default_store :
    ((send .service [0x05] State.reset).port .service).reply =
      some [0x05, 0x00, 0x0C, 0x00, 0x00, 0x01, 0x00, 0x00, 0x00, 0xEE] := by decide +kernel

/-- A port whose assembler holds the first characters of a frame. -/
def begun (p : Port) (b : List Byte) (s : State) : State := s.setPort p { s.port p with assembler := .assembling b }
/-- R134: the second character of a HOLD frame completes it, and HOLD is taken. -/
theorem test_last_character_runs_command :
    (match step { begun .safety [0x21] parked with incoming := [(.safety, 0xDF)] } with
      | .next t => t.holdActive
      | .fault _ | .refused _ => false) = true := by decide +kernel
theorem test_first_character_begins_frame :
    ((parked.receiveChar .cabin 0x40).1.port .cabin).assembler = .assembling [0x40] := by decide +kernel

/-! ## Witnesses: for every statement, states and operands that meet its hypotheses, clause by clause -/

theorem witness_StepTakesFrontCommand : ({ parked with pending := [.scanTick] } : State).pending = .scanTick :: [] := rfl

theorem witness_ExecKeepsWaitingQueue : exec .reminderTick parked = .next (after .reminderTick parked) := rfl

/-- The state after reset with its first scan tick a quantum away: nothing is due. -/
def quiet : State := { State.reset with scanner := { State.reset.scanner with timer := some 1 } }

theorem witness_IdleStep_passes :
    quiet.pending = [] ∧ quiet.incoming = [] ∧ quiet.nextDue = none ∧ quiet.phase = .running :=
  ⟨rfl, rfl, by
    have h : quiet.due = [] := by decide +kernel
    unfold State.nextDue
    rw [h]
    rfl, rfl⟩

theorem witness_IdleStep_due : State.reset.pending = [] ∧ State.reset.incoming = [] ∧
    State.reset.nextDue = some .scanTick ∧ State.reset.due ≠ [] := by
  have h : State.reset.due = [.scanTick] := by decide +kernel
  refine ⟨rfl, rfl, ?_, by rw [h]; exact List.cons_ne_nil _ _⟩
  unfold State.nextDue
  rw [if_pos (by decide +kernel), h, List.length_singleton, Nat.mod_one]
  rfl

/-- Each pattern of PSO, the last quantum of a half, and a phase other than running. -/
theorem witness_IdleStep_pso :
    State.reset.restraint.pso = .alternating true 400 ∧ (after .resetLineAssert parked).restraint.pso = .high ∧
    (after .resetLineAssert parked).phase ≠ .running ∧
    (let s := { parked with restraint := { parked.restraint with pso := .alternating false 1 } };
      s.restraint.pso = .alternating false 1 ∧ s.passTime.restraint.pso = .alternating true 400) ∧
    ({ parked with restraint := { parked.restraint with pso := .low } } : State).restraint.pso = .low := by decide +kernel

theorem witness_EveryWellFormedCommandCompletes :
    (Instr.hold .safety 0xDF).wellFormed = true ∧ (Instr.exchangeLimit .b [0xC3]).wellFormed = true ∧
    (operandLength 0x40).isSome = true := by decide

theorem witness_FrameSpellsItsCommand :
    let i := Instr.swapBindings .service 7 10 0x8C
    i.wellFormed = true ∧ i.sentOn = some .service ∧ i.frame = some [0x63, 0x07, 0x0A, 0x8C] := by decide

theorem witness_SavedConfigurationLoadsBack : defaultConfig.Legal := by decide +kernel

theorem witness_RepliesAreReadBack : nodeId.sendable = true ∧ within 1 4 [adultSample].length = true ∧
    (∀ x ∈ [adultSample], x.sendable = true) := by decide

/-- One reply for each kind of miss, the last two with a CRC that is right. -/
theorem witness_RepliesAreMisses :
    (byteAt [0x3C] 0 ≠ 0xC3) ∧ (byteAt [0xC3, 1] 0 = 0xC3) ∧
    ((byteAt [0xC3, 0x81, 0x41, 74] 3).toNat = 74) ∧
    (let b : List Byte := [0xC3, 0x81, 0x41, 73]; b.length < (byteAt b 3).toNat + 6) ∧
    (let b : List Byte := [0xC3, 0x81, 0x41, 0, 0, 0]; (byteAt b 3).toNat + 6 ≤ b.length ∧
      crc16 ((b.drop 1).take 3) ≠ byteAt b 4 ++ byteAt b 5) ∧
    (let b := replyFrame 1 0x41 []; crc16 ((b.drop 1).take 3) = byteAt b 4 ++ byteAt b 5 ∧
      (byteAt b 1).toNat ≠ (0 : Fin 6).val + 1 + 128 ∧ byteAt b 2 ≠ PollCommand.sample.replyKind) := by decide +kernel

/-- Replies with a right CRC, address and kind: an identity taken, one with a slot count of 0, a sample taken, and one whose block
has a tag count of 3. -/
theorem witness_RepliesAgreeOrNot :
    let sound (b : List Byte) (kind : Byte) : Bool :=
      byteAt b 0 = 0xC3 && (byteAt b 3).toNat ≤ 73 && (byteAt b 3).toNat + 6 ≤ b.length && byteAt b 1 = 0x82 &&
      byteAt b 2 = kind && crc16 ((b.drop 1).take ((byteAt b 3).toNat + 3)) =
        byteAt b ((byteAt b 3).toNat + 4) ++ byteAt b ((byteAt b 3).toNat + 5)
    (sound (identityReply 1 nodeId) 0x41 ∧ (byteAt (identityReply 1 nodeId) 3).toNat = 4 + 2) ∧
    (sound (replyFrame 1 0x41 [0x4A, 0x30, 0xB7, 0]) 0x41) ∧
    (sound (sampleReply 1 0xB7 [adultSample]) 0x42 ∧ blocksFill 1 adultSample.bytes = true) ∧
    (sound (replyFrame 1 0x42 [0xB7, 0x30, 0, 0, 0, 0, 0]) 0x42 ∧ blocksFill 1 [0x30, 0, 0, 0, 0, 0] = false) ∧
    (let b := adultSample.bytes; (byteAt b 0).toNat / 16 % 4 = 0 ∧ 6 ≤ b.length) := by decide +kernel

theorem witness_ResetsEndWorkAndStartLoad : (after .resetLineAssert parked).phase = .resetLow := by decide

/-- A store that fails only the version check. -/
def wrongVersion : Store := { complete := true, image := { body := [2], crc := crc16 [2] } }

/-- A store that passes every check up to the ranges. -/
def shortStore : Store := { complete := true, image := { body := [3], crc := crc16 [3] } }

/-- A configuration with two enabled positions in one place. -/
def clashing : LiveConfig :=
  { defaultConfig with map := defaultConfig.map.set 3 { defaultEntry 3 with enabled := true } }

theorem storedConfig_default : storedConfig defaultConfig.body = some defaultConfig := by decide +kernel

theorem storedConfig_clashing : storedConfig clashing.body = some clashing ∧ mapConsistent clashing.map = false := by
  decide +kernel

theorem checkStore_of_image {c : LiveConfig} (h : storedConfig c.body = some c) :
    checkStore { complete := true, image := c.image } = if mapConsistent c.map then .ok c else .error .mapConflict := by
  have hv : byteAt c.body 0 = Config.formatVersion := rfl
  simp [checkStore, LiveConfig.image, h, hv]

theorem witness_StoreCheck_incomplete_crc_version :
    Store.unwritten.complete = false ∧ crc16 smallImage.body ≠ smallImage.crc ∧
    crc16 wrongVersion.image.body = wrongVersion.image.crc ∧ byteAt wrongVersion.image.body 0 ≠ 0x03 := by decide +kernel

theorem witness_StoreCheck_range :
    shortStore.complete = true ∧ crc16 shortStore.image.body = shortStore.image.crc ∧ byteAt shortStore.image.body 0 = 0x03 ∧
    storedConfig shortStore.image.body = none ∧ checkStore shortStore = .error .range := by decide +kernel

theorem witness_StoreCheck_ok : checkStore { complete := true, image := defaultConfig.image } = .ok defaultConfig := by
  rw [checkStore_of_image storedConfig_default, if_pos (by decide +kernel)]

theorem witness_StoreCheck_mapConflict :
    checkStore { complete := true, image := clashing.image } = .error .mapConflict := by
  rw [checkStore_of_image storedConfig_clashing.1, if_neg (by rw [storedConfig_clashing.2]; exact Bool.false_ne_true)]

theorem witness_LoadEndTakesStoreOrDefaults :
    (after .powerOn parked).phase = .loading ∧ checkStore (after .powerOn parked).store = .error .incomplete := by
  decide +kernel

/-- A service write finds the gate open, locked by HOLD, and busy with a save. -/
theorem witness_ResetPartRepliesThenResets :
    parked.ready .service ∧ soundFrame 0x71 [] 0x8F ∧ parked.gateOpen ∧ held.ready .service ∧ held.holdActive = true ∧
    State.reset.standstill = false ∧ savingNow.standstill = true ∧ savingNow.holdActive = false ∧ savingNow.saving = true ∧
    savingNow.ready .service ∧ (after (.resetPart .service 0x8F) parked).phase = .resetReply := by decide +kernel

theorem witness_ScanTickNumbersProbesAndPolls :
    State.reset.phase = .running ∧ State.reset.scanner.firstScan = true ∧
    (let c := (after .scanTick State.reset).scanner; c.firstScan = false ∧ c.probeCount ≠ 9) ∧
    (let s := { parked with
        scanner := { parked.scanner with firstScan := false, probeCount := 9 }, vehicle := { parked.vehicle with mode := .eco } };
      s.vehicle.mode = .eco ∧ s.scanner.probeCount = 9) := by decide +kernel

theorem witness_CutReplyIsTimeoutMiss :
    fitted.phase = .running ∧ (fitted.scanner.lines.get .a).exchange.isSome = true ∧
    (fitted.node .a 1).state = .online ∧ (fitted.node .a 2).state = .unseen ∧
    (let b : List Byte := [0xC3, 0x82]; byteAt b 0 = 0xC3 ∧ 1 ≤ b.length ∧ b.length < 4) ∧
    (let b : List Byte := [0xC3, 0x82, 0x42, 73]; (byteAt b 3).toNat ≤ 73 ∧ b.length < (byteAt b 3).toNat + 6) ∧
    ((after (.replyWindowClose .a) fitted).node .a 1).misses = 1 := by decide +kernel

/-- The node of position 3 in a state, with misses, its position's fit, and HOLD inactive or active. -/
def missing (st : NodeState) (misses : Nat) (fit : FitState) : State :=
  (fitted.setNode .a 1 { fitted.node .a 1 with state := st, misses := misses }).modPos pos3 fun r => { r with fit := fit }

theorem witness_CutReply_silent :
    ((missing .silent 1 .fits).node .a 1).state = .silent ∧ ((missing .silent 1 .fits).node .a 1).misses = 1 ∧
    ((missing .silent 2 .fits).node .a 1).misses = 2 ∧ ((missing .silent 1 .misfit).pos pos3).fit = .misfit ∧
    ((missing .lost 0 .unchecked).node .a 1).state = .lost ∧ (missing .silent 2 .fits).boundTo .a 1 pos3 = true ∧
    (∀ q : Pos, q < pos3 → (missing .silent 2 .fits).boundTo .a 1 q = false) ∧
    (missing .silent 2 .fits).phase = .running ∧
    (let t := after (.replyWindowClose .a) (missing .silent 2 .fits);
      (t.node .a 1).state = .lost ∧ (t.pos pos3).fit = .unchecked ∧ (t.pos pos3).cls.stable = .absent ∧
      (t.pos pos3).cls.sequence ≠ (fitted.pos pos3).cls.sequence ∧ (fitted.port .safety).queue.length < 16) := by
  decide +kernel

/-- The sample poll that stands on line A in `fitted`. -/
def polled : Exchange := { address := 1, command := .sample, frame := pollFrame 1 .sample }

/-- One reply for each kind of miss: a cut one, one whose CRC differs, and a wrong sync, a length of 74, another node's address and
a tag count of 3 as format misses. -/
theorem witness_Missed_kinds :
    polled.Missed 1 [] .timeout ∧ polled.Missed 1 [0xC3, 0x82, 0x42, 73] .timeout ∧
    polled.Missed 1 [0xC3, 0x82, 0x42, 0, 0, 0] .crc ∧ polled.Missed 1 [0x3C] .format ∧
    polled.Missed 1 [0xC3, 0x82, 0x42, 74] .format ∧ polled.Missed 1 (sampleReply 2 0xB7 [adultSample]) .format ∧
    polled.Missed 1 (replyFrame 1 0x42 [0xB7, 0x30, 0, 0, 0, 0, 0]) .format := by
  refine ⟨?_, ?_, ?_, ?_, ?_, ?_, ?_⟩ <;> unfold Exchange.Missed polled <;> decide +kernel

/-- R26 and R36: a third miss by a wrong CRC counts a CRC error and posts NODE_CHANGED with LOST and THIRD_MISS. -/
theorem test_third_crc_miss :
    let s := missing .silent 2 .fits
    let t := after (.seatReplyReceived .a [0xC3, 0x82, 0x42, 0, 0, 0]) s
    (s.port .service).queue.length < 16 ∧ (t.node .a 1).crcErrors = 1 ∧ (t.node .a 1).timeouts = 0 ∧
    (t.port .service).queue.any (fun n => n.kind = .nodeChanged && n.subject = 18 && n.payload = 0x0302) = true := by
  decide +kernel

/-- A capture in flight for position 3. -/
def capturing (s : State) : State := { s with capture := some { position := pos3, count := 15, sum := 15 * 20 } }

/-- The CAPTURE_DONE notices of the service queue: subject and payload. -/
def capturesDone (s : State) : List (Nat × Half) :=
  ((s.port .service).queue.filter fun n => n.kind = .captureDone).map fun n => (n.subject, n.payload)

/-- Position 5 enabled at address 4 of line A, whose node is LOST with the verdict ABSENT, in a scan that does not probe. -/
def skipping (s : State) : State :=
  (({ s with
    scanner := { s.scanner with firstScan := false }
    config := { s.config with map := s.config.map.set 4 { defaultEntry 4 with enabled := true, address := 3 } } }).setNode .a 3
      { NodeRec.fresh with state := .lost, verdict := .absent }).modPos 4 fun r => { r with cls := r.cls.settle .empty .none }

/-- R51: each end of a capture with its result: a miss, a slip, HOLD, a report, an expiry of the freshness timer, a commit. -/
theorem test_capture_ends :
    let s := capturing fitted
    let moved := s.stage pos3 { defaultEntry pos3 with slot := 1 }
    s.boundTo .a 1 pos3 = true ∧ s.capture.map (·.position) = some pos3 ∧ (s.port .service).queue.length ≤ 14 ∧ s.standstill = true ∧
    moved.RebindsTo pos3 { defaultEntry pos3 with slot := 1 } ∧
    capturesDone (after (.replyWindowClose .a) s) = [(3, 0x2000)] ∧
    capturesDone (after (.seatReplyReceived .a (sampleReply 1 0xB8 [adultSample, adultSample])) s) = [(3, 0x2000)] ∧
    capturesDone (send .safety [0x21] s) = [(3, 0x3000)] ∧
    capturesDone (send .cabin [0x40, 3, 9, 1, 0] s) = [(3, 0x3000)] ∧
    capturesDone (after .freshnessTimerExpiry s) = [(3, 0x3000)] ∧
    capturesDone (send .service [0x65] moved) = [(3, 0x4000)] ∧
    (send .service [0x65] (s.stage pos3 { defaultEntry pos3 with z := 5 })).capture = s.capture := by decide +kernel

/-- R49 and R50: the sixteenth load, 36, completes the mean of 15 loads of 20 and one of 36, which is 21; a load of 400 aborts. -/
theorem test_capture_takes_sample :
    let sent (load count : Nat) := after (.seatReplyReceived .a (sampleReply 1 0xB7
      [{ adultSample with load := load }, adultSample]))
        { fitted with capture := some { position := pos3, count := count, sum := 15 * 20 } }
    capturesDone (sent 36 15) = [(3, 21)] ∧ ((sent 36 15).staging.entries.get pos3).map (·.z) = some 21 ∧
    capturesDone (sent 400 15) = [(3, 0x1000)] ∧
    (sent 36 14).capture = some { position := pos3, count := 15, sum := 15 * 20 + 36 } := by decide +kernel

/-- R21 and R34: the skip of an address reaches its position at a scan tick and after an outcome; HOLD makes its class wait. -/
theorem witness_skips :
    let s := skipping fitted
    let held : State := { s with restraint := { s.restraint with hold := some 80000 } }
    s.boundTo .a 3 4 = true ∧ s.nextPoll .a ([0, 1, 2, 3, 4, 5].filter fun b => (1 : Fin 6) < b ∧ b ≤ 3) = none ∧
    ((after (.replyWindowClose .a) s).pos 4).cls.stable = .absent ∧
    ((after (.replyWindowClose .a) held).pos 4).cls.stable = (s.pos 4).cls.stable ∧ (s.pos 4).cls.stable ≠ .absent ∧
    (let t := after .scanTick ((s.setNode .a 1 NodeRec.fresh).setNode .b 0 (s.node .a 1));
      t.nextPoll .a ([0, 1, 2, 3, 4, 5].filter fun b => b ≤ 3) = none ∧ (t.pos 4).cls.stable = .absent) ∧
    ((capturing s).capture.map (·.position) = some pos3 ∧ (capturing s).boundTo .a 0 pos3 = false ∧
      ((capturing s).node .a 1).state = .online) := by
  decide +kernel

/-- The probe of address 2 in the first scan. -/
def probed : State :=
  parked.setExchange .a (some { address := 1, command := .identify, frame := pollFrame 1 .identify })

theorem witness_ValidIdentityReplyIdentifiesAndFits :
    probed.phase = .running ∧ ((probed.scanner.lines.get .a).exchange.map (·.command)) = some .identify ∧
    nodeId.sendable = true ∧ probed.boundTo .a 1 pos3 = true ∧ probed.boundTo .a 1 0 = false := by decide +kernel

/-- The probe of a position that expects another bench: MISFIT. -/
def probedOther : State :=
  { probed with config := { probed.config with
      map := probed.config.map.set 2 { defaultEntry pos3 with matchMode := .exact, identity := 0x52101C } } }

theorem witness_ValidIdentity_fits :
    (probed.entry pos3).fitWith nodeId = .fits ∧ (probed.pos pos3).fit ≠ .fits ∧
    (probedOther.entry pos3).fitWith nodeId = .misfit ∧ probedOther.boundTo .a 1 pos3 = true ∧
    (let t := after (.seatReplyReceived .a (identityReply 1 nodeId)) probedOther;
      (t.pos pos3).cls.cause = .misfit ∧ (t.pos pos3).cls.sequence = 1) := by decide +kernel

theorem witness_ValidSampleReplyRunsPipeline :
    fitted.phase = .running ∧ ((fitted.scanner.lines.get .a).exchange.map (·.command)) = some .sample ∧
    (fitted.node .a 1).identity = some nodeId ∧ nodeId.slots = [adultSample, adultSample].length ∧
    adultSample.sendable = true ∧ fitted.boundTo .a 1 pos3 = true ∧ (fitted.pos pos3).fit = .fits ∧
    (fitted.pos pos3).injection = none ∧ [adultSample, adultSample][(fitted.entry pos3).slot.val]? = some adultSample := by
  decide +kernel

/-- Position 3 with an injected sample, and with a belt state pending once; each is delivered its sample. -/
theorem witness_ValidSample_injected_belt_misfit :
    let s := fitted.modPos pos3 fun r => { r with injection := some { adultSample with load := 30 } }
    let b := fitted.modPos pos3 fun r => { r with buckle := { r.buckle with pending := .unlatched, count := 1 } }
    let reply := Instr.seatReplyReceived .a (sampleReply 1 0xB7 [adultSample, adultSample])
    (s.pos pos3).injection = some { adultSample with load := 30 } ∧ ((after reply s).pos pos3).load.w = 30 ∧
    ((after reply b).pos pos3).buckle.belt ≠ (b.pos pos3).buckle.belt ∧ (b.port .cabin).queue.length < 16 ∧
    ((missing .online 0 .noSlot).pos pos3).fit = .noSlot ∧
    (∀ q : Pos, q < pos3 → fitted.boundTo .a 1 q = false) := by decide +kernel

/-- R130: in ECO a sample whose instant class differs from the stable class wakes the part, and one that delivers nothing to a
position does not. -/
theorem witness_ValidSample_wakes :
    let eco (s : State) : State := { s with vehicle := { s.vehicle with mode := .eco } }
    let reply := Instr.seatReplyReceived .a (sampleReply 1 0xB7 [adultSample, adultSample])
    (eco fitted).vehicle.mode = .eco ∧ (after reply (eco fitted)).vehicle.mode = .run ∧
    ((after reply (eco fitted)).pos pos3).cls.lastInstant ≠ ((eco fitted).standingClass pos3 false).stable ∧
    (after reply (eco (missing .online 0 .misfit))).vehicle.mode = .eco := by decide +kernel

theorem witness_ChangedSerialIsSlip : (0xB8 : Byte) ≠ nodeId.id.extractLsb' 0 8 := by decide

theorem witness_CorrectedLoadAndConcentration :
    adultSample.matFault = false ∧ 1 ≤ adultSample.load ∧ 1 ≤ adultSample.cells := by decide

theorem witness_FilterSeedsAndStepsTowardLoad :
    ({ adultSample with load := 4096 } : SlotSample).matFault = true ∧ adultSample.matFault = false ∧
    LoadRec.cleared.seeded = false ∧ (defaultEntry 0).k ≤ 4 := by decide

theorem witness_BandSettlesInOneSample :
    defaultProfile.valid = true ∧ updateBand defaultProfile 920 0 = 3 ∧ updateBand defaultProfile 39 3 = 0 ∧
    updateBand defaultProfile 359 1 = 1 := by decide

/-- Tags of the four kinds, of one pairing code, and a carrier of another. -/
def baseTag : TagRecord := { id := 0x12A10C3E, orientation := 0, weak := false, mass := 30 }
/-- A carrier that pairs with the base. -/
def carrierTag : TagRecord := { id := 0x22A15507, orientation := 0, weak := false, mass := 40 }
/-- A convertible seat that pairs with the base. -/
def seatTag : TagRecord := { id := 0x32A10001, orientation := 2, weak := false, mass := 50 }
/-- A booster of another pairing code. -/
def boosterTag : TagRecord := { id := 0x43B10001, orientation := 0, weak := true, mass := 20 }

theorem witness_TagsAreScreenedAndReadInPairs :
    baseTag.kind = .base ∧ carrierTag.kind = .carrier ∧ seatTag.kind = .convertible ∧ boosterTag.kind = .booster ∧
    baseTag.pairing = carrierTag.pairing ∧ baseTag.pairing = seatTag.pairing ∧ baseTag.pairing ≠ boosterTag.pairing ∧
    baseTag.orientation ≠ 3 ∧ ({ baseTag with orientation := 3 } : TagRecord).orientation = 3 := by decide

theorem witness_OneTag_readings :
    tagReading [baseTag] = .baseOnly ∧ tagReading [carrierTag] = .carrierRf ∧ tagReading [seatTag] = .seatFf ∧
    tagReading [boosterTag] = .boosterSeat := by decide

/-- One record for each row of the acceptance table. -/
theorem witness_AcceptanceNeedsTwoReadingsAndFourDropouts :
    let c : ChildRec := { ChildRec.cleared with accepted := .baseOnly, dropout := 3 }
    tagReading [baseTag] = c.accepted ∧
    (let weak := { baseTag with weak := true };
      tagReading ([weak].filter fun t => !t.weak) ≠ c.accepted ∧ tagReading [weak] = c.accepted) ∧
    (tagReading [] = .none ∧ c.accepted ≠ .none ∧ c.dropout = 3 ∧ ({ c with dropout := 2 } : ChildRec).dropout ≤ 2) ∧
    (tagReading [seatTag] ≠ .none ∧ tagReading [seatTag] ≠ c.accepted ∧ tagReading [seatTag] ≠ c.pending ∧
      tagReading [seatTag] = ({ c with pending := .seatFf, pendingCount := 1 } : ChildRec).pending) := by decide

theorem witness_ChildLoadFlagHasHysteresis :
    (ChildRec.cleared.accept []).accepted = .none ∧
    ((({ ChildRec.cleared with accepted := .seatFf, loadFlag := true } : ChildRec).accept [seatTag]).accepted ≠ .none) ∧
    ({ adultSample with statusFault := true } : SlotSample).matFault = true ∧ adultSample.matFault = false := by decide

/-- Bands 2 and 3 with a rigid load, a person and neither. -/
theorem witness_InstantClassOfSample :
    let p := defaultProfile
    (p.nMin ≤ 9 ∧ 14 ≤ p.kHuman ∧ ¬ 14 ≤ p.kRigid) ∧ (8 ≤ 9 ∧ 11 ≤ p.kRigid) ∧ ¬ p.nMin ≤ 5 ∧
    (PosRec.fresh true 0).child.accepted = .none := by decide

theorem witness_VotesCountTowardRequiredNumber :
    (ClassRec.fresh false 0).underDirect = true ∧ (ClassRec.fresh true 0).underDirect = false ∧
    (ClassRec.fresh true 0).stable = .unresolved ∧
    ((ClassRec.fresh true 0).vote .adult).candidate = .adult ∧
    (ClassRec.fresh false 0).stable ≠ .unresolved ∧ (ClassRec.fresh true 0).settle .empty .none ≠ .fresh true 0 := by decide

theorem witness_ClassChangeRaisesSequenceAndTellsPorts :
    (parked.port .safety).queue.length < 16 ∧ parked.airbag ≠ some 0 ∧ parked.airbag = some pos3 := by decide +kernel

/-- Outcomes handed over: an identification and a SILENT node; and nodes that ask for each direct class. -/
theorem witness_OutcomeHandedOver :
    let n : NodeRec := { NodeRec.fresh with state := .lost, verdict := .fault }
    let h : Handover := { node := .online, direct := none, identified := true, sample := none }
    directAsked n .unchecked = some (.fault .nodeLost) ∧
    directAsked { n with verdict := .absent } .unchecked = some .absent ∧
    directAsked { n with state := .silent } .misfit = some (.fault .misfit) ∧
    (h.direct = none ∧ h.node = .online) ∧ ({ h with node := .silent, identified := false } : Handover).node ≠ .online ∧
    fitted.restraint.suppression = fitted.decision := by decide +kernel

theorem witness_BeltChangesAtSecondEqualSample :
    let b : BeltRec := { belt := .latched, pending := .unlatched, count := 1 }
    decodeBuckle 1 = b.belt ∧ decodeBuckle 2 ≠ b.belt ∧ decodeBuckle 2 = b.pending ∧ b.count = 1 ∧
    ¬ (decodeBuckle 3 = b.pending ∧ b.count = 1) ∧ decodeBuckle 3 ≠ b.belt := by decide

/-- A belt state pending once, taken at a sample or lost with the capability. -/
theorem witness_BeltTaken :
    let b := fitted.modPos pos3 fun r => { r with buckle := { belt := .latched, pending := .unlatched, count := 1 } }
    ((b.pos pos3).buckle.debounce (decodeBuckle adultSample.buckle)).belt ≠ (b.pos pos3).buckle.belt ∧
    (b.pos pos3).beltCap = true ∧ (b.port .cabin).queue.length < 16 ∧ (b.pos pos3).buckle.belt ≠ .none := by decide +kernel

theorem witness_ReminderTickLowersRunningTimers :
    (reminding .grace 60).phase = .running ∧ ((reminding .grace 60).pos 0).cls.stable ≠ .fault ∧
    ((reminding .muted 0).pos 0).reminder.step = .muted := by decide

/-- The same state with other reminder times. -/
def withTimes (visual audible : Nat) (s : State) : State :=
  { s with config := { s.config with settings := { s.config.settings with visualTime := visual, audibleTime := audible } } }

theorem witness_GraceExpiryShowsVisual :
    let s := reminding .grace 0
    s.phase = .running ∧ (s.pos 0).reminder.step = .grace ∧ (s.pos 0).cls.stable ≠ .fault ∧
    s.config.settings.visualTime ≠ 0 ∧
    ((withTimes 0 5 s).config.settings.visualTime = 0 ∧ ((withTimes 0 5 s).entry 0).reminderClass = .full ∧
      (withTimes 0 5 s).config.settings.audibleTime ≠ 0) ∧
    ((withTimes 0 0 s).config.settings.visualTime = 0 ∧ (withTimes 0 0 s).config.settings.audibleTime = 0) ∧
    ((reminding .idle 0).pos 0).reminder.step ≠ .grace := by decide +kernel

theorem witness_VisualExpirySoundsAndAudibleExpiryLapses :
    let s := reminding .visual 0
    ((s.pos 0).reminder.step = .visual ∧ (s.pos 0).cls.stable ≠ .fault ∧ (s.entry 0).reminderClass = .full) ∧
    s.config.settings.audibleTime ≠ 0 ∧ (withTimes 5 0 s).config.settings.audibleTime = 0 ∧ s.phase = .running ∧
    ((reminding .audible 0).pos 0).reminder.step = .audible ∧ ((reminding .idle 0).pos 0).reminder.step ≠ .visual := by
  decide +kernel

theorem witness_ReminderStartsWhenUnderwayUnbelted :
    let s := reminding .idle 0
    ((s.pos 0).reminder.step = .idle ∧ (s.pos 0).cls.stable = .adult ∧ (s.pos 0).buckle.belt = .unlatched ∧
      (s.entry 0).reminderClass = .full ∧ s.vehicle.ignition = .run ∧
      s.config.settings.speedThreshold ≤ s.vehicle.speed ∧ s.config.settings.graceTime ≠ 0) ∧
    (let t : State := { s with config := { s.config with settings := { s.config.settings with graceTime := 0, visualTime := 0 } } };
      t.config.settings.graceTime = 0 ∧ t.config.settings.visualTime = 0 ∧ (t.entry 0).reminderClass = .full ∧
      (t.pos 0).reminder.step = .idle ∧ t.config.settings.speedThreshold ≤ t.vehicle.speed) ∧
    ((parked.pos 0).reminder.step = .idle ∧ parked.vehicle.ignition ≠ .run) := by decide +kernel

/-- A position for each row of an evaluation: a cause of return, a slow GRACE, a VISUAL timer at 0, frozen, and none of these. -/
theorem witness_ReminderReturns :
    let latched := (reminding .audible 9).modPos 0 fun r => { r with buckle := { r.buckle with belt := .latched } }
    let slow := { reminding .grace 9 with vehicle := { driving.vehicle with speed := 9 } }
    let frozen := (reminding .visual 0).modPos 0 fun r => { r with cls := r.cls.settle .fault .matFault }
    ((latched.pos 0).reminder.step ≠ .idle ∧ (latched.pos 0).buckle.belt = .latched) ∧
    ((slow.pos 0).reminder.step = .grace ∧ slow.vehicle.speed < slow.config.settings.speedThreshold) ∧
    (((reminding .visual 0).pos 0).reminder.timer = 0 ∧ ((reminding .visual 0).entry 0).reminderClass = .full ∧
      (reminding .visual 0).config.settings.audibleTime ≠ 0 ∧ ((reminding .visual 0).pos 0).cls.stable = .adult) ∧
    (withTimes 5 0 (reminding .visual 0)).config.settings.audibleTime = 0 ∧
    ((frozen.pos 0).cls.stable = .fault ∧ ((frozen.evaluate 0).pos 0).reminder.step = .visual) ∧
    (((reminding .muted 0).evaluate 0).pos 0).reminder.step = .muted := by decide +kernel

theorem witness_UnconfirmedAudibleIsReissued :
    let s := reminding .audible 960
    ((s.pos 0).reminder.step = .audible ∧ (s.pos 0).reminder.confirmed = false ∧ (s.pos 0).cls.stable ≠ .fault) ∧
    (s.pos 0).reminder.scans + 1 < s.config.settings.reissueInterval ∧
    (let t := s.modPos 0 fun r => { r with reminder := { r.reminder with scans := 7, reissues := 15 } };
      t.config.settings.reissueInterval ≤ (t.pos 0).reminder.scans + 1 ∧ (t.pos 0).reminder.reissues ≤ 15) := by
  decide +kernel

/-- An audible position whose node is ONLINE, at a scan tick that asks again. -/
theorem witness_ScanTickAsksAgain :
    let s := ((reminding .audible 960).setNode .a 0 { NodeRec.fresh with state := .online }).modPos 0
      fun r => { r with reminder := { r.reminder with scans := 7 } }
    s.phase = .running ∧ (s.node (s.entry 0).line (s.entry 0).address).state = .online ∧ (s.port .cabin).queue = [] ∧
    s.config.settings.reissueInterval ≤ (s.pos 0).reminder.scans + 1 ∧
    ((after .scanTick s).pos 0).reminder.reissues = 1 := by decide +kernel

theorem witness_ConfirmAndMuteActInAudibleOnly :
    let s := reminding .audible 960
    s.ready .cabin ∧ soundFrame 0x41 [1] 0xBE ∧ soundFrame 0x41 [17] 0xAE ∧ soundFrame 0x42 [16] 0xAE ∧
    soundFrame 0x42 [0] 0xBE ∧ (1 : Byte).toNat = (0 : Pos).val + 1 ∧ (16 : Byte).toNat = (15 : Pos).val + 1 ∧
    (s.pos 0).reminder.step = .audible ∧ (parked.pos 0).reminder.step ≠ .audible ∧ parked.ready .cabin := by decide +kernel

/-- R103: two muted positions, the last one too, are told to the cabin port. -/
theorem witness_Mute_tells :
    let s := (reminding .audible 960).modPos 15 fun r => { r with reminder := { r.reminder with step := .audible } }
    let t := send .cabin [0x42, 0] s
    (s.port .cabin).queue.length + (15 : Pos).val < 16 ∧ (s.pos 15).reminder.step = .audible ∧ s.ready .cabin ∧
    (t.port .cabin).queue.map (fun n => (n.kind, n.subject, n.payload)) =
      [(.reminderChanged, 1, 4), (.reminderChanged, 16, 4)] := by decide +kernel

/-- R107 and R108: the decision of each kind of class of the airbag position, and without one; a change to ADULT is told. -/
theorem test_decision :
    let with3 (c : OccClass) : State := parked.modPos pos3 fun r => { r with cls := r.cls.settle c .none }
    let none3 : State := { parked with config := { parked.config with
      map := parked.config.map.set 2 { defaultEntry pos3 with airbagZone := false } } }
    let t := parked.changeClass true .adult .none pos3
    parked.airbag = some pos3 ∧ none3.decision = .suppress ∧ (with3 .adult).decision = .enable ∧
    (with3 .fault).decision = .indeterminate ∧ (with3 .unresolved).decision = .indeterminate ∧
    (with3 .small).decision = .suppress ∧ parked.restraint.suppression = .indeterminate ∧ t.restraint.suppression = .enable ∧
    t.restraint.pso = .low ∧ (t.port .safety).queue.map (fun n => (n.kind, n.subject, n.payload)) =
      [(.classChanged, 3, 0xB001), (.suppressionChanged, 0, 0x0001)] := by decide +kernel

theorem witness_HoldLoadsTimerAndPushesSnapshot : parked.ready .safety ∧ soundFrame 0x21 [] 0xDF := by decide +kernel

theorem witness_HoldEndsByReleaseOrExpiry :
    held.ready .safety ∧ soundFrame 0x22 [] 0xDE ∧ held.holdActive = true ∧ held.staging.deferred = false ∧
    held.phase = .running ∧ parked.holdActive = false ∧ parked.restraint.lastExpired = false ∧
    (after .holdTimerExpiry held).restraint.lastExpired = true := by decide +kernel

theorem witness_SnapshotCommandsReadPopAndClear :
    let s := { parked with restraint := { parked.restraint with snapshots := [shot, shot, shot, shot] } }
    s.ready .safety ∧ soundFrame 0x23 [3] 0xDA ∧ s.restraint.snapshots[(3 : Byte).toNat]? = some shot ∧
    soundFrame 0x23 [4] 0xD9 ∧ 3 < (4 : Byte).toNat ∧ soundFrame 0x24 [] 0xDC ∧ parked.restraint.snapshots = [] ∧
    s.ready .service ∧ soundFrame 0x70 [] 0x90 ∧ s.gateOpen := by decide +kernel

/-- A taken report at each end of the codes, and one of each kind of refused report. -/
theorem witness_VehicleReportIsStoredAndTakesEffect :
    parked.ready .cabin ∧ soundFrame 0x40 [0, 0, 0, 0] 0xC0 ∧ soundFrame 0x40 [1, 255, 1, 1] 0xBE ∧
    soundFrame 0x40 [3, 250, 1, 0] 0xC2 ∧ soundFrame 0x40 [4, 0, 0, 0] 0xBC ∧ soundFrame 0x40 [2, 0, 2, 0] 0xBC ∧
    soundFrame 0x40 [2, 0, 0, 2] 0xBC ∧ driving.ready .cabin ∧ driving.vehicle.ignition = .run ∧ driving.watching = false ∧
    driving.staging.deferred = false ∧ parked.standstill = true ∧
    (send .cabin [0x40, 3, 250, 1, 0] parked).standstill = false := by decide +kernel

/-- R131: a report that ends standstill in test mode posts TEST_MODE_ENDED with the mask of injections, here position 3's. -/
theorem test_report_ends_test_mode :
    let s := { fitted with vehicle := { fitted.vehicle with testMode := true } }.modPos pos3
      fun r => { r with injection := some adultSample }
    let t := send .cabin [0x40, 3, 9, 1, 0] s
    s.standstill = true ∧ t.standstill = false ∧ (s.port .service).queue.length ≤ 14 ∧
    (t.port .service).queue.any (fun n => n.kind = .testModeEnded && n.payload = 4) = true := by decide +kernel

/-- R93 (c): a report of RUN above the speed threshold starts a reminder, and no commit is pending. -/
theorem witness_report_evaluates :
    let s := { reminding .idle 0 with vehicle := parked.vehicle }
    let t := send .cabin [0x40, 3, 30, 1, 0] s
    s.ready .cabin ∧ s.staging.deferred = false ∧ (t.pos 0).reminder.step = .grace := by decide +kernel

theorem witness_FreshnessExpiryLosesStandstill :
    State.reset.vehicle.isFresh = false ∧ driving.vehicle.isFresh = true ∧ driving.standstill = false ∧
    parked.standstill = true ∧ parked.phase = .running ∧ driving.phase = .running ∧
    parked.ports.service.queue.length ≤ 14 := by decide +kernel

/-- Parked, with the watch active and position 1 marked, holding a class. -/
def watchingFor (c : OccClass) : State :=
  { parked with vehicle := { parked.vehicle with watch := some 240000 } }.modPos 0
    fun r => { r with watched := true, cls := r.cls.settle c .none }

theorem witness_WatchExpiryRepeatsOrEnds :
    (watchingFor .small).phase = .running ∧ (watchingFor .small).watching = true ∧
    ((watchingFor .small).pos 0).cls.stable.leftBehind = true ∧ ((watchingFor .small).pos 0).watched = true ∧
    ((watchingFor .empty).pos 0).cls.stable.leftBehind = false ∧ parked.watching = false ∧
    (watchingFor .small).ports.cabin.queue.length ≤ 15 ∧ (watchingFor .small).ready .cabin ∧
    soundFrame 0x43 [] 0xBD := by decide +kernel

theorem witness_EcoCountdownAndAgeLimitTakeEffect :
    let s := { parked with vehicle := { parked.vehicle with eco := some 0 } }
    s.phase = .running ∧ s.vehicle.eco.isSome = true ∧ parked.vehicle.eco = none ∧
    s.config.settings.valid = true ∧ (s.port .service).queue.isEmpty = false ∧ (s.port .cabin).queue.isEmpty = true := by
  decide +kernel

theorem witness_StagingCommandsChangeStagingAlone :
    let entry : Vector Byte 17 := #v[0x0F, 0x01, 0x01, 0, 2, 1, 0, 0, 0, 3, 0, 0, 0, 0, 0x04, 0x00, 2]
    let bad : Vector Byte 17 := entry.set 0 0x1F
    parked.ready .service ∧ (let b := 16 :: entry.toList; soundFrame 0x62 b (checkByte (0x62 :: b))) ∧
    entry.toList = (defaultEntry pos3).bytes ∧ (defaultEntry pos3).inRange = true ∧ MapEntry.ofBytes bad.toList = none ∧
    (16 : Byte).toNat = (15 : Pos).val + 1 ∧ parked.staging.deferred = false ∧
    (let s := { staged with staging := { staged.staging with deferred := true } };
      s.ready .service ∧ s.staging.deferred = true) ∧
    soundFrame 0x63 [7, 10] 0x8C ∧ soundFrame 0x63 [7, 7] 0x8F ∧ soundFrame 0x64 [] 0x9C := by decide +kernel

/-- One staged state for each case of R12. -/
theorem witness_CommitMapDecidesByFirstCase :
    (∃ p : Pos, (staged.staging.entries.get p).isSome = true) ∧ staged.ready .service ∧ soundFrame 0x65 [] 0x9B ∧
    staged.holdActive = false ∧ staged.saving = false ∧ staged.staging.deferred = false ∧ staged.standstill = true ∧
    mapConsistent staged.stagedMap = true ∧
    mapConsistent (parked.stage 3 { defaultEntry 3 with enabled := true }).stagedMap = false ∧
    ({ staged with vehicle := driving.vehicle } : State).standstill = false ∧
    ({ staged with restraint := held.restraint } : State).holdActive = true ∧
    ({ staged with saveImage := savingNow.saveImage } : State).saving = true ∧
    (¬ ∃ p : Pos, (parked.staging.entries.get p).isSome = true) ∧
    ((defaultEntry pos3).moved { defaultEntry pos3 with slot := 1 } = true) := by decide +kernel

/-- Staged positions of each kind: rebound, disabled, kept with its node's identity asked anew, and kept as it was. -/
theorem witness_CommittedPositions :
    let old := defaultEntry pos3
    let asked : MapEntry := { old with matchMode := .exact, identity := 0x52101C }
    fitted.RebindsTo pos3 { old with slot := 1 } ∧ fitted.RebindsTo pos3 { old with enabled := false } ∧
    (¬ fitted.RebindsTo pos3 asked ∧ asked.enabled = true ∧ asked.identity ≠ (fitted.entry pos3).identity ∧
      fitted.found asked = .misfit) ∧
    fitted.found { old with slot := 1 } = .fits ∧ fitted.found { old with slot := 2 } = .noSlot ∧
    fitted.found { old with address := 5 } = .unchecked ∧
    (¬ fitted.RebindsTo pos3 { old with z := 5 } ∧ (fitted.port .safety).queue = []) ∧
    ({ old with reminderClass := .none } : MapEntry).reminderClass = .none ∧
    ((send .service [0x65] (fitted.stage pos3 asked)).pos pos3).cls.cause = .misfit := by decide +kernel

/-- A kept position whose belt and child-seat capability a commit takes away, its records legal before it. -/
theorem witness_Committed_kept :
    let e : MapEntry := { defaultEntry pos3 with childCapable := false, beltSensed := false }
    let s := fitted.modPos pos3 fun r =>
      { r with buckle := { r.buckle with belt := .latched }, child := { r.child with accepted := .seatRf } }
    (s.pos pos3).CapLegal (s.entry pos3).enabled ∧ ¬ s.RebindsTo pos3 e ∧
    (let t := send .service [0x65] (s.stage pos3 e);
      (t.pos pos3).child = .cleared ∧ (t.pos pos3).buckle = .cleared) := by decide +kernel

/-- A pending commit, with what keeps it waiting. -/
def pendingWith (s : State) : State := { s with staging := { staged.staging with deferred := true } }

theorem witness_DeferredCommitAppliesWhenAllThreeHold :
    (pendingWith held).staging.deferred = true ∧ (pendingWith held).ready .safety ∧ (pendingWith held).holdActive = true ∧
    (after .holdTimerExpiry (pendingWith held)).gateOpen ∧
    (pendingWith savingNow).saving = true ∧ (after (.saveEnd smallImage) (pendingWith savingNow)).gateOpen ∧
    (pendingWith driving).ready .cabin ∧ (send .cabin [0x40, 1, 0, 0, 0] (pendingWith driving)).gateOpen ∧
    ¬ (send .cabin [0x40, 3, 9, 1, 0] (pendingWith driving)).gateOpen ∧
    (pendingWith held).ports.service.queue.length ≤ 13 := by decide +kernel

/-- A pending commit that the expiry of HOLD applies at a position that it rebinds, while other positions have no staged entry. -/
theorem witness_Deferred_records :
    let e : MapEntry := { defaultEntry pos3 with slot := 1 }
    let s := { held with staging := { (held.stage pos3 e).staging with deferred := true } }
    s.staging.entries.get pos3 = some e ∧ s.staging.entries.get (0 : Pos) = none ∧ s.RebindsTo pos3 e ∧
    (s.port .safety).queue = [] ∧ s.phase = .running ∧
    (let t := after .holdTimerExpiry s; t.gateOpen ∧ (t.pos pos3).cls.sequence ≠ (s.pos pos3).cls.sequence) := by
  decide +kernel

theorem witness_ZeroCaptureGathersSixteenLoads :
    fitted.ready .service ∧ soundFrame 0x66 [3] 0x97 ∧ soundFrame 0x66 [0] 0x9A ∧ fitted.gateOpen ∧ fitted.capture = none ∧
    fitted.staging.deferred = false ∧
    ((fitted.entry pos3).enabled = true ∧ (fitted.pos pos3).fit = .fits ∧
      (fitted.node (fitted.entry pos3).line (fitted.entry pos3).address).state = .online) ∧
    (let c : Capture := { position := pos3, count := 15, sum := 15 * 399 };
      c.position = pos3 ∧ c.count = 15 ∧ c.sum ≤ 15 * 399 ∧ c.position ≠ 0) ∧
    (400 ≤ ({ adultSample with load := 400 } : SlotSample).load) ∧
    ({ adultSample with load := 399 } : SlotSample).matFault = false := by decide +kernel

/-- The bytes of the default profile and settings, and the same with a field out of range. -/
theorem witness_ProfilesAndSettingsAreReplacedThroughGate :
    let v : Vector Byte 31 := Vector.ofFn fun i => defaultProfile.bytes.getD i 0
    let w : Vector Byte 24 := Vector.ofFn fun i => defaultSettings.bytes.getD i 0
    v.toList = defaultProfile.bytes ∧ w.toList = defaultSettings.bytes ∧ defaultProfile.valid = true ∧
    defaultSettings.valid = true ∧ Profile.ofBytes (v.set 18 0).toList = none ∧ Settings.ofBytes (w.set 7 5).toList = none ∧
    parked.ready .service ∧ parked.gateOpen ∧
    (let b := 3 :: v.toList; soundFrame 0x68 b (checkByte (0x68 :: b))) ∧
    soundFrame 0x6A w.toList (checkByte (0x6A :: w.toList)) ∧ soundFrame 0x67 [3] 0x96 ∧ soundFrame 0x67 [4] 0x95 ∧
    soundFrame 0x69 [] 0x97 := by decide +kernel

theorem witness_SaveMarksStoreCompleteOnlyWhenReadBackAgrees :
    parked.ready .service ∧ soundFrame 0x6B [] 0x95 ∧ parked.gateOpen ∧ savingNow.phase = .running ∧
    savingNow.saveImage = some smallImage ∧ savingNow.staging.deferred = false ∧ parked.saveImage = none ∧
    (let t := after (.saveEnd smallImage) (pendingWith savingNow);
      (pendingWith savingNow).staging.deferred = true ∧ t.store.complete = true ∧ t.staging.deferred = false) := by
  decide +kernel

theorem witness_TestModeAndInjectionFollowTheirChecks :
    let s := { fitted with vehicle := { fitted.vehicle with testMode := true } }
    let v : Vector Byte 20 := #v[5, 0, 9, 1, 4, 1, 3, 2, 0, 0, 0, 0, 0, 0, 0, 0, 0, 0, 0, 0]
    s.ready .service ∧ s.gateOpen ∧ s.vehicle.testMode = true ∧ s.serves pos3 = true ∧ parked.vehicle.testMode = false ∧
    parked.gateOpen ∧ soundFrame 0x6D [1] 0x92 ∧ soundFrame 0x6D [2] 0x91 ∧ soundFrame 0x6D [0] 0x93 ∧
    (let b := 3 :: v.toList; soundFrame 0x6E b (checkByte (0x6E :: b))) ∧
    ((v.get 5).toNat ≤ 1 ∧ (v.get 6).toNat ≤ 3 ∧ (v.get 7).toNat ≤ 2) ∧ 2 < ((v.set 7 3).get 7).toNat ∧
    soundFrame 0x6F [16] 0x81 ∧ soundFrame 0x6F [17] 0x80 := by decide +kernel

theorem witness_PortTakesOneFrameAtATime :
    parked.ready .cabin ∧
    (let s := send .cabin [0x01] parked;
      s.phase = .running ∧ (s.port .cabin).assembler ≠ .discarding ∧ (s.port .cabin).reply.isSome = true ∧
      ((after (.frameDiscarded .cabin) s).port .cabin).assembler = .discarding) ∧
    (Instr.hold .cabin 0xDF).wellFormed = true ∧ (Instr.hold .cabin 0xDF).sentOn = some .cabin := by decide +kernel

/-- Characters that go on with a frame, complete one, are discarded, and come while the port does not listen. -/
theorem witness_CharactersMakeFrames :
    (begun .cabin [0x40, 3] parked).ready .cabin ∧ [(0x40 : Byte), 3, 25].length < frameLength 0x40 ∧
    [(0x21 : Byte), 0xDF].length = frameLength 0x21 ∧ [(0x99 : Byte), 0x67].length = frameLength 0x99 ∧
    ((parked.setPort .cabin { parked.port .cabin with assembler := .discarding }).port .cabin).assembler = .discarding ∧
    (let s := send .cabin [0x01] parked; s.phase = .running ∧ (s.port .cabin).reply.isSome = true ∧
      (s.port .cabin).assembler ≠ .discarding) ∧
    (after .resetLineAssert parked).phase = .resetLow ∧ (after .powerOn parked).phase = .loading ∧
    ({ parked with incoming := [(.safety, 0x21)] } : State).pending = [] := by decide +kernel

theorem witness_UnsoundFramesAreRefusedInOrder :
    parked.ready .cabin ∧ (Instr.hold .cabin 0xDF).frame = some [0x21, 0xDF] ∧ byteSum [0x21, 0xDF] = 0 ∧
    (operandLength 0x21).isSome = true ∧ byteSum [0x21, 0xDE] ≠ 0 ∧
    (Instr.unknownCommand .cabin 0x99 0x67).wellFormed = true ∧ byteSum [0x99, 0x67] = 0 ∧ operandLength 0x99 = none := by
  decide +kernel

/-- A queue of a number of notices of different subjects. -/
def queueOf (n : Nat) : List Notice :=
  (List.range n).map fun i => { kind := .beltChanged, subject := i, payload := 1, scan := 0, waited := 3 }

theorem witness_PostedNoticeCoalescesAppendsOrOverflows :
    (∃ n ∈ queueOf 16, n.kind = .beltChanged ∧ n.subject = 15) ∧ (queueOf 15).length < 16 ∧
    (¬ ∃ n ∈ queueOf 16, n.kind = .beltChanged ∧ n.subject = 16) ∧ 16 ≤ (queueOf 16).length := by decide +kernel

theorem witness_NoticesAndStatusAreReadAtOneMoment :
    parked.ready .service ∧ soundFrame 0x05 [] 0xFB ∧ soundFrame 0x02 [] 0xFE ∧ (parked.port .service).queue.length = 1 ∧
    (parked.port .cabin).queue = [] ∧ parked.ready .cabin := by decide +kernel

theorem witness_ReadsReturnTheirRecordsAndChangeNothing :
    parked.ready .service ∧ parked.ready .safety ∧ soundFrame 0x01 [] 0xFF ∧ soundFrame 0x03 [] 0xFD ∧
    soundFrame 0x04 [16] 0xEC ∧ soundFrame 0x04 [17] 0xEB ∧ soundFrame 0x20 [] 0xE0 ∧ soundFrame 0x60 [1] 0x9F ∧
    soundFrame 0x61 [16] 0x8F ∧ soundFrame 0x6C [1, 6] 0x8D ∧ soundFrame 0x6C [2, 6] 0x8C ∧ soundFrame 0x6C [0, 7] 0x8D ∧
    (1 : Byte).toNat = lineCode .b ∧ (6 : Byte).toNat = (5 : Fin 6).val + 1 := by decide +kernel

/-- A state that satisfies every rule that each step keeps, with a command waiting. -/
def legalWaiting : State := { State.reset with pending := [.scanTick] }

theorem witness_EveryStepKeepsQueuesLegal : legalWaiting.QueuesLegal ∧ legalWaiting.AssemblersLegal := by decide +kernel
theorem witness_EveryStepKeepsAssemblersLegal : (begun .cabin [0x40, 3] parked).AssemblersLegal := by decide +kernel
theorem witness_EveryStepKeepsConfigurationLegal : legalWaiting.FieldsLegal ∧ legalWaiting.MapLegal := by decide +kernel
theorem witness_EveryStepKeepsRecordsLegal : legalWaiting.RecordsLegal ∧ legalWaiting.CapabilitiesLegal := by decide +kernel
theorem witness_EveryStepKeepsRemindersLegal : legalWaiting.RemindersLegal := by decide +kernel
theorem witness_EveryStepKeepsDecisionLineTrue : legalWaiting.LineLegal := by decide +kernel
theorem witness_EveryStepKeepsEcoLegal : legalWaiting.EcoLegal := by decide +kernel

theorem witness_EveryStepKeeps_steps : step legalWaiting = .next (after .scanTick State.reset) := rfl

theorem witness_HoldFreezesClassesSuppressionAndMap :
    step { held with pending := [.reminderTick] } = .next (after .reminderTick held) ∧ held.holdActive = true ∧
    (after .reminderTick held).holdActive = true := ⟨rfl, by decide +kernel, by decide +kernel⟩

end Sys2Proof.Tests
end

