-- ==== Sys2Proof/Proofs/MapEntryBytes.lean ====
section
/-! Numbers, codes and map entries as bytes: every reading of bytes is the inverse of the writing, and the 17 bytes of a map
entry read back exactly where they are those of an entry in its ranges (R1, R9, spec 11.3, 11.5). -/

namespace Sys2Proof.Machine

/-! ## Numbers as bytes -/

@[simp] theorem toNat_oneByte (n : Nat) : (oneByte n).toNat = n % 256 := BitVec.toNat_ofNat n 8

theorem toNat_oneByte_of_lt {n : Nat} (h : n < 256) : (oneByte n).toNat = n := by rw [toNat_oneByte, Nat.mod_eq_of_lt h]

@[simp] theorem oneByte_toNat (b : Byte) : oneByte b.toNat = b :=
  BitVec.eq_of_toNat_eq (by rw [toNat_oneByte]; exact Nat.mod_eq_of_lt b.isLt)

/-- Two bytes written as a number and taken apart again. -/
@[simp] theorem twoBytes_fromBytes (hi lo : Byte) : twoBytes (fromBytes hi lo) = [hi, lo] := by
  have hlo := lo.isLt
  have hhi : (fromBytes hi lo) / 256 = hi.toNat := by unfold fromBytes; omega
  have hmod : oneByte (fromBytes hi lo) = lo := by
    apply BitVec.eq_of_toNat_eq
    rw [toNat_oneByte]; unfold fromBytes; omega
  rw [twoBytes, hhi, hmod, oneByte_toNat]

/-- A number that fits two bytes, read back from them. -/
theorem fromBytes_oneByte {n : Nat} (h : n < 65536) : fromBytes (oneByte (n / 256)) (oneByte n) = n := by
  simp only [fromBytes, toNat_oneByte]; omega

/-- Two bytes read as a signed number and written again. -/
theorem signedBytes_signedAt (b : List Byte) (i : Nat) : signedBytes (signedAt b i) = [byteAt b i, byteAt b (i + 1)] := by
  have hhi := (byteAt b i).isLt
  have hlo := (byteAt b (i + 1)).isLt
  have hword : (signedAt b i % 65536).toNat = fromBytes (byteAt b i) (byteAt b (i + 1)) := by
    simp only [signedAt, numberAt, fromBytes]; omega
  rw [signedBytes, hword, twoBytes_fromBytes]

/-- A signed number that fits two bytes, read back from them. -/
theorem signedAt_of_bytes {b : List Byte} {i : Nat} {z : Int} (hlow : -32768 ≤ z) (hhigh : z ≤ 32767)
    (hbytes : [byteAt b i, byteAt b (i + 1)] = signedBytes z) : signedAt b i = z := by
  obtain ⟨hhi, hlo⟩ : byteAt b i = oneByte ((z % 65536).toNat / 256) ∧ byteAt b (i + 1) = oneByte (z % 65536).toNat := by
    simpa [signedBytes, twoBytes] using hbytes
  simp only [signedAt, numberAt, hhi, hlo, fromBytes_oneByte (show (z % 65536).toNat < 65536 by omega)]
  split <;> omega

/-- A record is the list of its bytes. -/
theorem eq_map_byteAt {b : List Byte} {n : Nat} (h : b.length = n) : b = (List.range n).map (byteAt b) := by
  apply List.ext_getElem (by simp [h])
  intro i hi _
  simp [byteAt, hi]

/-! ## Codes -/

theorem SeatKind.ofCode_eq_some {n : Nat} {x : SeatKind} : SeatKind.ofCode n = some x ↔ n = x.code := by
  constructor
  · intro h
    unfold SeatKind.ofCode at h
    split at h <;> cases h <;> rfl
  · rintro rfl; cases x <;> rfl

theorem MatchMode.ofCode_eq_some {n : Nat} {x : MatchMode} : MatchMode.ofCode n = some x ↔ n = x.code := by
  constructor
  · intro h
    unfold MatchMode.ofCode at h
    split at h <;> cases h <;> rfl
  · rintro rfl; cases x <;> rfl

theorem ReminderClass.ofCode_eq_some {n : Nat} {x : ReminderClass} : ReminderClass.ofCode n = some x ↔ n = x.code := by
  constructor
  · intro h
    unfold ReminderClass.ofCode at h
    split at h <;> cases h <;> rfl
  · rintro rfl; cases x <;> rfl

theorem lineOfCode_eq_some {n : Nat} {x : Line} : lineOfCode n = some x ↔ n = lineCode x := by
  constructor
  · intro h
    unfold lineOfCode at h
    split at h <;> cases h <;> rfl
  · rintro rfl; cases x <;> rfl

theorem SeatKind.code_lt (x : SeatKind) : x.code < 256 := by cases x <;> decide

theorem MatchMode.code_lt (x : MatchMode) : x.code < 256 := by cases x <;> decide

theorem ReminderClass.code_lt (x : ReminderClass) : x.code < 256 := by cases x <;> decide

theorem lineCode_lt (x : Line) : lineCode x < 256 := by cases x <;> decide

theorem indexFromOne_eq_some {n : Nat} {b : Byte} {i : Fin n} : indexFromOne n b = some i ↔ b.toNat = i.val + 1 := by
  have hi := i.isLt
  unfold indexFromOne
  split
  · rw [Option.some_inj, Fin.ext_iff]; simp only; omega
  · simp only [reduceCtorEq, false_iff]; omega

theorem indexFromZero_eq_some {n : Nat} {b : Byte} {i : Fin n} : indexFromZero n b = some i ↔ b.toNat = i.val := by
  have hi := i.isLt
  unfold indexFromZero
  split
  · rw [Option.some_inj, Fin.ext_iff]
  · simp only [reduceCtorEq, false_iff]; omega

/-- A flags byte with bits 7 to 4 clear is written again from its four flags. -/
theorem flagsByte_bits {b : Byte} (h : b.toNat < 16) :
    flagsByte [b[0], b[1], b[2], b[3]] = b := by
  revert b; decide

/-- The four flags of a flags byte, bit 0 first, and its bits 7 to 4 clear. -/
theorem flagsByte_reads (x y z w : Bool) :
    (flagsByte [x, y, z, w])[0] = x ∧ (flagsByte [x, y, z, w])[1] = y ∧
    (flagsByte [x, y, z, w])[2] = z ∧ (flagsByte [x, y, z, w])[3] = w ∧
    (flagsByte [x, y, z, w]).toNat < 16 := by
  revert x y z w; decide

/-- A word with one more byte behind it, as a number. -/
theorem toNat_append_byte {n : Nat} (x : BitVec n) (y : Byte) : (x ++ y).toNat = x.toNat * 256 + y.toNat := by
  rw [BitVec.toNat_append, ← Nat.shiftLeft_add_eq_or_of_lt y.isLt, Nat.shiftLeft_eq]

theorem identityAt_toNat (b : List Byte) (i : Nat) :
    (identityAt b i).toNat = (byteAt b i).toNat * 65536 + (byteAt b (i + 1)).toNat * 256 + (byteAt b (i + 2)).toNat := by
  rw [identityAt, toNat_append_byte, toNat_append_byte]; omega

/-- The three bytes of an identity as numbers: model first (R1, spec 11.3). -/
theorem identityBytes_eq (x : BitVec 24) :
    identityBytes x = [oneByte (x.toNat / 65536), oneByte (x.toNat / 256), oneByte x.toNat] := by
  simp [identityBytes, oneByte, ← BitVec.toNat_inj, BitVec.extractLsb'_toNat, Nat.shiftRight_eq_div_pow]

/-- Three bytes read as an identity and written again. -/
theorem identityBytes_identityAt (b : List Byte) (i : Nat) :
    identityBytes (identityAt b i) = [byteAt b i, byteAt b (i + 1), byteAt b (i + 2)] := by
  have h0 := (byteAt b i).isLt
  have h1 := (byteAt b (i + 1)).isLt
  have h2 := (byteAt b (i + 2)).isLt
  simp only [identityBytes_eq, identityAt_toNat, List.cons.injEq, ← BitVec.toNat_inj, toNat_oneByte, and_true]
  omega

/-- An identity read back from its three bytes. -/
theorem identityAt_of_bytes {b : List Byte} {i : Nat} {x : BitVec 24}
    (h : [byteAt b i, byteAt b (i + 1), byteAt b (i + 2)] = identityBytes x) : identityAt b i = x := by
  have hx := x.isLt
  obtain ⟨h0, h1, h2⟩ : byteAt b i = oneByte (x.toNat / 65536) ∧ byteAt b (i + 1) = oneByte (x.toNat / 256) ∧
      byteAt b (i + 2) = oneByte x.toNat := by simpa [identityBytes_eq] using h
  apply BitVec.eq_of_toNat_eq
  rw [identityAt_toNat, h0, h1, h2]
  simp only [toNat_oneByte]; omega

/-! ## Map entries -/

/-- The ranges of R1 for the fields that are numbers. -/
theorem MapEntry.inRange_iff (e : MapEntry) :
    e.inRange = true ↔ 1 ≤ e.row ∧ e.row ≤ 5 ∧ -512 ≤ e.z ∧ e.z ≤ 511 ∧ 896 ≤ e.g ∧ e.g ≤ 1152 ∧ e.k ≤ 4 := by
  simp [MapEntry.inRange, within, and_assoc]

/-- The 17 bytes of an entry as numbers, in the order of spec 11.3. -/
theorem MapEntry.bytes_toNat (e : MapEntry) :
    e.bytes.map (·.toNat) =
      ([e.enabled.toNat + 2 * e.childCapable.toNat + 4 * e.airbagZone.toNat + 8 * e.beltSensed.toNat, e.kind.code, e.row,
        lineCode e.line, e.address.val + 1, e.slot.val + 1, e.identity.toNat / 65536, e.identity.toNat / 256,
        e.identity.toNat, e.matchMode.code, e.reminderClass.code, e.profile.val, (e.z % 65536).toNat / 256,
        (e.z % 65536).toNat, e.g / 256, e.g, e.k]).map (· % 256) := by
  simp only [MapEntry.bytes, flagsByte, identityBytes_eq, signedBytes, twoBytes, List.map_cons, List.map_nil,
    List.foldr_cons, List.foldr_nil, toNat_oneByte, List.cons_append, List.nil_append]
  congr 2
  omega

theorem MapEntry.bytes_length (e : MapEntry) : e.bytes.length = 17 := rfl

/-- An entry in its ranges is read back from its bytes. -/
theorem MapEntry.ofBytes_bytes {e : MapEntry} (h : e.inRange = true) : MapEntry.ofBytes e.bytes = some e := by
  obtain ⟨-, hrow, hzlow, hzhigh, -, hg, hk⟩ := e.inRange_iff.1 h
  have haddress := e.address.isLt
  have hslot := e.slot.isLt
  have hprofile := e.profile.isLt
  obtain ⟨f0, f1, f2, f3, hflags⟩ := flagsByte_reads e.enabled e.childCapable e.airbagZone e.beltSensed
  have kindRead : SeatKind.ofCode (byteAt e.bytes 1).toNat = some e.kind :=
    SeatKind.ofCode_eq_some.2 (toNat_oneByte_of_lt e.kind.code_lt)
  have rowRead : (byteAt e.bytes 2).toNat = e.row := toNat_oneByte_of_lt (by omega)
  have lineRead : lineOfCode (byteAt e.bytes 3).toNat = some e.line :=
    lineOfCode_eq_some.2 (toNat_oneByte_of_lt (lineCode_lt e.line))
  have addressRead : indexFromOne 6 (byteAt e.bytes 4) = some e.address :=
    indexFromOne_eq_some.2 (toNat_oneByte_of_lt (by omega))
  have slotRead : indexFromOne 4 (byteAt e.bytes 5) = some e.slot :=
    indexFromOne_eq_some.2 (toNat_oneByte_of_lt (by omega))
  have identityRead : identityAt e.bytes 6 = e.identity := identityAt_of_bytes rfl
  have matchRead : MatchMode.ofCode (byteAt e.bytes 9).toNat = some e.matchMode :=
    MatchMode.ofCode_eq_some.2 (toNat_oneByte_of_lt e.matchMode.code_lt)
  have reminderRead : ReminderClass.ofCode (byteAt e.bytes 10).toNat = some e.reminderClass :=
    ReminderClass.ofCode_eq_some.2 (toNat_oneByte_of_lt e.reminderClass.code_lt)
  have profileRead : indexFromZero 4 (byteAt e.bytes 11) = some e.profile :=
    indexFromZero_eq_some.2 (toNat_oneByte_of_lt (by omega))
  have zeroRead : signedAt e.bytes 12 = e.z := signedAt_of_bytes (by omega) (by omega) rfl
  have gainRead : numberAt e.bytes 14 = e.g := fromBytes_oneByte (by omega)
  have shiftRead : (byteAt e.bytes 16).toNat = e.k := toNat_oneByte_of_lt (by omega)
  have flagsRead : byteAt e.bytes 0 = flagsByte [e.enabled, e.childCapable, e.airbagZone, e.beltSensed] := rfl
  simp [MapEntry.ofBytes, kindRead, rowRead, lineRead, addressRead, slotRead, identityRead, matchRead, reminderRead,
    profileRead, zeroRead, gainRead, shiftRead, flagsRead, f0, f1, f2, f3, hflags, e.bytes_length, h]

/-- An entry that bytes carry is in its ranges, and they are its bytes. -/
theorem MapEntry.bytes_of_ofBytes {b : List Byte} {e : MapEntry} (h : MapEntry.ofBytes b = some e) :
    e.inRange = true ∧ b = e.bytes := by
  simp only [MapEntry.ofBytes, bind, Option.bind_eq_some_iff, SeatKind.ofCode_eq_some, lineOfCode_eq_some,
    indexFromOne_eq_some, MatchMode.ofCode_eq_some, ReminderClass.ofCode_eq_some, indexFromZero_eq_some] at h
  obtain ⟨kind, hkind, line, hline, address, haddress, slot, hslot, matchMode, hmatch, reminderClass, hreminder, profile,
    hprofile, h⟩ := h
  split at h
  case isFalse => cases h
  case isTrue hok =>
    obtain ⟨hlength, hflags, hrange⟩ := hok
    cases h
    refine ⟨hrange, (eq_map_byteAt hlength).trans ?_⟩
    simp [MapEntry.bytes, flagsByte_bits hflags, ← hkind, ← hline, ← haddress, ← hslot, ← hmatch, ← hreminder,
      ← hprofile, identityBytes_identityAt, signedBytes_signedAt, numberAt, List.range_succ]

/-- The bytes that STAGE ENTRY refuses are those of no entry in its ranges (R9). -/
theorem MapEntry.ofBytes_eq_none_iff (b : List Byte) :
    MapEntry.ofBytes b = none ↔ ¬ ∃ e : MapEntry, e.inRange = true ∧ b = e.bytes := by
  rw [Option.eq_none_iff_forall_ne_some, not_exists]
  refine forall_congr' fun e => not_congr ⟨MapEntry.bytes_of_ofBytes, ?_⟩
  rintro ⟨hrange, rfl⟩
  exact MapEntry.ofBytes_bytes hrange

end Sys2Proof.Machine
end

