-- ==== Sys2Proof/Proofs/Staging.lean ====
section
/-! The staging area: what its operations leave in it, what the three staging commands answer, and that they touch nothing else
(R8 to R11). -/

namespace Sys2Proof.Machine

/-! ## What the operations leave in the staging area -/

@[simp] theorem State.stage_entries (s : State) (p q : Pos) (e : MapEntry) :
    (s.stage p e).staging.entries.get q = if q = p then some e else s.staging.entries.get q :=
  vector_get_set s.staging.entries p q (some e)

theorem State.swap_entries_first (s : State) {p q : Pos} (h : p ≠ q) :
    (s.swap p q).staging.entries.get p = some ((s.swapSource p).withPlacement (s.swapSource q)) := by
  simp [State.swap, h]

theorem State.swap_entries_second (s : State) (p q : Pos) :
    (s.swap p q).staging.entries.get q = some ((s.swapSource q).withPlacement (s.swapSource p)) := by
  simp [State.swap]

theorem State.swap_entries_other (s : State) {p q r : Pos} (hp : r ≠ p) (hq : r ≠ q) :
    (s.swap p q).staging.entries.get r = s.staging.entries.get r := by
  simp [State.swap, hp, hq]

theorem State.swap_deferred (s : State) (p q : Pos) : (s.swap p q).staging.deferred = s.staging.deferred := rfl

/-- The sources of a swap that stood when a frame arrived stand while it is judged. -/
@[simp] theorem State.received_swapSource (s : State) (port : Port) (p : Pos) :
    (s.received port).swapSource p = s.swapSource p := by
  simp [State.swapSource, State.entry]

/-- Staging an entry while a frame is judged writes the staging area as it stood when the frame arrived. -/
theorem State.stage_received (s : State) (port : Port) (p : Pos) (e : MapEntry) :
    (s.received port).stage p e = { s.received port with staging := (s.stage p e).staging } := by
  simp [State.stage]

/-- A swap while a frame is judged writes the staging area as it stood when the frame arrived. -/
theorem State.swap_received (s : State) (port : Port) (p q : Pos) :
    (s.received port).swap p q = { s.received port with staging := (s.swap p q).staging } := by
  simp [State.swap, State.stage]

/-! ## A command that writes the staging area alone -/

/-- A command that answers from the received state with another staging area leaves that staging area, and changes nothing else
but what every frame may. -/
theorem State.answers_staging {s : State} {g : Staging} {i : Instr} {p : Port} {cmd : Byte} {ops : List Byte} {chk : Byte}
    {act : State → Answer} {st : Status} {data : List Byte}
    (hi : exec i s = .next (s.takeFrame p cmd ops chk act)) (hr : s.ready p) (hs : soundFrame cmd ops chk)
    (hk : (operandLength cmd).isSome = true) (hp : permitted p cmd = true)
    (hact : act (s.received p) = { state := { s.received p with staging := g }, status := st, data := data }) :
    s.Answers i p cmd st data { s with staging := g } := by
  have hput : s.putBack { s.received p with staging := g } = { s with staging := g } :=
    congrArg (fun t : State => { t with staging := g }) (s.putBack_received p)
  have h := State.answers_of hi hr hs hk hp hact rfl (s.received_mode p) rfl rfl (by simp)
  rwa [hput] at h

/-- What is seen of a command that leaves a given staging area and nothing else. -/
theorem State.Answers.staging_alone {s : State} {g : Staging} {i : Instr} {p : Port} {cmd : Byte} {st : Status}
    {data : List Byte} (h : s.Answers i p cmd st data { s with staging := g }) :
    ∃ t, exec i s = .next t ∧ s.Answered t p cmd st data ∧ t.staging = g ∧ { s.putBack t with staging := s.staging } = s := by
  obtain ⟨t, hexec, hanswered, hput⟩ := h
  refine ⟨t, hexec, hanswered, congrArg State.staging hput, ?_⟩
  rw [hput]

/-! ## STAGE ENTRY (R9) -/

theorem State.stageAnswer_badArg {n : Byte} {bytes : List Byte} (s : State)
    (h : positionOf n = none ∨ MapEntry.ofBytes bytes = none) : s.stageAnswer n bytes = s.answer .badArg := by
  unfold State.stageAnswer
  split
  case h_1 hn hb => simp [hn, hb] at h
  case h_2 => rfl

theorem State.stageAnswer_eq {n : Byte} {bytes : List Byte} {p : Pos} {e : MapEntry} (s : State) (hn : positionOf n = some p)
    (hb : MapEntry.ofBytes bytes = some e) :
    s.stageAnswer n bytes = if s.staging.deferred then s.answer .busy else (s.stage p e).answer .ok := by
  unfold State.stageAnswer
  rw [hn, hb]

section
variable {s : State} {n chk : Byte} {entry : Vector Byte 17}

theorem State.answers_stageEntry_badArg (hr : s.ready .service) (hs : soundFrame 0x62 (n :: entry.toList) chk)
    (h : n = 0 ∨ 16 < n.toNat ∨ MapEntry.ofBytes entry.toList = none) :
    s.Answers (.stageEntry .service n entry chk) .service 0x62 .badArg [] s :=
  State.answers_unchanged rfl hr hs rfl rfl
    (State.stageAnswer_badArg _ ((or_assoc.2 h).imp_left positionOf_none))

theorem State.answers_stageEntry_busy {p : Pos} {e : MapEntry} (hr : s.ready .service)
    (hs : soundFrame 0x62 (n :: entry.toList) chk) (hn : n.toNat = p.val + 1) (he : MapEntry.ofBytes entry.toList = some e)
    (hlock : s.staging.deferred = true) : s.Answers (.stageEntry .service n entry chk) .service 0x62 .busy [] s := by
  refine State.answers_unchanged rfl hr hs rfl rfl ?_
  rw [State.stageAnswer_eq _ (positionOf_eq hn) he, State.received_staging, if_pos hlock]; rfl

theorem State.answers_stageEntry_ok {p : Pos} {e : MapEntry} (hr : s.ready .service)
    (hs : soundFrame 0x62 (n :: entry.toList) chk) (hn : n.toNat = p.val + 1) (he : MapEntry.ofBytes entry.toList = some e)
    (hlock : s.staging.deferred = false) : s.Answers (.stageEntry .service n entry chk) .service 0x62 .ok [] (s.stage p e) := by
  refine State.answers_staging rfl hr hs rfl rfl ?_
  rw [State.stageAnswer_eq _ (positionOf_eq hn) he, State.received_staging, if_neg (by simp [hlock]), State.stage_received]; rfl

end

/-! ## SWAP BINDINGS (R10) -/

theorem State.swapAnswer_badArg {a b : Byte} (s : State) (h : positionOf a = none ∨ positionOf b = none ∨ a = b) :
    s.swapAnswer a b = s.answer .badArg := by
  unfold State.swapAnswer
  split
  case h_1 p q ha hb =>
    have hab : a = b := by simpa [ha, hb] using h
    have hpq : p = q := by rw [hab, hb] at ha; exact Option.some_inj.1 ha.symm
    rw [if_pos hpq]
  case h_2 => rfl

theorem State.swapAnswer_eq {a b : Byte} {p q : Pos} (s : State) (ha : positionOf a = some p) (hb : positionOf b = some q)
    (hpq : p ≠ q) : s.swapAnswer a b = if s.staging.deferred then s.answer .busy else (s.swap p q).answer .ok := by
  unfold State.swapAnswer
  simp only [ha, hb, if_neg hpq]

section
variable {s : State} {a b chk : Byte}

theorem State.answers_swapBindings_badArg (hr : s.ready .service) (hs : soundFrame 0x63 [a, b] chk)
    (h : a = 0 ∨ 16 < a.toNat ∨ b = 0 ∨ 16 < b.toNat ∨ a = b) :
    s.Answers (.swapBindings .service a b chk) .service 0x63 .badArg [] s :=
  State.answers_unchanged rfl hr hs rfl rfl <| State.swapAnswer_badArg _ <|
    (or_assoc.2 h).imp positionOf_none fun hb => (or_assoc.2 hb).imp_left positionOf_none

theorem State.answers_swapBindings_busy {p q : Pos} (hr : s.ready .service) (hs : soundFrame 0x63 [a, b] chk)
    (ha : a.toNat = p.val + 1) (hb : b.toNat = q.val + 1) (hpq : p ≠ q) (hlock : s.staging.deferred = true) :
    s.Answers (.swapBindings .service a b chk) .service 0x63 .busy [] s := by
  refine State.answers_unchanged rfl hr hs rfl rfl ?_
  rw [State.swapAnswer_eq _ (positionOf_eq ha) (positionOf_eq hb) hpq, State.received_staging, if_pos hlock]; rfl

theorem State.answers_swapBindings_ok {p q : Pos} (hr : s.ready .service) (hs : soundFrame 0x63 [a, b] chk)
    (ha : a.toNat = p.val + 1) (hb : b.toNat = q.val + 1) (hpq : p ≠ q) (hlock : s.staging.deferred = false) :
    s.Answers (.swapBindings .service a b chk) .service 0x63 .ok [] { s with staging := (s.swap p q).staging } := by
  refine State.answers_staging rfl hr hs rfl rfl ?_
  rw [State.swapAnswer_eq _ (positionOf_eq ha) (positionOf_eq hb) hpq, State.received_staging, if_neg (by simp [hlock]),
    State.swap_received]; rfl

end

/-! ## DISCARD STAGE (R11) -/

theorem State.answers_discardStage {s : State} {chk : Byte} (hr : s.ready .service) (hs : soundFrame 0x64 [] chk) :
    s.Answers (.discardStage .service chk) .service 0x64 .ok [] { s with staging := .empty } :=
  State.answers_staging rfl hr hs rfl rfl rfl

/-! ## The obligation -/

/-- Settles O41: the refusals and the effects of the three staging commands, and the bytes of an entry, from the lemmas above
and from those about the bytes of a map entry. -/
theorem stagingCommandsChangeStagingAlone : Obligations.StagingCommandsChangeStagingAlone := by
  refine ⟨fun s n entry chk hr hs => ?stage, MapEntry.ofBytes_eq_none_iff, fun e => ⟨e.inRange_iff, e.bytes_toNat⟩,
    fun s a b chk hr hs => ?swap, fun s chk hr hs => ?discard⟩
  case stage =>
    refine ⟨State.answers_stageEntry_badArg hr hs, fun p e hn hrange hbytes => ?_⟩
    have he : MapEntry.ofBytes entry.toList = some e := hbytes ▸ MapEntry.ofBytes_bytes hrange
    exact ⟨State.answers_stageEntry_busy hr hs hn he, State.answers_stageEntry_ok hr hs hn he⟩
  case swap =>
    refine ⟨State.answers_swapBindings_badArg hr hs, fun p q ha hb hpq =>
      ⟨State.answers_swapBindings_busy hr hs ha hb hpq, fun hlock => ?_⟩⟩
    obtain ⟨t, hexec, hanswered, hstaging, hrest⟩ := (State.answers_swapBindings_ok hr hs ha hb hpq hlock).staging_alone
    refine ⟨t, hexec, hanswered, ?_, ?_, fun r hrp hrq => ?_, ?_, hrest⟩ <;> rw [hstaging]
    · exact s.swap_entries_first hpq
    · exact s.swap_entries_second p q
    · exact s.swap_entries_other hrp hrq
    · exact (s.swap_deferred p q).trans hlock
  case discard =>
    obtain ⟨t, hexec, hanswered, hstaging, hrest⟩ := (State.answers_discardStage hr hs).staging_alone
    refine ⟨t, hexec, hanswered, fun p => ?_, ?_, hrest⟩ <;> rw [hstaging]
    · exact PerPos.get_ofFn _ p
    · rfl

end Sys2Proof.Machine
end

