-- ==== Sys2Proof/Proofs/LoadConditioner.lean ====
section
/-! The Load Conditioner: the corrected load, the concentration index and the filter as the numbers of their formulas, and what a
delivered sample leaves in the load record (R35, R39 to R45). -/

namespace Sys2Proof.Machine

/-! ## The mat-fault indication (R35) -/

theorem SlotSample.matFault_iff (x : SlotSample) :
    x.matFault = true ↔ x.statusFault = true ∨ 4095 < x.load ∨ 16 < x.cells ∨ 1023 < x.peak := by
  simp only [SlotSample.matFault, Bool.or_eq_true, decide_eq_true_eq, or_assoc]

/-! ## The corrected load (R41) -/

/-- The corrected load as one integer formula: the clamped difference is not negative, so nothing is lost in taking it as a
natural number. -/
theorem cast_correctedLoad (load : Nat) (z : Int) (g : Nat) :
    (correctedLoad load z g : Int) = min (min (max ((load : Int) - z) 0) 4095 * g / 1024) 4000 := by
  have hnonneg : 0 ≤ min (max ((load : Int) - z) 0) 4095 := by omega
  simp only [correctedLoad, Nat.cast_min, Nat.cast_ofNat, Int.natCast_ediv, Nat.cast_mul, Int.toNat_of_nonneg hnonneg]

/-- A clamp to 0 to 4095, told by its cases. -/
theorem clamp_eq_ite (d : Int) : min (max d 0) 4095 = if d < 0 then 0 else if 4095 < d then 4095 else d := by
  split_ifs <;> omega

theorem correctedLoad_eq_ite (load : Nat) (z : Int) (g : Nat) :
    let d : Int := (load : Int) - z
    let clamped : Int := if d < 0 then 0 else if 4095 < d then 4095 else d
    let w : Int := clamped * g / 1024
    (correctedLoad load z g : Int) = if 4000 < w then 4000 else w := by
  intro d clamped w
  rw [cast_correctedLoad, clamp_eq_ite, min_comm, min_def_lt]

/-! ## The concentration index (R45) -/

theorem concentration_of_loaded {load cells : Nat} (peak : Nat) (hl : 1 ≤ load) (hc : 1 ≤ cells) :
    concentration load cells peak = if 255 < peak * cells * 8 / load then 255 else peak * cells * 8 / load := by
  rw [concentration, if_pos ⟨hl, hc⟩, min_comm, min_def_lt]

theorem concentration_of_unloaded {load cells : Nat} (peak : Nat) (h : load = 0 ∨ cells = 0) :
    concentration load cells peak = 0 := if_neg (by omega)

/-! ## The filter (R43) -/

/-- Rounding toward minus infinity brings a gap that is not positive no further down. -/
theorem le_ediv_of_nonpos {e d : Int} (he : e ≤ 0) (hd : 0 < d) : e ≤ e / d :=
  Int.le_ediv_of_mul_le hd (mul_le_of_one_le_right he hd)

/-- A step moves F16 by the floored fraction of the gap; it never falls below 0, because it never passes its target. -/
theorem cast_stepFilter (f16 w k : Nat) : (stepFilter f16 w k : Int) = f16 + ((w : Int) * 16 - f16) / 2 ^ k := by
  have hd : (0 : Int) < 2 ^ k := by positivity
  have hnonneg : 0 ≤ (f16 : Int) + ((w : Int) * 16 - f16) / 2 ^ k := by
    rcases le_total 0 ((w : Int) * 16 - f16) with h | h
    · have := Int.ediv_nonneg h hd.le
      omega
    · have := le_ediv_of_nonpos h hd
      omega
  simp only [stepFilter, Nat.cast_pow, Nat.cast_ofNat, Int.toNat_of_nonneg hnonneg]

theorem stepFilter_rising {f16 w : Nat} (k : Nat) (h : f16 ≤ w * 16) :
    f16 ≤ stepFilter f16 w k ∧ stepFilter f16 w k ≤ w * 16 := by
  have hgap : 0 ≤ (w : Int) * 16 - f16 := by omega
  have hlow := Int.ediv_nonneg hgap (show (0 : Int) ≤ 2 ^ k by positivity)
  have hhigh := Int.ediv_le_self (2 ^ k) hgap
  have := cast_stepFilter f16 w k
  omega

theorem stepFilter_falling {f16 w : Nat} (k : Nat) (h : w * 16 ≤ f16) :
    w * 16 ≤ stepFilter f16 w k ∧ stepFilter f16 w k ≤ f16 := by
  have hgap : (w : Int) * 16 - f16 ≤ 0 := by omega
  have hd : (0 : Int) < 2 ^ k := by positivity
  have hlow := le_ediv_of_nonpos hgap hd
  have hhigh := Int.ediv_nonpos_of_nonpos_of_neg hgap hd
  have := cast_stepFilter f16 w k
  omega

/-- A rising gap below one whole step leaves the filter. -/
theorem stepFilter_eq_self {f16 w k : Nat} (h : f16 ≤ w * 16) (hsmall : (w : Int) * 16 - f16 < 2 ^ k) :
    stepFilter f16 w k = f16 := by
  have hzero := Int.ediv_eq_zero_of_lt (show 0 ≤ (w : Int) * 16 - f16 by omega) hsmall
  have := cast_stepFilter f16 w k
  omega

/-- A falling target is approached by at least one. -/
theorem stepFilter_lt {f16 w : Nat} (k : Nat) (h : w * 16 < f16) : stepFilter f16 w k < f16 := by
  have hneg := Int.ediv_neg_of_neg_of_pos (show (w : Int) * 16 - f16 < 0 by omega) (show (0 : Int) < 2 ^ k by positivity)
  have := cast_stepFilter f16 w k
  omega

@[simp] theorem stepFilter_zero (f16 w : Nat) : stepFilter f16 w 0 = w * 16 := by
  have := cast_stepFilter f16 w 0
  rw [pow_zero, Int.ediv_one] at this
  omega

/-- The filter stays in the range of its target. -/
theorem stepFilter_le {f16 w : Nat} (k : Nat) {bound : Nat} (hf : f16 ≤ bound) (hw : w * 16 ≤ bound) :
    stepFilter f16 w k ≤ bound := by
  rcases le_total f16 (w * 16) with h | h
  · exact (stepFilter_rising k h).2.trans hw
  · exact (stepFilter_falling k h).2.trans hf

/-! ## A delivered sample (R39, R40, R42) -/

section
variable {r : LoadRec} {x : SlotSample} (e : MapEntry) (p : Profile)

theorem LoadRec.take_of_matFault (h : x.matFault = true) : r.take e p x = r := if_pos h

theorem LoadRec.take_w (h : x.matFault = false) : (r.take e p x).w = correctedLoad x.load e.z e.g := by
  simp [LoadRec.take, h]

theorem LoadRec.take_f16 (h : x.matFault = false) :
    (r.take e p x).f16 = if r.seeded then stepFilter r.f16 (r.take e p x).w e.k else (r.take e p x).w * 16 := by
  simp [LoadRec.take, h]

theorem LoadRec.take_seeded (h : x.matFault = false) : (r.take e p x).seeded = true := by simp [LoadRec.take, h]

theorem LoadRec.take_n (h : x.matFault = false) : (r.take e p x).n = x.cells := by simp [LoadRec.take, h]

theorem LoadRec.take_k (h : x.matFault = false) : (r.take e p x).k = concentration x.load x.cells x.peak := by
  simp [LoadRec.take, h]

/-- The first sample without a mat fault seeds the filter with its own corrected load. -/
theorem LoadRec.take_seeds (h : x.matFault = false) (hr : r.seeded = false) :
    (r.take e p x).f16 = (r.take e p x).w * 16 ∧ (r.take e p x).f = (r.take e p x).w ∧ (r.take e p x).seeded = true := by
  have hf : (r.take e p x).f16 = (r.take e p x).w * 16 := by rw [LoadRec.take_f16 e p h, if_neg (by simp [hr])]
  exact ⟨hf, by rw [LoadRec.f, hf, Nat.mul_div_cancel _ (by decide)], LoadRec.take_seeded e p h⟩

end

/-! ## The obligations -/

/-- Settles O18: the formulas by their cases, and the fields that a sample without a mat fault stores. -/
theorem correctedLoadAndConcentration : Obligations.CorrectedLoadAndConcentration :=
  ⟨correctedLoad_eq_ite, fun _ e p _ h => LoadRec.take_w e p h, fun _ _ peak => concentration_of_loaded peak,
    fun _ _ peak => concentration_of_unloaded peak, fun _ e p _ h => ⟨LoadRec.take_n e p h, LoadRec.take_k e p h⟩,
    SlotSample.matFault_iff⟩

/-- Settles O19: the filter's step from its one equation, rising and falling apart, and the seeding by a first sample. -/
theorem filterSeedsAndStepsTowardLoad : Obligations.FilterSeedsAndStepsTowardLoad := by
  refine ⟨fun f16 w k _ => ?step, fun r e p x h hr => ⟨?seeded, rfl⟩, fun r e p x =>
    ⟨LoadRec.take_of_matFault e p, LoadRec.take_seeds e p⟩⟩
  case step =>
    refine ⟨cast_stepFilter f16 w k, fun h => stepFilter_rising k (by omega), fun h => stepFilter_falling k (by omega),
      fun hpos => stepFilter_eq_self (by omega), fun h => stepFilter_lt k (by omega), ?_, fun hf hw => ?_⟩
    · rintro rfl; exact stepFilter_zero f16 w
    · have hle : stepFilter f16 w k ≤ 64000 := stepFilter_le k hf (by omega)
      exact ⟨hle, by omega⟩
  case seeded => rw [LoadRec.take_f16 e p h, if_pos hr]

end Sys2Proof.Machine
end

