-- ==== Sys2Proof/Proofs/ZeroCapture.lean ====
section
/-! The zero capture: what ZERO CAPTURE answers, and what a delivered sample does to a capture in flight (R48 to R50). -/

namespace Sys2Proof.Machine

/-! ## Operands -/

theorem State.onPosition_eq {n : Byte} {p : Pos} (h : n.toNat = p.val + 1) (act : Pos → Answer) (s : State) :
    s.onPosition n act = act p := by rw [State.onPosition, positionOf_eq h]

theorem State.onPosition_badArg {n : Byte} (h : n = 0 ∨ 16 < n.toNat) (act : Pos → Answer) (s : State) :
    s.onPosition n act = s.answer .badArg := by rw [State.onPosition, positionOf_none h]

/-! ## What a received frame leaves -/

@[simp] theorem State.received_capture (s : State) (p : Port) : (s.received p).capture = s.capture := by
  rw [s.received_form p]

@[simp] theorem State.received_serves (s : State) (port : Port) (p : Pos) : (s.received port).serves p = s.serves p := by
  rw [s.received_form port]; rfl

theorem State.serves_iff (s : State) (p : Pos) :
    s.serves p = true ↔ (s.entry p).enabled = true ∧ (s.pos p).fit = .fits ∧
      (s.node (s.entry p).line (s.entry p).address).state = .online := by
  simp only [State.serves, Bool.and_eq_true, decide_eq_true_eq, and_assoc]
  exact Iff.rfl

/-! ## The answer of ZERO CAPTURE (R48) -/

/-- The capture that ZERO CAPTURE begins at a position. -/
def Capture.fresh (p : Pos) : Capture := { position := p, count := 0, sum := 0 }

theorem State.captureAnswer_busy {s : State} (p : Pos) (h : s.capture.isSome = true ∨ s.staging.deferred = true) :
    s.captureAnswer p = s.answer .busy := by
  rcases h with h | h
  · exact if_pos h
  · rw [State.captureAnswer, if_pos h, ite_self]

theorem State.captureAnswer_free {s : State} (p : Pos) (hc : s.capture = none) (hd : s.staging.deferred = false) :
    s.captureAnswer p =
      if s.serves p then { s with capture := some (Capture.fresh p) }.answer .accepted else s.answer .badArg := by
  rw [State.captureAnswer, if_neg (by simp [hc]), if_neg (by simp [hd])]
  cases s.serves p <;> rfl

section
variable {s : State} {n chk : Byte}

theorem State.answers_zeroCapture_noPosition (hr : s.ready .service) (hs : soundFrame 0x66 [n] chk)
    (h : n = 0 ∨ 16 < n.toNat) : s.Answers (.zeroCapture .service n chk) .service 0x66 .badArg [] s :=
  State.answers_unchanged rfl hr hs rfl rfl (State.onPosition_badArg h _ _)

variable {p : Pos}

theorem State.gateRefuses_zeroCapture (hr : s.ready .service) (hs : soundFrame 0x66 [n] chk) (hn : n.toNat = p.val + 1) :
    s.GateRefuses (.zeroCapture .service n chk) 0x66 :=
  State.gateRefuses_of _ rfl hr hs rfl rfl (State.onPosition_eq hn _ _)

/-- ZERO CAPTURE of a position through the open gate, by the answer that the received state gives. -/
theorem State.onPosition_gated_captureAnswer (hn : n.toNat = p.val + 1) (ho : s.gateOpen) :
    ((s.received .service).onPosition n fun q => (s.received .service).gated ((s.received .service).captureAnswer q)) =
      (s.received .service).captureAnswer p := by
  rw [State.onPosition_eq hn, State.gated_open ho]

theorem State.answers_zeroCapture_busy (hr : s.ready .service) (hs : soundFrame 0x66 [n] chk) (hn : n.toNat = p.val + 1)
    (ho : s.gateOpen) (h : s.capture.isSome = true ∨ s.staging.deferred = true) :
    s.Answers (.zeroCapture .service n chk) .service 0x66 .busy [] s := by
  refine State.answers_unchanged rfl hr hs rfl rfl ((State.onPosition_gated_captureAnswer hn ho).trans ?_)
  exact State.captureAnswer_busy p (by simpa using h)

theorem State.answers_zeroCapture_unserved (hr : s.ready .service) (hs : soundFrame 0x66 [n] chk)
    (hn : n.toNat = p.val + 1) (ho : s.gateOpen) (hc : s.capture = none) (hd : s.staging.deferred = false)
    (hserves : s.serves p = false) : s.Answers (.zeroCapture .service n chk) .service 0x66 .badArg [] s := by
  refine State.answers_unchanged rfl hr hs rfl rfl ((State.onPosition_gated_captureAnswer hn ho).trans ?_)
  rw [State.captureAnswer_free p (by simpa using hc) (by simpa using hd), State.received_serves, if_neg (by simp [hserves])]
  rfl

theorem State.answers_zeroCapture_accepted (hr : s.ready .service) (hs : soundFrame 0x66 [n] chk)
    (hn : n.toNat = p.val + 1) (ho : s.gateOpen) (hc : s.capture = none) (hd : s.staging.deferred = false)
    (hserves : s.serves p = true) :
    s.Answers (.zeroCapture .service n chk) .service 0x66 .accepted [] { s with capture := some (Capture.fresh p) } := by
  have hput : s.putBack { s.received .service with capture := some (Capture.fresh p) } =
      { s with capture := some (Capture.fresh p) } :=
    congrArg (fun t : State => { t with capture := some (Capture.fresh p) }) (s.putBack_received .service)
  have hact : (s.received .service).captureAnswer p =
      { s.received .service with capture := some (Capture.fresh p) }.answer .accepted := by
    rw [State.captureAnswer_free p (by simpa using hc) (by simpa using hd), State.received_serves, if_pos hserves]
  have h := State.answers_of (i := .zeroCapture .service n chk) rfl hr hs rfl rfl
    ((State.onPosition_gated_captureAnswer hn ho).trans hact) rfl (s.received_mode .service) rfl rfl (by simp)
  rwa [hput] at h

end

/-! ## A capture in flight takes a sample (R49, R50) -/

/-- The payload of an OK result is the zero alone. -/
theorem capturePayload_ok {value : Nat} (h : value < 4096) : capturePayload .ok value = BitVec.ofNat 16 value := by
  rw [capturePayload, Nat.mod_eq_of_lt h, CaptureResult.code, Nat.zero_mul, Nat.zero_add]

section
variable {s : State} {c : Capture} {p : Pos} {x : SlotSample}

theorem State.captureTake_other (hc : s.capture = some c) (hp : c.position ≠ p) : s.captureTake p x = s := by
  simp only [State.captureTake, hc, if_pos hp]

theorem State.captureTake_unstable (hc : s.capture = some c) (hp : c.position = p) (h : x.matFault = true ∨ 400 ≤ x.load) :
    s.captureTake p x = { s with capture := none }.post .service .captureDone (p.val + 1) 0x1000 := by
  subst hp
  have hfails : (x.matFault || decide (captureLimit ≤ x.load)) = true := by
    rw [Bool.or_eq_true, decide_eq_true_eq]; exact h
  simp only [State.captureTake, hc, State.abortCapture, hfails, ne_eq, not_true_eq_false, if_false, if_true]
  rfl

/-- A steady sample of the captured position is counted, and the sixteenth ends the capture. -/
theorem State.captureTake_steady (hc : s.capture = some c) (hp : c.position = p) (hm : x.matFault = false)
    (hl : x.load < 400) :
    s.captureTake p x =
      if c.count + 1 < captureSamples then
        { s with capture := some { c with count := c.count + 1, sum := c.sum + x.load } }
      else
        ({ s with capture := none }.stageZero p (captureZero (c.sum + x.load))).post .service .captureDone (posNumber p)
          (capturePayload .ok (captureZero (c.sum + x.load))) := by
  have hsteady : ¬ (x.matFault || decide (captureLimit ≤ x.load)) = true := by
    rw [hm, Bool.false_or, decide_eq_true_eq]; exact Nat.not_le_of_lt hl
  simp only [State.captureTake, hc, if_neg (not_not_intro hp), if_neg hsteady]

theorem State.captureTake_counts (hc : s.capture = some c) (hp : c.position = p) (hm : x.matFault = false)
    (hl : x.load < 400) (hcount : c.count < 15) :
    s.captureTake p x = { s with capture := some { c with count := c.count + 1, sum := c.sum + x.load } } := by
  rw [State.captureTake_steady hc hp hm hl, if_pos (show c.count + 1 < captureSamples from Nat.succ_lt_succ hcount)]

/-- The sixteenth sample: the mean of 16 loads below 400 fits the payload beside the result OK. -/
theorem State.captureTake_full (hc : s.capture = some c) (hp : c.position = p) (hm : x.matFault = false)
    (hl : x.load < 400) (hcount : c.count = 15) (hsum : c.sum ≤ 15 * 399) :
    s.captureTake p x =
      ({ s with capture := none }.stageZero p (captureZero (c.sum + x.load))).post .service .captureDone (posNumber p)
        (BitVec.ofNat 16 (captureZero (c.sum + x.load))) := by
  have hfits : captureZero (c.sum + x.load) < 4096 := by unfold captureZero; omega
  rw [State.captureTake_steady hc hp hm hl, if_neg (by rw [hcount]; decide), capturePayload_ok hfits]

end

/-! ## The obligation -/

/-- Settles O44: the refusals and the acceptance of ZERO CAPTURE in their order, and the four things that a sample can do to a
capture in flight. -/
theorem zeroCaptureGathersSixteenLoads : Obligations.ZeroCaptureGathersSixteenLoads := by
  refine ⟨fun s n chk hr hs => ?command, fun s p x c hc => ?sample⟩
  case command =>
    refine ⟨State.answers_zeroCapture_noPosition hr hs, fun p hn => ⟨State.gateRefuses_zeroCapture hr hs hn, fun ho =>
      ⟨State.answers_zeroCapture_busy hr hs hn ho, fun hc hd => ⟨fun hserved => ?_, fun hserved => ?_⟩⟩⟩⟩
    · refine State.answers_zeroCapture_unserved hr hs hn ho hc hd ?_
      rwa [← Bool.not_eq_true, s.serves_iff]
    · exact State.answers_zeroCapture_accepted hr hs hn ho hc hd ((s.serves_iff p).2 hserved)
  case sample =>
    exact ⟨State.captureTake_other hc, State.captureTake_unstable hc, State.captureTake_counts hc, State.captureTake_full hc⟩

end Sys2Proof.Machine
end

