-- ==== Sys2Proof/Proofs/ChildSeats.lean ====
section
/-! The Child Seat Recognizer: what a tag ID says, which tags screening keeps, what one and two tags read, and the rows of the
acceptance table (R57 to R63). -/

namespace Sys2Proof.Machine

/-! ## The tag ID (R57) -/

/-- The code of a kind in the upper four bits of a tag ID; a foreign kind has every other code. -/
def TagKind.code : TagKind → Nat
  | .base => 1
  | .carrier => 2
  | .convertible => 3
  | .booster => 4
  | .foreign => 0

theorem TagRecord.kind_bits (t : TagRecord) : (t.id.extractLsb' 28 4).toNat = t.id.toNat / 2 ^ 28 := by
  have := t.id.isLt
  rw [BitVec.extractLsb'_toNat, Nat.shiftRight_eq_div_pow]; omega

/-- Each of the four codes stands for its own kind: the table of R57 against the codes, arm by arm. -/
theorem TagRecord.kind_eq_iff (t : TagRecord) {k : TagKind} (hk : k ≠ .foreign) :
    t.kind = k ↔ t.id.toNat / 2 ^ 28 = k.code := by
  rw [TagRecord.kind, t.kind_bits]
  split <;> cases k <;> simp_all [TagKind.code]

theorem TagRecord.pairing_toNat (t : TagRecord) : t.pairing.toNat = t.id.toNat / 2 ^ 16 % 4096 := by
  rw [TagRecord.pairing, BitVec.extractLsb'_toNat, Nat.shiftRight_eq_div_pow]

/-! ## Readings (R59, R60) -/

/-- A seat stands on a base: the pairs of kinds that read other than CONFLICT, base first. -/
def TagKind.Carries (k l : TagKind) : Prop := k = .base ∧ (l = .carrier ∨ l = .convertible)

theorem TagKind.not_carries_self (k : TagKind) : ¬ k.Carries k := by cases k <;> simp [TagKind.Carries]

section
variable {t u : TagRecord}

theorem twoTagReading_comm (t u : TagRecord) : twoTagReading t u = twoTagReading u t := by
  simp only [twoTagReading, eq_comm (a := u.pairing)]
  split
  case isTrue => cases t.kind <;> cases u.kind <;> rfl
  case isFalse => rfl

theorem twoTagReading_unpaired (h : t.pairing ≠ u.pairing) : twoTagReading t u = .conflict := if_neg h

theorem twoTagReading_carrier (h : t.pairing = u.pairing) (ht : t.kind = .base) (hu : u.kind = .carrier) :
    twoTagReading t u = .carrierRf := by
  rw [twoTagReading, if_pos h, ht, hu]

theorem twoTagReading_convertible (h : t.pairing = u.pairing) (ht : t.kind = .base) (hu : u.kind = .convertible) :
    twoTagReading t u = seatReading u := by
  rw [twoTagReading, if_pos h, ht, hu]

/-- Two tags of which neither is the base of the other conflict, whatever their pairing codes. -/
theorem twoTagReading_conflict (htu : ¬ t.kind.Carries u.kind) (hut : ¬ u.kind.Carries t.kind) :
    twoTagReading t u = .conflict := by
  rw [twoTagReading]
  split
  case isTrue =>
    split
    next ht hu => exact absurd ⟨ht, .inl hu⟩ htu
    next ht hu => exact absurd ⟨hu, .inl ht⟩ hut
    next ht hu => exact absurd ⟨ht, .inr hu⟩ htu
    next ht hu => exact absurd ⟨hu, .inr ht⟩ hut
    next => rfl
  case isFalse => rfl

theorem oneTagReading_base (h : t.kind = .base) : oneTagReading t = .baseOnly := by rw [oneTagReading, h]

theorem oneTagReading_carrier (h : t.kind = .carrier) : oneTagReading t = .carrierRf := by rw [oneTagReading, h]

theorem oneTagReading_convertible (h : t.kind = .convertible) : oneTagReading t = seatReading t := by
  rw [oneTagReading, h]

theorem oneTagReading_booster (h : t.kind = .booster) : oneTagReading t = .boosterSeat := by rw [oneTagReading, h]

end

/-! ## Screening (R58) -/

theorem keepTag_iff (kept : List TagRecord) (t : TagRecord) :
    keepTag kept t = true ↔ t.kind ≠ .foreign ∧ t.orientation ≠ 3 ∧ t.id ∉ kept.map (·.id) := by
  simp [keepTag, and_assoc]

/-- Screening judges a record by those kept before it. -/
theorem screenTags_append_singleton (tags : List TagRecord) (t : TagRecord) :
    screenTags (tags ++ [t]) = if keepTag (screenTags tags) t then screenTags tags ++ [t] else screenTags tags := by
  rw [screenTags, List.foldl_append]; rfl

/-- A property of the kept records holds if keeping one more record keeps it. -/
theorem screenTags_induction {P : List TagRecord → Prop} (nil : P [])
    (keep : ∀ kept t, P kept → keepTag kept t = true → P (kept ++ [t])) (tags : List TagRecord) : P (screenTags tags) := by
  induction tags using List.reverseRecOn with
  | nil => exact nil
  | append_singleton tags t ih =>
    rw [screenTags_append_singleton]
    split
    case isTrue hkeep => exact keep _ t ih hkeep
    case isFalse => exact ih

theorem screenTags_valid (tags : List TagRecord) : ∀ t ∈ screenTags tags, t.kind ≠ .foreign ∧ t.orientation ≠ 3 := by
  refine screenTags_induction (P := fun kept => ∀ t ∈ kept, t.kind ≠ .foreign ∧ t.orientation ≠ 3) (by simp) ?_ tags
  intro kept t ih hkeep
  obtain ⟨hkind, horientation, -⟩ := (keepTag_iff kept t).1 hkeep
  simp only [List.forall_mem_append, List.forall_mem_singleton]
  exact ⟨ih, hkind, horientation⟩

theorem screenTags_nodup (tags : List TagRecord) : ((screenTags tags).map (·.id)).Nodup := by
  refine screenTags_induction (P := fun kept => (kept.map (·.id)).Nodup) List.nodup_nil ?_ tags
  intro kept t ih hkeep
  obtain ⟨-, -, hnew⟩ := (keepTag_iff kept t).1 hkeep
  rw [List.map_append, List.map_singleton, ← List.concat_eq_append]
  exact ih.concat hnew

theorem screenTags_sublist (tags : List TagRecord) : (screenTags tags).Sublist tags := by
  induction tags using List.reverseRecOn with
  | nil => exact List.Sublist.slnil
  | append_singleton tags t ih =>
    rw [screenTags_append_singleton]
    split
    case isTrue => exact ih.append_right [t]
    case isFalse => exact ih.trans (List.sublist_append_left tags [t])

theorem screenTags_singleton (t : TagRecord) :
    screenTags [t] = if t.kind = .foreign ∨ t.orientation = 3 then [] else [t] := by
  rw [← ite_not]
  refine (screenTags_append_singleton [] t).trans (if_congr ?_ rfl rfl)
  simp [keepTag_iff, screenTags]

/-- A second record after one that was kept. -/
theorem screenTags_pair {t u : TagRecord} (hk : t.kind ≠ .foreign) (ho : t.orientation ≠ 3) :
    screenTags [t, u] = if u.kind = .foreign ∨ u.orientation = 3 ∨ u.id = t.id then [t] else [t, u] := by
  have hfirst : screenTags [t] = [t] := by rw [screenTags_singleton, if_neg (not_or.2 ⟨hk, ho⟩)]
  rw [← ite_not]
  refine (screenTags_append_singleton [t] u).trans ?_
  rw [hfirst]
  refine if_congr ?_ rfl rfl
  simp [keepTag_iff]

theorem screenTags_cons_dropped {t : TagRecord} (tags : List TagRecord) (h : t.kind = .foreign ∨ t.orientation = 3) :
    screenTags (t :: tags) = screenTags tags := by
  have hdrop : ¬ keepTag [] t = true := fun hkeep => by
    obtain ⟨hkind, horientation, -⟩ := (keepTag_iff [] t).1 hkeep
    exact h.elim hkind horientation
  rw [screenTags, List.foldl_cons, if_neg hdrop, screenTags]

/-! ## The rows of the acceptance table (R61 to R63) -/

section
variable {c : ChildRec} {tags : List TagRecord}

theorem ChildRec.accept_confirmed_by_good (hr : tagReading (goodTags tags) = c.accepted) :
    c.accept tags = { c with pending := .none, pendingCount := 0, dropout := 0, tags := goodTags tags } := by
  rw [ChildRec.accept, if_pos (.inl hr), if_pos hr]

/-- A confirmation that needs a WEAK tag leaves the stored tags. -/
theorem ChildRec.accept_confirmed_by_weak (hr : tagReading (goodTags tags) ≠ c.accepted)
    (hw : tagReading tags = c.accepted) :
    c.accept tags = { c with pending := .none, pendingCount := 0, dropout := 0 } := by
  rw [ChildRec.accept, if_pos (.inr hw), if_neg hr]

theorem ChildRec.accept_dropout (hr : tagReading (goodTags tags) = .none) (ha : c.accepted ≠ .none)
    (hw : tagReading tags ≠ c.accepted) :
    c.accept tags =
      if c.dropout + 1 < 4 then { c with pending := .none, pendingCount := 0, dropout := c.dropout + 1 }
      else { c with accepted := .none, pending := .none, pendingCount := 0, dropout := 0, tags := [] } := by
  have hra : tagReading (goodTags tags) ≠ c.accepted := hr.trans_ne ha.symm
  rw [ChildRec.accept, if_neg (not_or.2 ⟨hra, hw⟩), if_pos hr]

theorem ChildRec.accept_second_reading (hr : tagReading (goodTags tags) ≠ .none)
    (ha : tagReading (goodTags tags) ≠ c.accepted) (hw : tagReading tags ≠ c.accepted)
    (hp : tagReading (goodTags tags) = c.pending) (hcount : c.pendingCount = 1) :
    c.accept tags =
      { c with
        accepted := tagReading (goodTags tags), pending := .none, pendingCount := 0, dropout := 0,
        tags := goodTags tags } := by
  rw [ChildRec.accept, if_neg (not_or.2 ⟨ha, hw⟩), if_neg hr, if_pos ⟨hp, by rw [hcount]⟩]

theorem ChildRec.accept_first_reading (hr : tagReading (goodTags tags) ≠ .none)
    (ha : tagReading (goodTags tags) ≠ c.accepted) (hw : tagReading tags ≠ c.accepted)
    (hp : tagReading (goodTags tags) ≠ c.pending) :
    c.accept tags = { c with pending := tagReading (goodTags tags), pendingCount := 1 } := by
  rw [ChildRec.accept, if_neg (not_or.2 ⟨ha, hw⟩), if_neg hr, if_neg (not_and_of_not_left _ hp), if_neg hp]

end

/-! ## The obligations -/

/-- Settles O21: the readings by kinds and pairing codes, and what screening keeps, by induction on the records sent. -/
theorem tagsAreScreenedAndReadInPairs : Obligations.TagsAreScreenedAndReadInPairs := by
  refine ⟨fun t u _ _ => ?pairs, rfl, fun t => ?single, fun tags => ?screened, fun t u => screenTags_pair,
    fun t u => screenTags_cons_dropped [u], screenTags_singleton⟩
  case pairs =>
    refine ⟨twoTagReading_comm t u, twoTagReading_unpaired, twoTagReading_carrier, twoTagReading_convertible,
      fun h => ?same, fun ht hu => ?seats, fun ht => ?booster⟩
    case same =>
      have hself : ¬ t.kind.Carries u.kind := h ▸ t.kind.not_carries_self
      exact twoTagReading_conflict hself (h ▸ hself)
    case seats =>
      exact twoTagReading_conflict (by simp [TagKind.Carries, ht]) (by simp [TagKind.Carries, hu])
    case booster =>
      exact twoTagReading_conflict (by simp [TagKind.Carries, ht]) (by simp [TagKind.Carries, ht])
  case single =>
    exact ⟨oneTagReading_base, oneTagReading_carrier, oneTagReading_convertible, oneTagReading_booster,
      t.kind_eq_iff (by decide), t.kind_eq_iff (by decide), t.kind_eq_iff (by decide), t.kind_eq_iff (by decide),
      t.pairing_toNat⟩
  case screened =>
    exact ⟨fun t ht => ⟨(screenTags_sublist tags).mem ht, screenTags_valid tags t ht⟩, screenTags_nodup tags,
      screenTags_sublist tags⟩

/-- Settles O22: each row by its lemma, the two dropout rows at the counts that decide between them. -/
theorem acceptanceNeedsTwoReadingsAndFourDropouts : Obligations.AcceptanceNeedsTwoReadingsAndFourDropouts := by
  intro c tags
  refine ⟨ChildRec.accept_confirmed_by_good, ChildRec.accept_confirmed_by_weak, fun hr ha hw hcount => ?counted,
    fun hr ha hw hcount => ?ended, ChildRec.accept_second_reading, ChildRec.accept_first_reading⟩
  case counted => exact (ChildRec.accept_dropout hr ha hw).trans (if_pos (by omega))
  case ended => exact (ChildRec.accept_dropout hr ha hw).trans (if_neg (by omega))

end Sys2Proof.Machine
end

