-- ==== Sys2Proof/Proofs/OccupantClassifier.lean ====
section
/-! The Occupant Classifier: the cases that decide the instant class of a sample, how it counts as a vote, and the votes that a
candidate needs (R71, R74 to R78). -/

namespace Sys2Proof.Machine

/-! ## The instant class (R74, R75) -/

/-- A recognized child seat whose tags agree is empty while its child-load flag is clear. -/
theorem ChildSeat.instant_unloaded {c : ChildSeat} (h : c ≠ .conflict) : c.instant false = .csEmpty := by
  cases c with
  | conflict => exact absurd rfl h
  | none | baseOnly | carrierRf | seatRf | seatFf | seatUnspec | boosterSeat => rfl

theorem ChildSeat.instant_conflict (flag : Bool) : ChildSeat.conflict.instant flag = .csUnspec := rfl

theorem ChildSeat.instant_rearFacing {c : ChildSeat} (h : c = .carrierRf ∨ c = .seatRf) : c.instant true = .csRf := by
  obtain rfl | rfl := h <;> rfl

theorem ChildSeat.instant_unspecified {c : ChildSeat} (h : c = .seatUnspec ∨ c = .baseOnly) :
    c.instant true = .csUnspec := by
  obtain rfl | rfl := h <;> rfl

theorem personTest_iff (p : Profile) (n k : Nat) : personTest p n k = true ↔ p.nMin ≤ n ∧ k ≤ p.kHuman := by
  simp [personTest]

/-- Band B2: the untagged child-seat inference before the person test. -/
theorem bandInstant_two (p : Profile) (capable : Bool) (n k : Nat) :
    bandInstant p capable 2 n k =
      if capable = true ∧ 8 ≤ n ∧ k ≤ p.kRigid then .csUnspec
      else if p.nMin ≤ n ∧ k ≤ p.kHuman then .small else .object := by
  simp [bandInstant, personTest_iff, and_assoc]

theorem bandInstant_three (p : Profile) (capable : Bool) (n k : Nat) :
    bandInstant p capable 3 n k = if p.nMin ≤ n ∧ k ≤ p.kHuman then .adult else .object := by
  simp [bandInstant, personTest_iff]

section
variable {p : Profile} {r : PosRec}

theorem instantClass_matFault (p : Profile) (r : PosRec) : instantClass p r true = .fault := rfl

theorem instantClass_recognized (h : r.child.accepted ≠ .none) :
    instantClass p r false = r.child.accepted.instant r.child.loadFlag := if_pos h

theorem instantClass_loadedSeat {c : ChildSeat} (hflag : r.child.loadFlag = true) (hc : r.child.accepted = c)
    (h : c ≠ .none) : instantClass p r false = c.instant true := by
  rw [instantClass_recognized (hc ▸ h), hc, hflag]

theorem instantClass_unrecognized {band : Nat} (h : r.child.accepted = .none) (hb : r.load.band = band) :
    instantClass p r false = bandInstant p r.childCap band r.load.n r.load.k := by
  rw [← hb]; exact if_neg (not_not_intro h)

end

/-! ## Votes (R71, R77) -/

theorem ClassRec.underDirect_iff (c : ClassRec) :
    c.underDirect = true ↔ c.stable = .absent ∨
      (c.stable = .fault ∧ (c.cause = .nodeLost ∨ c.cause = .misfit ∨ c.cause = .noSlot)) := by
  simp [ClassRec.underDirect, or_assoc]

section
variable {c : ClassRec} {i : OccClass} {p : Profile}

theorem ClassRec.vote_underDirect (h : c.underDirect = true) : c.vote i = c := if_pos h

/-- A vote where votes count: the cases of R77. -/
theorem ClassRec.vote_counted (h : c.underDirect = false) :
    c.vote i =
      if i = c.stable then { c with candidate := c.stable, agreement := 0 }
      else if i = c.candidate then { c with agreement := min (c.agreement + 1) agreementLimit }
      else { c with candidate := i, agreement := 1 } := if_neg (Bool.eq_false_iff.mp h)

theorem ClassRec.vote_stable (h : c.underDirect = false) (hs : i = c.stable) :
    c.vote i = { c with candidate := c.stable, agreement := 0 } := by
  rw [ClassRec.vote_counted h, if_pos hs]

theorem ClassRec.vote_candidate (h : c.underDirect = false) (hs : i ≠ c.stable) (hc : i = c.candidate) :
    c.vote i = { c with agreement := min (c.agreement + 1) agreementLimit } := by
  rw [ClassRec.vote_counted h, if_neg hs, if_pos hc]

theorem ClassRec.vote_other (h : c.underDirect = false) (hs : i ≠ c.stable) (hc : i ≠ c.candidate) :
    c.vote i = { c with candidate := i, agreement := 1 } := by
  rw [ClassRec.vote_counted h, if_neg hs, if_neg hc]

/-- The agreement count stops at 15. -/
theorem min_agreementLimit (n : Nat) : min (n + 1) agreementLimit = if n < 15 then n + 1 else 15 := by
  rw [agreementLimit]; split <;> omega

/-! ## Required votes (R78) -/

theorem ClassRec.required_unresolved (h : c.stable = .unresolved) : c.required p = p.resolve := if_pos h

/-- From a settled class the candidate decides alone, FAULT among them. -/
theorem ClassRec.required_settled (h : c.stable ≠ .unresolved) (hi : c.candidate = i) :
    c.required p = p.entryVotes i := by
  subst hi
  rw [ClassRec.required, if_neg h, ite_eq_right_iff]
  intro hf
  rw [hf, Profile.entryVotes]

end

/-! ## The obligations -/

/-- Settles O24: a mat fault first, then the table of the recognized child seats, then the bands by their conditions in order. -/
theorem instantClassOfSample : Obligations.InstantClassOfSample := by
  intro p r
  refine ⟨instantClass_matFault p r, fun hc => ?conflict, fun hn hc hflag => ?unloaded, fun hflag hc => ?rearFacing,
    fun hflag hc => instantClass_loadedSeat hflag hc (by decide), fun hflag hc => ?unspecified,
    fun hflag hc => instantClass_loadedSeat hflag hc (by decide), fun hn => ?band⟩
  case conflict => rw [instantClass_recognized (by simp [hc]), hc, ChildSeat.instant_conflict]
  case unloaded => rw [instantClass_recognized hn, hflag, ChildSeat.instant_unloaded hc]
  case rearFacing =>
    rw [instantClass_loadedSeat hflag rfl (by obtain h | h := hc <;> simp [h]), ChildSeat.instant_rearFacing hc]
  case unspecified =>
    rw [instantClass_loadedSeat hflag rfl (by obtain h | h := hc <;> simp [h]), ChildSeat.instant_unspecified hc]
  case band =>
    have two (hb : r.load.band = 2) := (instantClass_unrecognized (p := p) hn hb).trans (bandInstant_two ..)
    have three (hb : r.load.band = 3) := (instantClass_unrecognized (p := p) hn hb).trans (bandInstant_three ..)
    exact ⟨instantClass_unrecognized hn, instantClass_unrecognized hn,
      fun hb hrigid => (two hb).trans (if_pos hrigid),
      fun hb hrigid hperson => (two hb).trans ((if_neg hrigid).trans (if_pos hperson)),
      fun hb hrigid hperson => (two hb).trans ((if_neg hrigid).trans (if_neg hperson)),
      fun hb hperson => (three hb).trans (if_pos hperson),
      fun hb hperson => (three hb).trans (if_neg hperson)⟩

/-- Settles O25: the four cases of a vote by their lemmas, and the entry votes of a settled class read off the table of R76. -/
theorem votesCountTowardRequiredNumber : Obligations.VotesCountTowardRequiredNumber := by
  refine ⟨fun c i => ⟨c.underDirect_iff, ClassRec.vote_underDirect, ClassRec.vote_stable, fun h hs hc => ?counted,
    ClassRec.vote_other⟩, fun c p => ⟨ClassRec.required_unresolved, ClassRec.required_settled, fun hs => ?entry⟩⟩
  case counted => rw [ClassRec.vote_candidate h hs hc, min_agreementLimit]
  case entry =>
    have entry {i : OccClass} : c.candidate = i → c.required p = p.entryVotes i := ClassRec.required_settled hs
    exact ⟨entry, entry, entry, entry, entry, entry, entry, entry, entry⟩

end Sys2Proof.Machine
end

/-! CONFIRM AUDIBLE and MUTE: what they answer, what a walk that mutes positions leaves in the records and in the cabin queue, and
that they touch nothing else (R102, R103, R142). -/

namespace Sys2Proof.Machine

/-! ## What a received frame leaves -/

@[simp] theorem State.received_positions (s : State) (p : Port) : (s.received p).positions = s.positions := by
  rw [s.received_form p]

@[simp] theorem State.received_scanNumber (s : State) (p : Port) :
    (s.received p).scanner.number = s.scanner.number := by
  rw [s.received_form p]

/-- Changing a position's record while a frame is judged changes it as it stood when the frame arrived. -/
theorem State.putBack_received_modPos (s : State) (port : Port) (p : Pos) (f : PosRec → PosRec) :
    s.putBack ((s.received port).modPos p f) = s.modPos p f :=
  congrArg (fun t : State => t.modPos p f) (s.putBack_received port)

/-! ## A queue that receives a notice (R142) -/

/-- A notice about something else stays as it stands. -/
theorem PortState.mem_receive_of_not_about {x : PortState} {k : NoticeKind} {n : Nat} {m : Notice} (v w : Half)
    (hm : m ∈ x.queue) (h : m.about k n = false) : m ∈ (x.receive k n v w).queue := by
  obtain ⟨hq, -⟩ | ⟨hq, -, -⟩ | ⟨hq, -, -⟩ := x.receive_queue k n v w <;> rw [hq]
  · exact List.mem_map.2 ⟨m, hm, by simp [h]⟩
  · exact List.mem_append_left _ hm
  · exact hm

theorem PortState.receive_length_le (x : PortState) (k : NoticeKind) (n : Nat) (v w : Half) :
    (x.receive k n v w).queue.length ≤ x.queue.length + 1 := by
  obtain ⟨hq, -⟩ | ⟨hq, -, -⟩ | ⟨hq, -, -⟩ := x.receive_queue k n v w <;> rw [hq]
  · rw [coalesce, List.length_map]; exact Nat.le_succ _
  · rw [List.length_append, List.length_singleton]
  · exact Nat.le_succ _

/-! ## CONFIRM AUDIBLE (R102) -/

theorem State.confirmAnswer_audible {s : State} {p : Pos} (h : (s.pos p).reminder.step = .audible) :
    s.confirmAnswer p =
      (s.modPos p fun r => { r with reminder := { r.reminder with confirmed := true } }).answer .ok := if_pos h

theorem State.confirmAnswer_tooLate {s : State} {p : Pos} (h : (s.pos p).reminder.step ≠ .audible) :
    s.confirmAnswer p = s.answer .tooLate := if_neg h

section
variable {s : State} {n chk : Byte}

theorem State.answers_confirmAudible_badArg (hr : s.ready .cabin) (hs : soundFrame 0x41 [n] chk)
    (h : n = 0 ∨ 16 < n.toNat) : s.Answers (.confirmAudible .cabin n chk) .cabin 0x41 .badArg [] s :=
  State.answers_unchanged rfl hr hs rfl rfl (State.onPosition_badArg h _ _)

variable {p : Pos}

theorem State.answers_confirmAudible_ok (hr : s.ready .cabin) (hs : soundFrame 0x41 [n] chk) (hn : n.toNat = p.val + 1)
    (h : (s.pos p).reminder.step = .audible) :
    s.Answers (.confirmAudible .cabin n chk) .cabin 0x41 .ok []
      (s.modPos p fun r => { r with reminder := { r.reminder with confirmed := true } }) := by
  have hact := (State.onPosition_eq hn (s.received .cabin).confirmAnswer (s.received .cabin)).trans
    (State.confirmAnswer_audible (by rwa [State.received_pos]))
  have hanswers := State.answers_of (i := .confirmAudible .cabin n chk) rfl hr hs rfl rfl hact rfl
    (s.received_mode .cabin) rfl rfl (congrArg LiveConfig.settings (s.received_config .cabin))
  rwa [State.putBack_received_modPos] at hanswers

theorem State.answers_confirmAudible_tooLate (hr : s.ready .cabin) (hs : soundFrame 0x41 [n] chk)
    (hn : n.toNat = p.val + 1) (h : (s.pos p).reminder.step ≠ .audible) :
    s.Answers (.confirmAudible .cabin n chk) .cabin 0x41 .tooLate [] s :=
  State.answers_unchanged rfl hr hs rfl rfl <|
    (State.onPosition_eq hn _ _).trans (State.confirmAnswer_tooLate (by rwa [State.received_pos]))

end

/-! ## Muting one position (R103) -/

/-- A position's record with its reminder muted. -/
def PosRec.muted (r : PosRec) : PosRec := { r with reminder := { r.reminder with step := .muted, timer := 0 } }

/-- REMINDER_CHANGED with state MUTED stands in the cabin queue for a position, with a scan number. -/
def State.TellsMuted (t : State) (p : Pos) (scan : Half) : Prop :=
  ∃ m ∈ (t.port .cabin).queue,
    m.kind = .reminderChanged ∧ m.subject = p.val + 1 ∧ m.payload = 4 ∧ m.scan = scan

section
variable {s : State} {p q : Pos}

theorem State.muteOne_of_not_audible (h : (s.pos p).reminder.step ≠ .audible) : s.muteOne p = s := if_neg h

/-- An AUDIBLE position's record is muted, and its new step is posted. -/
theorem State.muteOne_of_audible (h : (s.pos p).reminder.step = .audible) :
    s.muteOne p = (s.setPos p (s.pos p).muted).post .cabin .reminderChanged (p.val + 1) 4 := by
  have hmove : s.muteOne p = (s.setPos p (s.pos p).muted).postReminder p := if_pos h
  have hcode : payloadOf 0 ReminderStep.muted.code = 4 := rfl
  rw [hmove, State.postReminder, State.pos_setPos, if_pos rfl, PosRec.muted, hcode]
  rfl

theorem State.muteOne_frame (p : Pos) (s : State) : s.ReminderFrame (s.muteOne p) p := by
  by_cases h : (s.pos p).reminder.step = .audible
  · have hmove : s.muteOne p = s.moveReminder p .muted 0 := if_pos h
    exact hmove ▸ s.moveReminder_frame p .muted 0
  · exact (State.muteOne_of_not_audible h).symm ▸ .refl s p

theorem State.muteOne_pos_self (s : State) (p : Pos) :
    (s.muteOne p).pos p = if (s.pos p).reminder.step = .audible then (s.pos p).muted else s.pos p := by
  split
  case isTrue h =>
    rw [State.muteOne_of_audible h]
    exact (s.pos_setPos p p _).trans (if_pos rfl)
  case isFalse h => rw [State.muteOne_of_not_audible h]

/-- The cabin queue after an AUDIBLE position is muted. -/
theorem State.muteOne_queue (h : (s.pos p).reminder.step = .audible) :
    ((s.muteOne p).port .cabin).queue =
      ((s.port .cabin).receive .reminderChanged (p.val + 1) 4 s.scanner.number).queue := by
  rw [State.muteOne_of_audible h, State.port_post, if_pos rfl]
  rfl

theorem State.muteOne_queue_length (s : State) (p : Pos) :
    ((s.muteOne p).port .cabin).queue.length ≤ (s.port .cabin).queue.length + 1 := by
  by_cases h : (s.pos p).reminder.step = .audible
  · rw [State.muteOne_queue h]; exact PortState.receive_length_le ..
  · rw [State.muteOne_of_not_audible h]; exact Nat.le_succ _

theorem State.muteOne_tells (h : (s.pos p).reminder.step = .audible) (hroom : (s.port .cabin).queue.length < 16) :
    (s.muteOne p).TellsMuted p s.scanner.number := by
  rw [State.TellsMuted, State.muteOne_queue h]
  exact PortState.receive_mem _ _ _ _ _ hroom

/-- A notice of another position stays: its subject differs. -/
theorem State.TellsMuted.muteOne {scan : Half} (h : s.TellsMuted p scan) (hq : q ≠ p) : (s.muteOne q).TellsMuted p scan := by
  by_cases ha : (s.pos q).reminder.step = .audible
  · obtain ⟨m, hm, hkind, hsubject, hrest⟩ := h
    have hval : p.val ≠ q.val := fun e => hq (Fin.ext e.symm)
    have hother : m.about .reminderChanged (q.val + 1) = false := by simp [Notice.about, hsubject, hval]
    refine ⟨m, ?_, hkind, hsubject, hrest⟩
    rw [State.muteOne_queue ha]
    exact PortState.mem_receive_of_not_about _ _ hm hother
  · rwa [State.muteOne_of_not_audible ha]

end

/-! ## Muting the listed positions (R103) -/

section
variable {s t : State}

theorem State.vehicle_of_reminderBack (h : s.reminderBack t = s) : t.vehicle = s.vehicle := (congrArg State.vehicle h :)

theorem State.scanner_of_reminderBack (h : s.reminderBack t = s) : t.scanner = s.scanner := (congrArg State.scanner h :)

theorem State.config_of_reminderBack (h : s.reminderBack t = s) : t.config = s.config := (congrArg State.config h :)

theorem State.port_of_reminderBack (h : s.reminderBack t = s) {q : Port} (hq : q ≠ .cabin) : t.port q = s.port q := by
  have hports := congrArg State.ports h
  cases q with
  | cabin => exact absurd rfl hq
  | safety => exact (congrArg PerPort.safety hports :)
  | service => exact (congrArg PerPort.service hports :)

end

/-- A walk of the reminder machine changes the positions and the cabin port alone. -/
theorem State.forPositions_reminder {f : Pos → State → State} (hf : ∀ (p : Pos) (s : State), s.ReminderFrame (f p s) p)
    (ps : List Pos) (s : State) : s.reminderBack (s.forPositions ps f) = s := by
  induction ps generalizing s with
  | nil => rfl
  | cons p ps ih => exact (congrArg s.reminderBack (ih (f p s))).trans (hf p s).rest

theorem State.forPositions_muteOne_pos (ps : List Pos) (s : State) (q : Pos) :
    (s.forPositions ps State.muteOne).pos q =
      if q ∈ ps ∧ (s.pos q).reminder.step = .audible then (s.pos q).muted else s.pos q := by
  induction ps generalizing s with
  | nil => simp
  | cons p ps ih =>
    rw [State.forPositions_cons, ih]
    by_cases hq : q = p
    · subst hq
      rw [State.muteOne_pos_self]
      by_cases h : (s.pos q).reminder.step = .audible
      · simp [h, PosRec.muted]
      · simp [h]
    · rw [(s.muteOne_frame p).others q hq]
      simp [hq]

/-- A notice stays while other positions are muted. -/
theorem State.TellsMuted.forPositions {s : State} {p : Pos} {scan : Half} {ps : List Pos} (h : s.TellsMuted p scan)
    (hp : p ∉ ps) : (s.forPositions ps State.muteOne).TellsMuted p scan := by
  induction ps generalizing s with
  | nil => exact h
  | cons q ps ih =>
    rw [List.mem_cons, not_or] at hp
    exact ih (h.muteOne (Ne.symm hp.1)) hp.2

/-- An AUDIBLE position of the walk is told where the queue has room for it and for one notice of each position before it. -/
theorem State.forPositions_muteOne_tells {ps : List Pos} (hnodup : ps.Nodup) {s : State} {p : Pos} (hp : p ∈ ps)
    (ha : (s.pos p).reminder.step = .audible) (hroom : (s.port .cabin).queue.length + ps.idxOf p < 16) :
    (s.forPositions ps State.muteOne).TellsMuted p s.scanner.number := by
  induction ps generalizing s with
  | nil => cases hp
  | cons q ps ih =>
    obtain ⟨hq, hnodup⟩ := List.nodup_cons.1 hnodup
    rw [State.forPositions_cons]
    by_cases hpq : q = p
    · subst hpq
      exact (State.muteOne_tells ha (Nat.lt_of_le_of_lt (Nat.le_add_right ..) hroom)).forPositions hq
    · have hframe := s.muteOne_frame q
      have hnumber : (s.muteOne q).scanner.number = s.scanner.number :=
        congrArg Scanner.number (State.scanner_of_reminderBack hframe.rest)
      have hlength := s.muteOne_queue_length q
      rw [List.idxOf_cons_ne _ hpq] at hroom
      rw [← hnumber]
      refine ih hnodup ((List.mem_cons.1 hp).resolve_left (Ne.symm hpq)) ?_ (by omega)
      rwa [hframe.others p (Ne.symm hpq)]

/-! ## The positions that MUTE concerns -/

/-- The positions that an operand of MUTE concerns: every one for 0, and otherwise the one it names. -/
def muteList (n : Byte) : List Pos := if n = 0 then allPos else (positionOf n).toList

theorem muteList_zero : muteList 0 = allPos := if_pos rfl

theorem muteList_eq_singleton {n : Byte} {p : Pos} (hn : n.toNat = p.val + 1) : muteList n = [p] := by
  have hzero : n ≠ 0 := by rintro rfl; cases hn
  rw [muteList, if_neg hzero, positionOf_eq hn]
  rfl

theorem muteList_nodup (n : Byte) : (muteList n).Nodup := by
  unfold muteList
  split
  · exact allPos_nodup
  · cases positionOf n with
    | none => exact List.nodup_nil
    | some p => exact List.nodup_singleton p

theorem mem_muteList {n : Byte} {p : Pos} : p ∈ muteList n ↔ n = 0 ∨ n.toNat = p.val + 1 := by
  by_cases hzero : n = 0
  · rw [hzero, muteList_zero]
    exact iff_of_true (mem_allPos p) (.inl rfl)
  · rw [muteList, if_neg hzero, Option.mem_toList, positionOf, indexFromOne_eq_some, or_iff_right hzero]

theorem idxOf_allPos (p : Pos) : allPos.idxOf p = p.val := by revert p; decide

/-- The room that the cabin queue needs for a position in the walk of MUTE. -/
theorem muteList_room {n : Byte} {p : Pos} {length : Nat} (hp : n = 0 ∨ n.toNat = p.val + 1)
    (hroom : (n ≠ 0 ∧ length < 16) ∨ length + p.val < 16) : length + (muteList n).idxOf p < 16 := by
  obtain rfl | hn := hp
  · rw [muteList_zero, idxOf_allPos]
    exact hroom.resolve_left fun h => h.1 rfl
  · rw [muteList_eq_singleton hn, List.idxOf_cons_self]
    omega

/-- The answer that MUTE gives while its frame is judged. -/
def State.muteAct (n : Byte) (s : State) : Answer :=
  if n = 0 then s.muteAnswer allPos else s.onPosition n fun q => s.muteAnswer [q]

theorem State.exec_mute (s : State) (n chk : Byte) :
    exec (.mute .cabin n chk) s = .next (s.takeFrame .cabin 0x42 [n] chk (State.muteAct n)) := rfl

theorem State.muteAct_badArg {n : Byte} (h : 16 < n.toNat) (s : State) : s.muteAct n = s.answer .badArg := by
  have hzero : n ≠ 0 := by rintro rfl; cases h
  rw [State.muteAct, if_neg hzero, State.onPosition_badArg (.inr h)]

/-- MUTE of an operand in range is the muting of the positions it concerns. -/
theorem State.muteAct_eq_muteAnswer {n : Byte} (h : n.toNat ≤ 16) (s : State) : s.muteAct n = s.muteAnswer (muteList n) := by
  unfold State.muteAct
  by_cases hzero : n = 0
  · rw [if_pos hzero, hzero, muteList_zero]
  · have hpos : n.toNat ≠ 0 := fun e => hzero (BitVec.eq_of_toNat_eq e)
    have hn : n.toNat = (⟨n.toNat - 1, by omega⟩ : Pos).val + 1 := by simp only; omega
    rw [if_neg hzero, State.onPosition_eq hn, muteList_eq_singleton hn]

/-! ## MUTE (R103) -/

section
variable {s : State}

theorem State.muteAnswer_ok {ps : List Pos} (h : ∃ p, p ∈ ps ∧ (s.pos p).reminder.step = .audible) :
    s.muteAnswer ps = (s.forPositions ps State.muteOne).answer .ok := if_pos (by simpa using h)

theorem State.muteAnswer_tooLate {ps : List Pos} (h : ¬ ∃ p, p ∈ ps ∧ (s.pos p).reminder.step = .audible) :
    s.muteAnswer ps = s.answer .tooLate := if_neg (by simpa using h)

variable {n chk : Byte}

theorem State.answers_mute_badArg (hr : s.ready .cabin) (hs : soundFrame 0x42 [n] chk) (h : 16 < n.toNat) :
    s.Answers (.mute .cabin n chk) .cabin 0x42 .badArg [] s :=
  State.answers_unchanged (s.exec_mute n chk) hr hs rfl rfl (State.muteAct_badArg h _)

theorem State.answers_mute_tooLate (hr : s.ready .cabin) (hs : soundFrame 0x42 [n] chk) (hn : n.toNat ≤ 16)
    (h : ¬ ∃ p, p ∈ muteList n ∧ (s.pos p).reminder.step = .audible) :
    s.Answers (.mute .cabin n chk) .cabin 0x42 .tooLate [] s :=
  State.answers_unchanged (s.exec_mute n chk) hr hs rfl rfl <|
    (State.muteAct_eq_muteAnswer hn _).trans (State.muteAnswer_tooLate (by simpa using h))

/-- MUTE with a position in AUDIBLE leaves what the walk over the concerned positions leaves: their records and the cabin queue
as that walk has them, and nothing else changed but what every frame may. -/
theorem State.mute_leaves_walk (hr : s.ready .cabin) (hs : soundFrame 0x42 [n] chk) (hn : n.toNat ≤ 16)
    (h : ∃ p, p ∈ muteList n ∧ (s.pos p).reminder.step = .audible) :
    let u := (s.received .cabin).forPositions (muteList n) State.muteOne
    ∃ t, exec (.mute .cabin n chk) s = .next t ∧ t.replied .cabin 0x42 .ok [] ∧ s.Heard t ∧
      (∀ p, t.pos p = u.pos p) ∧ (t.port .cabin).queue = (u.port .cabin).queue ∧
      { s.putBack t with positions := s.positions } = s ∧ ∀ q, q ≠ .cabin → t.port q = s.port q := by
  intro u
  have hrest : (s.received .cabin).reminderBack u = s.received .cabin := State.forPositions_reminder State.muteOne_frame _ _
  have hvehicle := State.vehicle_of_reminderBack hrest
  have hconfig := State.config_of_reminderBack hrest
  have hact : (s.received .cabin).muteAct n = u.answer .ok :=
    (State.muteAct_eq_muteAnswer hn _).trans (State.muteAnswer_ok (by simpa using h))
  obtain ⟨t, htake, hheard, hreplied, hput, hport, hsame⟩ := State.takeFrame_effect hr hs rfl rfl hact
    (by rw [hvehicle, State.received_mode]) (by rw [State.scanner_of_reminderBack hrest])
    (by rw [hvehicle]; exact s.received_eco .cabin) (by rw [hconfig, State.received_config])
  refine ⟨t, (s.exec_mute n chk).trans (congrArg Host.Outcome.next htake), hreplied, hheard, fun p => ?records, ?queue,
    ?rest, fun q hq => ?others⟩
  case records => exact (congrArg (fun v : State => v.pos p) hsame :)
  case queue => rw [hport, if_pos rfl]
  case rest =>
    calc { s.putBack t with positions := s.positions }
      _ = { s.putBack u with positions := (s.received .cabin).positions } := by rw [hput, State.received_positions]
      _ = s.putBack ((s.received .cabin).reminderBack u) := rfl
      _ = s := by rw [hrest, State.putBack_received]
  case others =>
    rw [hport, if_neg hq, State.port_of_reminderBack hrest hq, State.received_port, if_neg hq]

end

/-! ## The obligation -/

/-- Settles O33: the answers of CONFIRM AUDIBLE by the step, and MUTE as a walk over the concerned positions, whose notices each
stand in the cabin queue by the room left at their turn. -/
theorem confirmAndMuteActInAudibleOnly : Obligations.ConfirmAndMuteActInAudibleOnly := by
  refine ⟨fun s n chk hr hs => ?confirm, fun s n chk hr hs => ?mute⟩
  case confirm =>
    exact ⟨State.answers_confirmAudible_badArg hr hs, fun p hn =>
      ⟨State.answers_confirmAudible_ok hr hs hn, State.answers_confirmAudible_tooLate hr hs hn⟩⟩
  case mute =>
    intro muted concerned
    have hconcerned (p : Pos) : concerned p ↔ p ∈ muteList n ∧ (s.pos p).reminder.step = .audible := by
      rw [mem_muteList]
    refine ⟨State.answers_mute_badArg hr hs, fun hn hnone => ?tooLate, fun hsome => ?ok⟩
    case tooLate => exact State.answers_mute_tooLate hr hs hn (by simpa only [hconcerned] using hnone)
    case ok =>
      have hn : n.toNat ≤ 16 := by
        obtain ⟨p, rfl | hp, -⟩ := hsome
        · decide
        · omega
      obtain ⟨t, hexec, hreplied, hheard, hpos, hqueue, hrest, hothers⟩ :=
        State.mute_leaves_walk hr hs hn (by simpa only [hconcerned] using hsome)
      refine ⟨t, hexec, hreplied, hheard, fun p => ?records, fun p hp hroom => ?told, hrest,
        hothers .safety (by decide), hothers .service (by decide)⟩
      case records =>
        rw [hpos, State.forPositions_muteOne_pos, State.received_pos, hconcerned]
        exact ⟨fun h => if_pos h, fun h => if_neg h⟩
      case told =>
        have hlength : ((s.received .cabin).port .cabin).queue.length = (s.port .cabin).queue.length := by
          rw [State.received_port, if_pos rfl]
        have htells := State.forPositions_muteOne_tells (muteList_nodup n) (s := s.received .cabin) (mem_muteList.2 hp.1)
          (by rw [State.received_pos]; exact hp.2) (by rw [hlength]; exact muteList_room hp.1 hroom)
        rw [State.received_scanNumber] at htells
        rw [hqueue]
        exact htells

end Sys2Proof.Machine

/-! The restraint interface: what HOLD does to the hold timer, the snapshot stack and a capture in flight, and what the three
snapshot commands answer and leave (R51, R111, R112, R117 to R120, spec 11.4). -/

namespace Sys2Proof.Machine

/-! ## A capture in flight aborts (R51) -/

section
variable {s : State} (r : CaptureResult)

theorem State.abortCapture_idle (h : s.capture = none) : s.abortCapture r = s := by
  simp only [State.abortCapture, h]

theorem State.abortCapture_inFlight {c : Capture} (h : s.capture = some c) :
    s.abortCapture r =
      { s with capture := none }.post .service .captureDone (posNumber c.position) (capturePayload r 0) := by
  simp only [State.abortCapture, h]

/-- An aborted capture changes the capture and the ports alone. -/
theorem State.abortCapture_rest (s : State) : { s.abortCapture r with capture := s.capture, ports := s.ports } = s := by
  cases h : s.capture with
  | none => rw [State.abortCapture_idle r h, ← h]
  | some c => rw [State.abortCapture_inFlight r h, ← h]; rfl

@[simp] theorem State.abortCapture_capture (s : State) : (s.abortCapture r).capture = none := by
  cases h : s.capture with
  | none => rw [State.abortCapture_idle r h, h]
  | some c => rw [State.abortCapture_inFlight r h]; rfl

/-- The end of a capture is told on the service port alone. -/
theorem State.abortCapture_port (s : State) {q : Port} (hq : q ≠ .service) : (s.abortCapture r).port q = s.port q := by
  cases h : s.capture with
  | none => rw [State.abortCapture_idle r h]
  | some c => rw [State.abortCapture_inFlight r h, State.port_post, if_neg hq]; rfl

theorem State.abortCapture_tells {c : Capture} (h : s.capture = some c) :
    s.TellsCapture (s.abortCapture r) c.position 15 (capturePayload r 0) := by
  intro hroom
  rw [State.abortCapture_inFlight r h, State.port_post, if_pos rfl]
  exact PortState.receive_mem _ _ _ _ _ (Nat.lt_succ_of_le hroom)

@[simp] theorem State.abortCapture_restraint (s : State) : (s.abortCapture r).restraint = s.restraint :=
  (congrArg State.restraint (s.abortCapture_rest r) :)

end

/-! ## HOLD (R111, R112) -/

/-- The snapshot that a HOLD pushes: the table as it stands, numbered by the hold count that this HOLD has raised. -/
def State.holdSnapshot (s : State) : Snapshot := { s.snapshot with number := min (s.restraint.holdCount + 1) 255 }

/-- The restraint interface as a HOLD leaves it. -/
def State.heldRestraint (s : State) : Restraint :=
  { s.restraint with
    hold := some (s.config.settings.holdLimit * 8000), holdCount := min (s.restraint.holdCount + 1) 255,
    lastExpired := false, snapshots := s.holdSnapshot :: s.restraint.snapshots.take 3 }

theorem seconds_eq (n : Nat) : seconds n = n * 8000 := Nat.mul_assoc n 1000 8

theorem min_holdCount (n : Nat) : min (n + 1) 255 = if n < 255 then n + 1 else 255 := by split <;> omega

/-- A HOLD writes the restraint interface, and then a capture in flight aborts with LOCKED. -/
theorem State.startHold_eq (s : State) : s.startHold = { s with restraint := s.heldRestraint }.abortCapture .locked := by
  rw [State.heldRestraint, ← seconds_eq]; rfl

@[simp] theorem State.startHold_restraint (s : State) : s.startHold.restraint = s.heldRestraint := by
  rw [State.startHold_eq, State.abortCapture_restraint]

@[simp] theorem State.startHold_capture (s : State) : s.startHold.capture = none := by
  rw [State.startHold_eq, State.abortCapture_capture]

/-- A HOLD changes the restraint interface, the capture and the ports alone. -/
theorem State.startHold_rest (s : State) :
    { s.startHold with restraint := s.restraint, capture := s.capture, ports := s.ports } = s := by
  rw [State.startHold_eq]
  exact congrArg (fun t : State => { t with restraint := s.restraint }) (State.abortCapture_rest .locked _)

/-- A HOLD is told on no port but the service port, where the end of a capture is. -/
theorem State.startHold_port (s : State) {q : Port} (hq : q ≠ .service) : s.startHold.port q = s.port q := by
  rw [State.startHold_eq, State.abortCapture_port .locked _ hq]; rfl

theorem State.startHold_port_idle {s : State} (h : s.capture = none) (q : Port) : s.startHold.port q = s.port q := by
  rw [State.startHold_eq, State.abortCapture_idle (s := { s with restraint := s.heldRestraint }) .locked h]; rfl

theorem State.startHold_tells {s : State} {c : Capture} (h : s.capture = some c) :
    s.TellsCapture s.startHold c.position 15 0x3000 := by
  rw [State.startHold_eq]
  exact State.abortCapture_tells (s := { s with restraint := s.heldRestraint }) .locked h

theorem State.heldRestraint_count (s : State) :
    s.heldRestraint.snapshots.length = min (s.restraint.snapshots.length + 1) 4 := by
  simp only [State.heldRestraint, List.length_cons, List.length_take]; omega

theorem State.holdSnapshot_table (s : State) (p : Pos) :
    s.holdSnapshot.table.get p =
      { stable := (s.pos p).cls.stable, belt := (s.pos p).buckle.belt, child := (s.pos p).child.accepted } :=
  PerPos.get_ofFn _ p

/-- What a HOLD makes of the restraint interface while its frame is judged, it makes of the one that stood when the frame
arrived. -/
@[simp] theorem State.received_heldRestraint (s : State) (p : Port) : (s.received p).heldRestraint = s.heldRestraint := by
  rw [s.received_form p]; rfl

/-- HOLD as the safety port takes it: its effect on the received state is all that the state after the frame shows beside what
every frame may change. -/
theorem State.hold_leaves_startHold {s : State} {chk : Byte} (hr : s.ready .safety) (hs : soundFrame 0x21 [] chk) :
    let u := (s.received .safety).startHold
    ∃ t, exec (.hold .safety chk) s = .next t ∧ s.Heard t ∧
      t.replied .safety 0x21 .ok [oneByte s.heldRestraint.holdCount, oneByte s.heldRestraint.snapshots.length] ∧
      t.restraint = s.heldRestraint ∧ t.capture = none ∧
      { s.putBack t with restraint := s.restraint, capture := s.capture } = s ∧
      ∀ q, q ≠ .safety → t.port q = u.port q := by
  intro u
  have hrest := (s.received .safety).startHold_rest
  have hvehicle : u.vehicle = (s.received .safety).vehicle := (congrArg State.vehicle hrest :)
  have hscanner : u.scanner = (s.received .safety).scanner := (congrArg State.scanner hrest :)
  have hconfig : u.config = (s.received .safety).config := (congrArg State.config hrest :)
  have hrestraint : u.restraint = s.heldRestraint := by rw [State.startHold_restraint, State.received_heldRestraint]
  have hact : (s.received .safety).holdAnswer =
      u.answerData [oneByte s.heldRestraint.holdCount, oneByte s.heldRestraint.snapshots.length] := by
    rw [← hrestraint]; rfl
  obtain ⟨t, htake, hheard, hreplied, hput, hport, hsame⟩ := State.takeFrame_effect hr hs rfl rfl hact
    (by rw [hvehicle, State.received_mode]) (by rw [hscanner]) (by rw [hvehicle]; exact s.received_eco .safety)
    (by rw [hconfig, State.received_config])
  have hcapture : t.capture = u.capture := (congrArg State.capture hsame :)
  refine ⟨t, congrArg Host.Outcome.next htake, hheard, hreplied, ?restraint, hcapture.trans (State.startHold_capture _), ?rest,
    fun q hq => ?others⟩
  case restraint => exact (congrArg State.restraint hsame :).trans hrestraint
  case rest =>
    calc { s.putBack t with restraint := s.restraint, capture := s.capture }
      _ = { s.putBack u with
            restraint := (s.received .safety).restraint, capture := (s.received .safety).capture } := by
        rw [hput, State.received_restraint, State.received_capture]
      _ = s.putBack { u with
            restraint := (s.received .safety).restraint, capture := (s.received .safety).capture
            ports := (s.received .safety).ports } := rfl
      _ = s := by rw [hrest, State.putBack_received]
  case others => rw [hport, if_neg hq]

/-! ## A command that writes the restraint interface alone -/

/-- A command that answers from the received state with another restraint interface leaves that one, and changes nothing else but
what every frame may. -/
theorem State.answers_restraint {s : State} {g : Restraint} {i : Instr} {p : Port} {cmd : Byte} {ops : List Byte} {chk : Byte}
    {act : State → Answer} {st : Status} {data : List Byte}
    (hi : exec i s = .next (s.takeFrame p cmd ops chk act)) (hr : s.ready p) (hs : soundFrame cmd ops chk)
    (hk : (operandLength cmd).isSome = true) (hp : permitted p cmd = true)
    (hact : act (s.received p) = { state := { s.received p with restraint := g }, status := st, data := data }) :
    s.Answers i p cmd st data { s with restraint := g } := by
  have h := State.answers_of hi hr hs hk hp hact rfl (s.received_mode p) rfl rfl (congrArg _ (s.received_config p))
  have hput : s.putBack { s.received p with restraint := g } = { s with restraint := g } :=
    congrArg (fun t : State => { t with restraint := g }) (s.putBack_received p)
  rwa [hput] at h

/-! ## The snapshot commands (R118 to R120) -/

theorem State.popAnswer_empty {s : State} (h : s.restraint.snapshots = []) :
    s.popAnswer = s.answerData (List.replicate 53 0) := by
  simp only [State.popAnswer, h]

theorem State.popAnswer_cons {s : State} {x : Snapshot} {rest : List Snapshot} (h : s.restraint.snapshots = x :: rest) :
    s.popAnswer =
      { s with restraint := { s.restraint with snapshots := rest } }.answerData (x.bytes ++ [oneByte rest.length]) := by
  simp only [State.popAnswer, h]

section
variable {s : State} {chk : Byte}

theorem State.answers_readSnapshot_ok {d : Byte} {x : Snapshot} (hr : s.ready .safety) (hs : soundFrame 0x23 [d] chk)
    (hd : d.toNat ≤ 3) (hx : s.restraint.snapshots[d.toNat]? = some x) :
    s.Answers (.readSnapshot .safety d chk) .safety 0x23 .ok (x.bytes ++ [oneByte s.restraint.snapshots.length]) s := by
  refine State.answers_unchanged rfl hr hs rfl rfl ?_
  simp only [State.received_restraint, hx, if_pos hd]
  rfl

theorem State.answers_readSnapshot_badArg {d : Byte} (hr : s.ready .safety) (hs : soundFrame 0x23 [d] chk)
    (h : 3 < d.toNat ∨ s.restraint.snapshots.length ≤ d.toNat) :
    s.Answers (.readSnapshot .safety d chk) .safety 0x23 .badArg [] s := by
  refine State.answers_unchanged rfl hr hs rfl rfl ?_
  simp only [State.received_restraint]
  split
  case h_1 x hx =>
    have hstacked : d.toNat < s.restraint.snapshots.length := (List.getElem?_eq_some_iff.1 hx).1
    rw [if_neg (by omega)]; rfl
  case h_2 => rfl

theorem State.answers_popSnapshot_cons {x : Snapshot} {rest : List Snapshot} (hr : s.ready .safety)
    (hs : soundFrame 0x24 [] chk) (h : s.restraint.snapshots = x :: rest) :
    s.Answers (.popSnapshot .safety chk) .safety 0x24 .ok (x.bytes ++ [oneByte rest.length])
      { s with restraint := { s.restraint with snapshots := rest } } := by
  refine State.answers_restraint rfl hr hs rfl rfl ?_
  rw [State.popAnswer_cons (by rw [State.received_restraint, h]), State.received_restraint]
  rfl

theorem State.answers_popSnapshot_empty (hr : s.ready .safety) (hs : soundFrame 0x24 [] chk)
    (h : s.restraint.snapshots = []) :
    s.Answers (.popSnapshot .safety chk) .safety 0x24 .ok (List.replicate 53 0) s :=
  State.answers_unchanged rfl hr hs rfl rfl (State.popAnswer_empty (by rw [State.received_restraint, h]))

theorem State.gateRefuses_clearSnapshots (hr : s.ready .service) (hs : soundFrame 0x70 [] chk) :
    s.GateRefuses (.clearSnapshots .service chk) 0x70 :=
  State.gateRefuses_of _ rfl hr hs rfl rfl rfl

theorem State.answers_clearSnapshots (hr : s.ready .service) (hs : soundFrame 0x70 [] chk) (ho : s.gateOpen) :
    s.Answers (.clearSnapshots .service chk) .service 0x70 .ok []
      { s with restraint := { s.restraint with snapshots := [] } } := by
  refine State.answers_restraint rfl hr hs rfl rfl ((State.gated_open ho .service _).trans ?_)
  rw [State.received_restraint]
  rfl

end

/-- The 52 bytes of a snapshot, by the number that each carries (spec 11.4). -/
theorem Snapshot.bytes_toNat (x : Snapshot) : x.bytes.map (·.toNat) =
    ([x.number, x.scan.toNat / 256, x.scan.toNat, x.suppression.code] ++
      (List.finRange 16).flatMap fun p =>
        [(x.table.get p).stable.code, (x.table.get p).belt.code, (x.table.get p).child.code]).map (· % 256) := by
  have hpos : allPos = List.finRange 16 := by decide
  simp [Snapshot.bytes, halfBytes, twoBytes, hpos, List.map_flatMap]

/-! ## The obligations -/

/-- Settles O34: the restraint interface that a HOLD leaves, and the end of a capture in flight that follows it. -/
theorem holdLoadsTimerAndPushesSnapshot : Obligations.HoldLoadsTimerAndPushesSnapshot := by
  intro s chk hr hs number
  have hnumber : min (s.restraint.holdCount + 1) 255 = number := min_holdCount _
  obtain ⟨t, hexec, hheard, hreplied, hrestraint, hcapture, hrest, hothers⟩ := State.hold_leaves_startHold hr hs
  have hservice : (s.received .safety).port .service = s.port .service := by rw [State.received_port, if_neg (by decide)]
  refine ⟨t, s.holdSnapshot, hexec, hheard, ?reply, ?restraint, hnumber, rfl, rfl, fun p => ?table, hcapture,
    fun c hc => ?told, hrest, ?cabin, fun hc => ?service⟩
  case reply => rw [← hnumber, ← State.heldRestraint_count]; exact hreplied
  case restraint => rw [hrestraint, State.heldRestraint, hnumber]
  case table => rw [State.holdSnapshot_table]; exact ⟨rfl, rfl, rfl⟩
  case told =>
    have htells := State.startHold_tells ((s.received_capture .safety).trans hc)
    rwa [State.TellsCapture, ← hothers .service (by decide), hservice, State.received_scanNumber] at htells
  case cabin =>
    calc t.port .cabin
      _ = (s.received .safety).port .cabin := by rw [hothers .cabin (by decide), State.startHold_port _ (by decide)]
      _ = s.port .cabin := by rw [State.received_port, if_neg (by decide)]
  case service =>
    calc t.port .service
      _ = (s.received .safety).port .service := by
        rw [hothers .service (by decide), State.startHold_port_idle ((s.received_capture .safety).trans hc)]
      _ = s.port .service := hservice

/-- Settles O36: the answers of READ, POP and CLEAR SNAPSHOTS by the stack and the gate, and the bytes of a snapshot. -/
theorem snapshotCommandsReadPopAndClear : Obligations.SnapshotCommandsReadPopAndClear := by
  refine ⟨fun s d chk hr hs => ?read, fun s chk hr hs => ?pop, fun s chk hr hs => ?clear, Snapshot.bytes_toNat⟩
  case read => exact ⟨fun x => State.answers_readSnapshot_ok hr hs, State.answers_readSnapshot_badArg hr hs⟩
  case pop => exact ⟨fun x rest => State.answers_popSnapshot_cons hr hs, State.answers_popSnapshot_empty hr hs⟩
  case clear => exact ⟨State.gateRefuses_clearSnapshots hr hs, State.answers_clearSnapshots hr hs⟩

end Sys2Proof.Machine

/-! Reading the notices and the status of a port: what the two commands answer and leave of their own port, and what the bytes of
every reply are (R137, R143 to R145, spec 11.4). -/

namespace Sys2Proof.Machine

/-! ## A command that writes its own port alone -/

/-- A command common to all ports is permitted on each of them (R138). -/
theorem permitted_common {cmd : Byte} (hfirst : 1 ≤ cmd.toNat) (hlast : cmd.toNat ≤ 5) (p : Port) : permitted p cmd = true := by
  simp [permitted, hfirst, hlast]

@[simp] theorem PerPort.set_set {α : Type} (t : PerPort α) (p : Port) (x y : α) : (t.set p x).set p y = t.set p y := by
  cases p <;> rfl

@[simp] theorem State.setPort_setPort (s : State) (p : Port) (x y : PortState) :
    (s.setPort p x).setPort p y = s.setPort p y := by
  simp only [State.setPort, PerPort.set_set]

/-- A command that answers from the received state with another state of its own port leaves that one, with the reply begun, and
changes nothing else but what every frame may. -/
theorem State.replies_setPort {s : State} {x : PortState} {i : Instr} {p : Port} {cmd : Byte} {ops : List Byte} {chk : Byte}
    {act : State → Answer} {st : Status} {data : List Byte}
    (hi : exec i s = .next (s.takeFrame p cmd ops chk act)) (hr : s.ready p) (hs : soundFrame cmd ops chk)
    (hk : (operandLength cmd).isSome = true) (hp : permitted p cmd = true)
    (hact : act (s.received p) = { state := (s.received p).setPort p x, status := st, data := data }) :
    ∃ t, exec i s = .next t ∧ s.Heard t ∧ t.port p = { x with reply := some (replyBytes cmd st data) } ∧
      (∀ q, q ≠ p → t.port q = s.port q) ∧ s.putBack t = s := by
  obtain ⟨t, htake, hheard, -, hput, hport, -⟩ := State.takeFrame_effect hr hs hk hp hact (s.received_mode p) rfl
    (s.received_eco p) (congrArg _ (s.received_config p))
  refine ⟨t, hi.trans (congrArg Host.Outcome.next htake), hheard, ?own, fun q hq => ?others, ?rest⟩
  case own => rw [hport, if_pos rfl, State.port_setPort, if_pos rfl]
  case others => rw [hport, if_neg hq, State.port_setPort, if_neg hq, State.received_port, if_neg hq]
  case rest => exact hput.trans (s.putBack_received p)

/-! ## READ NOTICE (R143, R145) -/

/-- The line that a port's queue asks for: asserted at the trigger depth, or once the oldest notice has waited the age limit
(R145, R146). -/
def State.lineFor (s : State) (p : Port) (q : List Notice) : Bool :=
  decide (s.config.settings.trigger.get p ≤ q.length) ||
    q.head?.any fun m => decide (s.config.settings.ageLimit.get p * 8 ≤ m.waited)

theorem State.wantsAttention_eq (s : State) (p : Port) : s.wantsAttention p = s.lineFor p (s.port p).queue := by
  unfold State.wantsAttention State.lineFor
  cases (s.port p).queue <;> rfl

@[simp] theorem State.received_lineFor (s : State) (port p : Port) (q : List Notice) :
    (s.received port).lineFor p q = s.lineFor p q := by
  rw [State.lineFor, State.received_config, State.lineFor]

theorem State.received_queue (s : State) (p : Port) : ((s.received p).port p).queue = (s.port p).queue := by
  rw [State.received_port, if_pos rfl]

/-- A port whose queue has been replaced and whose line has been judged. -/
theorem State.judgeAttention_setQueue (s : State) (p : Port) (q : List Notice) :
    (s.setPort p { s.port p with queue := q }).judgeAttention p =
      s.setPort p { s.port p with queue := q, attention := s.lineFor p q } := by
  rw [State.judgeAttention, State.wantsAttention_eq, State.port_setPort, if_pos rfl, State.setPort_setPort]
  rfl

theorem State.takeNotice_nil {s : State} {p : Port} (h : (s.port p).queue = []) :
    s.takeNotice p = s.answerData (List.replicate 7 0) := by
  simp only [State.takeNotice, h]

theorem State.takeNotice_cons {s : State} {p : Port} {n : Notice} {rest : List Notice} (h : (s.port p).queue = n :: rest) :
    s.takeNotice p =
      (s.setPort p { s.port p with queue := rest, attention := s.lineFor p rest }).answerData
        (n.bytes ++ [oneByte rest.length]) := by
  simp only [State.takeNotice, h, State.judgeAttention_setQueue]

section
variable {s : State} {p : Port} {chk : Byte}

theorem State.answers_readNotice_empty (hr : s.ready p) (hs : soundFrame 0x05 [] chk) (h : (s.port p).queue = []) :
    s.Answers (.readNotice p chk) p 0x05 .ok (List.replicate 7 0) s :=
  State.answers_unchanged rfl hr hs rfl (permitted_common (by decide) (by decide) p)
    (State.takeNotice_nil ((s.received_queue p).trans h))

theorem State.readNotice_removes_oldest {n : Notice} {rest : List Notice} (hr : s.ready p) (hs : soundFrame 0x05 [] chk)
    (h : (s.port p).queue = n :: rest) :
    ∃ t, exec (.readNotice p chk) s = .next t ∧ s.Heard t ∧
      t.port p = { s.port p with
        assembler := .idle, queue := rest, attention := s.lineFor p rest
        reply := some (replyBytes 0x05 .ok (n.bytes ++ [oneByte rest.length])) } ∧
      (∀ q, q ≠ p → t.port q = s.port q) ∧ s.putBack t = s := by
  refine State.replies_setPort
    (x := { s.port p with assembler := .idle, queue := rest, attention := s.lineFor p rest })
    rfl hr hs rfl (permitted_common (by decide) (by decide) p) ?_
  rw [State.takeNotice_cons ((s.received_queue p).trans h), State.received_lineFor, State.received_port, if_pos rfl]
  rfl

/-! ## READ STATUS (R144) -/

/-- The eight bits of the flags byte by their weights (spec 11.4). -/
theorem State.statusFlags_eq (s : State) :
    s.statusFlags =
      oneByte (s.holdActive.toNat + 2 * s.restraint.lastExpired.toNat + 4 * s.standstill.toNat +
        8 * s.vehicle.isFresh.toNat + 16 * s.vehicle.testMode.toNat + 32 * s.capture.isSome.toNat +
        64 * s.saving.toNat + 128 * s.staging.deferred.toNat) := by
  rw [State.statusFlags, flagsByte]
  refine congrArg oneByte ?_
  simp only [List.foldr_cons, List.foldr_nil]
  omega

/-- The status that a taken frame reports, with the scan mode given beside it, is the one that stood when the frame arrived. -/
theorem State.received_statusData (s : State) (p : Port) (mode : ScanMode) :
    (s.received p).statusData p mode = s.statusData p mode := by
  obtain ⟨ports, timer, mode', eco, h⟩ := s.received_cases p
  simp only [State.statusData, State.received_port, if_pos]
  rw [h]
  rfl

theorem State.readStatus_clears_overflow (hr : s.ready p) (hs : soundFrame 0x02 [] chk) :
    ∃ t, exec (.readStatus p chk) s = .next t ∧ s.Heard t ∧
      t.port p = { s.port p with
        assembler := .idle, overflow := false
        reply := some (replyBytes 0x02 .ok (s.statusData p s.vehicle.mode)) } ∧
      (∀ q, q ≠ p → t.port q = s.port q) ∧ s.putBack t = s := by
  refine State.replies_setPort (x := { s.port p with assembler := .idle, overflow := false })
    rfl hr hs rfl (permitted_common (by decide) (by decide) p) ?_
  rw [State.received_statusData, State.clearOverflow, State.received_port, if_pos rfl]
  rfl

end

/-! ## The bytes of a reply (R137) -/

theorem byteSum_concat (bs : List Byte) (b : Byte) : byteSum (bs ++ [b]) = byteSum bs + b := by
  simp only [byteSum, List.foldl_append, List.foldl_cons, List.foldl_nil]

theorem byteSum_replyBytes (cmd : Byte) (st : Status) (data : List Byte) : byteSum (replyBytes cmd st data) = 0 := by
  rw [replyBytes, byteSum_concat, checkByte]
  exact BitVec.add_right_neg _

/-! ## The obligation -/

/-- Settles O51: the oldest notice leaves the queue with the line judged, the status is read from the moment of the frame and the
overflow flag cleared, each by a change of the command's own port alone; and the check byte closes every reply's byte sum. -/
theorem noticesAndStatusAreReadAtOneMoment : Obligations.NoticesAndStatusAreReadAtOneMoment := by
  refine ⟨fun s p chk hr hs => ⟨State.answers_readNotice_empty hr hs, fun n rest h => ?notice⟩,
    fun s p chk hr hs => ?status, fun cmd st data => ?reply, rfl⟩
  case notice => exact State.readNotice_removes_oldest hr hs h
  case status =>
    obtain ⟨t, hexec, hheard, hown, hothers, hrest⟩ := State.readStatus_clears_overflow hr hs
    rw [State.statusData, State.statusFlags_eq] at hown
    exact ⟨t, hexec, hheard, hrest, hothers, hown⟩
  case reply => exact ⟨checkByte (cmd :: oneByte st.code :: data), rfl, byteSum_replyBytes cmd st data⟩

end Sys2Proof.Machine

/-! Profiles and settings: their ranges and their bytes, the commands that replace and read them, and the attention lines that new
settings judge (R46, R67, R76, R104, R146, R148 to R150, spec 11.3). -/

namespace Sys2Proof.Machine

/-! ## Ranges (R46, R67, R76, R148) -/

theorem within_iff (a b n : Nat) : within a b n = true ↔ a ≤ n ∧ n ≤ b := by
  simp only [within, Bool.and_eq_true, decide_eq_true_eq]

/-- The thresholds of R46: their range, and their order. -/
theorem Profile.bandsOk_iff (p : Profile) :
    p.bandsOk = true ↔ (∀ t ∈ [p.t1u, p.t1d, p.t2u, p.t2d, p.t3u, p.t3d], 1 ≤ t ∧ t ≤ 4000) ∧
      p.t1d < p.t1u ∧ p.t1u ≤ p.t2d ∧ p.t2d < p.t2u ∧ p.t2u ≤ p.t3d ∧ p.t3d < p.t3u := by
  simp [Profile.bandsOk, within_iff, and_assoc]

theorem Profile.childOk_iff (p : Profile) :
    p.childOk = true ↔ p.cinch ≤ 400 ∧ (1 ≤ p.csU ∧ p.csU ≤ 4000) ∧ p.csD ≤ 3999 ∧ p.csD < p.csU := by
  simp [Profile.childOk, within_iff, and_assoc]

/-- The classification parameters of R76: the person test's, and the required numbers of votes. -/
theorem Profile.votesOk_iff (p : Profile) :
    p.votesOk = true ↔ 1 ≤ p.nMin ∧ p.nMin ≤ 16 ∧ p.kRigid ≤ 255 ∧ p.kHuman ≤ 255 ∧
      ∀ v ∈ [p.resolve, p.vEmpty, p.vObject, p.vCsEmpty, p.vCsRf, p.vCsFf, p.vCsUnspec, p.vBooster, p.vSmall, p.vAdult],
        1 ≤ v ∧ v ≤ 15 := by
  simp [Profile.votesOk, within_iff, and_assoc]

/-- A valid profile: CSu has the range of the thresholds. -/
theorem Profile.valid_iff (p : Profile) :
    p.valid = true ↔
      (∀ t ∈ [p.t1u, p.t1d, p.t2u, p.t2d, p.t3u, p.t3d, p.csU], 1 ≤ t ∧ t ≤ 4000) ∧
      p.t1d < p.t1u ∧ p.t1u ≤ p.t2d ∧ p.t2d < p.t2u ∧ p.t2u ≤ p.t3d ∧ p.t3d < p.t3u ∧
      p.cinch ≤ 400 ∧ p.csD ≤ 3999 ∧ p.csD < p.csU ∧ 1 ≤ p.nMin ∧ p.nMin ≤ 16 ∧ p.kRigid ≤ 255 ∧ p.kHuman ≤ 255 ∧
      ∀ v ∈ [p.resolve, p.vEmpty, p.vObject, p.vCsEmpty, p.vCsRf, p.vCsFf, p.vCsUnspec, p.vBooster, p.vSmall, p.vAdult],
        1 ≤ v ∧ v ≤ 15 := by
  have hthresholds : (∀ t ∈ [p.t1u, p.t1d, p.t2u, p.t2d, p.t3u, p.t3d, p.csU], 1 ≤ t ∧ t ≤ 4000) ↔
      (∀ t ∈ [p.t1u, p.t1d, p.t2u, p.t2d, p.t3u, p.t3d], 1 ≤ t ∧ t ≤ 4000) ∧ (1 ≤ p.csU ∧ p.csU ≤ 4000) := by
    simp [and_assoc]
  rw [Profile.valid, Bool.and_eq_true, Bool.and_eq_true, Profile.bandsOk_iff, Profile.childOk_iff, Profile.votesOk_iff,
    hthresholds]
  tauto

theorem PerPort.forall_get {α : Type} (t : PerPort α) (P : α → Prop) :
    (∀ p : Port, P (t.get p)) ↔ P t.safety ∧ P t.cabin ∧ P t.service := by
  refine ⟨fun h => ⟨h .safety, h .cabin, h .service⟩, fun ⟨hsafety, hcabin, hservice⟩ p => ?_⟩
  cases p
  case safety => exact hsafety
  case cabin => exact hcabin
  case service => exact hservice

theorem Settings.valid_iff (x : Settings) :
    x.valid = true ↔ x.graceTime ≤ 600 ∧ x.visualTime ≤ 1200 ∧ x.audibleTime ≤ 1800 ∧ x.speedThreshold ≤ 60 ∧
      x.reissueInterval ∈ [1, 4, 8, 16] ∧ 1 ≤ x.holdLimit ∧ x.holdLimit ≤ 60 ∧
      10 ≤ x.firstDelay ∧ x.firstDelay ≤ 300 ∧ 10 ≤ x.repeatTime ∧ x.repeatTime ≤ 300 ∧
      x.ecoTime ∈ [30, 120, 300, 900] ∧
      (∀ p : Port, 1 ≤ x.trigger.get p ∧ x.trigger.get p ≤ 8) ∧
      (∀ p : Port, 10 ≤ x.ageLimit.get p ∧ x.ageLimit.get p ≤ 1000) := by
  rw [PerPort.forall_get x.trigger fun n => 1 ≤ n ∧ n ≤ 8, PerPort.forall_get x.ageLimit fun n => 10 ≤ n ∧ n ≤ 1000]
  simp only [Settings.valid, Bool.and_eq_true, decide_eq_true_eq, within_iff, List.contains_iff_mem, and_assoc]

/-! ## Bytes (spec 11.3) -/

theorem Profile.bytes_length (p : Profile) : p.bytes.length = 31 := rfl

theorem Settings.bytes_length (x : Settings) : x.bytes.length = 24 := rfl

/-- The 31 bytes of a profile as numbers: nine fields of two bytes, then thirteen of one. -/
theorem Profile.bytes_toNat (p : Profile) :
    p.bytes.map (·.toNat) =
      (([p.t1u, p.t1d, p.t2u, p.t2d, p.t3u, p.t3d, p.cinch, p.csU, p.csD].flatMap fun n => [n / 256, n]) ++
        [p.nMin, p.kRigid, p.kHuman, p.resolve, p.vEmpty, p.vObject, p.vCsEmpty, p.vCsRf, p.vCsFf, p.vCsUnspec,
          p.vBooster, p.vSmall, p.vAdult]).map (· % 256) := by
  simp [Profile.bytes, twoBytes]

theorem Settings.bytes_toNat (x : Settings) :
    x.bytes.map (·.toNat) =
      ([x.graceTime / 256, x.graceTime, x.visualTime / 256, x.visualTime, x.audibleTime / 256, x.audibleTime,
        x.speedThreshold, x.reissueInterval, x.holdLimit, x.firstDelay / 256, x.firstDelay, x.repeatTime / 256,
        x.repeatTime, x.ecoTime / 256, x.ecoTime, x.trigger.safety, x.trigger.cabin, x.trigger.service,
        x.ageLimit.safety / 256, x.ageLimit.safety, x.ageLimit.cabin / 256, x.ageLimit.cabin,
        x.ageLimit.service / 256, x.ageLimit.service]).map (· % 256) := by
  simp [Settings.bytes, twoBytes]

/-- A valid profile is read back from its bytes: its ranges fit the bytes that its fields take. -/
theorem Profile.ofBytes_bytes {p : Profile} (h : p.valid = true) : Profile.ofBytes p.bytes = some p := by
  obtain ⟨hthresholds, -, -, -, -, -, hcinch, hcsD, -, -, hnMin, hrigid, hhuman, hvotes⟩ := p.valid_iff.1 h
  simp only [List.forall_mem_cons] at hthresholds hvotes
  simp (disch := omega) only [Profile.ofBytes, Profile.bytes, twoBytes, numberAt, byteAt, List.cons_append,
    List.nil_append, List.getD_cons_zero, List.getD_cons_succ, fromBytes_oneByte, toNat_oneByte_of_lt]
  exact if_pos ⟨p.bytes_length, h⟩

/-- A profile that bytes carry is valid, and they are its bytes. -/
theorem Profile.bytes_of_ofBytes {b : List Byte} {p : Profile} (h : Profile.ofBytes b = some p) :
    p.valid = true ∧ b = p.bytes := by
  obtain ⟨⟨hlength, hvalid⟩, hread⟩ := Option.ite_none_right_eq_some.1 h
  cases hread
  refine ⟨hvalid, (eq_map_byteAt hlength).trans ?_⟩
  simp [Profile.bytes, numberAt, List.range_succ]

/-- Valid settings are read back from their bytes: their ranges fit the bytes that their fields take. -/
theorem Settings.ofBytes_bytes {x : Settings} (h : x.valid = true) : Settings.ofBytes x.bytes = some x := by
  obtain ⟨hgrace, hvisual, haudible, hspeed, hreissue, -, hhold, -, hfirst, -, hrepeat, heco, htrigger, hage⟩ :=
    x.valid_iff.1 h
  rw [PerPort.forall_get x.trigger fun n => 1 ≤ n ∧ n ≤ 8] at htrigger
  rw [PerPort.forall_get x.ageLimit fun n => 10 ≤ n ∧ n ≤ 1000] at hage
  simp only [List.mem_cons, List.not_mem_nil, or_false] at hreissue heco
  simp (disch := omega) only [Settings.ofBytes, Settings.bytes, twoBytes, numberAt, byteAt, List.cons_append,
    List.nil_append, List.getD_cons_zero, List.getD_cons_succ, fromBytes_oneByte, toNat_oneByte_of_lt]
  exact if_pos ⟨x.bytes_length, h⟩

/-- Settings that bytes carry are valid, and they are their bytes. -/
theorem Settings.bytes_of_ofBytes {b : List Byte} {x : Settings} (h : Settings.ofBytes b = some x) :
    x.valid = true ∧ b = x.bytes := by
  obtain ⟨⟨hlength, hvalid⟩, hread⟩ := Option.ite_none_right_eq_some.1 h
  cases hread
  refine ⟨hvalid, (eq_map_byteAt hlength).trans ?_⟩
  simp [Settings.bytes, numberAt, List.range_succ]

theorem Profile.ofBytes_eq_some {b : List Byte} {p : Profile} :
    Profile.ofBytes b = some p ↔ p.valid = true ∧ b = p.bytes :=
  ⟨Profile.bytes_of_ofBytes, fun ⟨hvalid, hbytes⟩ => hbytes ▸ Profile.ofBytes_bytes hvalid⟩

theorem Settings.ofBytes_eq_some {b : List Byte} {x : Settings} :
    Settings.ofBytes b = some x ↔ x.valid = true ∧ b = x.bytes :=
  ⟨Settings.bytes_of_ofBytes, fun ⟨hvalid, hbytes⟩ => hbytes ▸ Settings.ofBytes_bytes hvalid⟩

/-- The bytes that SET PROFILE refuses are those of no valid profile (R149). -/
theorem Profile.ofBytes_eq_none_iff (b : List Byte) :
    Profile.ofBytes b = none ↔ ¬ ∃ p : Profile, p.valid = true ∧ b = p.bytes := by
  simp only [Option.eq_none_iff_forall_ne_some, ne_eq, Profile.ofBytes_eq_some, not_exists]

/-- The bytes that SET SETTINGS refuses are those of no valid settings (R150). -/
theorem Settings.ofBytes_eq_none_iff (b : List Byte) :
    Settings.ofBytes b = none ↔ ¬ ∃ x : Settings, x.valid = true ∧ b = x.bytes := by
  simp only [Option.eq_none_iff_forall_ne_some, ne_eq, Settings.ofBytes_eq_some, not_exists]

/-! ## A command that writes the map or the profiles alone -/

/-- A command that answers from the received state with another configuration of the same settings leaves that one, and changes
nothing else but what every frame may. -/
theorem State.answers_config {s : State} {g : LiveConfig} {i : Instr} {p : Port} {cmd : Byte} {ops : List Byte} {chk : Byte}
    {act : State → Answer} {st : Status} {data : List Byte}
    (hi : exec i s = .next (s.takeFrame p cmd ops chk act)) (hr : s.ready p) (hs : soundFrame cmd ops chk)
    (hk : (operandLength cmd).isSome = true) (hp : permitted p cmd = true) (hset : g.settings = s.config.settings)
    (hact : act (s.received p) = { state := { s.received p with config := g }, status := st, data := data }) :
    s.Answers i p cmd st data { s with config := g } := by
  have h := State.answers_of hi hr hs hk hp hact rfl (s.received_mode p) rfl rfl hset
  have hput : s.putBack { s.received p with config := g } = { s with config := g } :=
    congrArg (fun t : State => { t with config := g }) (s.putBack_received p)
  rwa [hput] at h

/-! ## SET PROFILE and READ PROFILE (R149) -/

theorem indexFromZero_eq_none {n : Nat} {b : Byte} (h : n ≤ b.toNat) : indexFromZero n b = none := dif_neg (by omega)

theorem State.setProfileAnswer_noProfile {n : Byte} (h : 3 < n.toNat) (bytes : List Byte) (s : State) :
    s.setProfileAnswer n bytes = s.answer .badArg := by
  rw [State.setProfileAnswer, indexFromZero_eq_none h]

theorem State.setProfileAnswer_eq {n : Byte} {k : Fin 4} (h : n.toNat = k.val) (bytes : List Byte) (s : State) :
    s.setProfileAnswer n bytes =
      s.gated ((Profile.ofBytes bytes).elim (s.answer .badArg) fun x => (s.setProfile k x).answer .ok) := by
  rw [State.setProfileAnswer, indexFromZero_eq_some.2 h]
  cases Profile.ofBytes bytes
  case none => rfl
  case some => rfl

section
variable {s : State} {n chk : Byte} {v : Vector Byte 31}

theorem State.answers_setProfile_noProfile (hr : s.ready .service) (hs : soundFrame 0x68 (n :: v.toList) chk)
    (hn : 3 < n.toNat) : s.Answers (.setProfile .service n v chk) .service 0x68 .badArg [] s :=
  State.answers_unchanged rfl hr hs rfl rfl (State.setProfileAnswer_noProfile hn _ _)

theorem State.answers_readProfile_noProfile (hr : s.ready .service) (hs : soundFrame 0x67 [n] chk) (hn : 3 < n.toNat) :
    s.Answers (.readProfile .service n chk) .service 0x67 .badArg [] s := by
  refine State.answers_unchanged rfl hr hs rfl rfl ?_
  rw [indexFromZero_eq_none hn]
  rfl

variable {k : Fin 4}

theorem State.gateRefuses_setProfile (hr : s.ready .service) (hs : soundFrame 0x68 (n :: v.toList) chk)
    (hn : n.toNat = k.val) : s.GateRefuses (.setProfile .service n v chk) 0x68 :=
  State.gateRefuses_of _ rfl hr hs rfl rfl (State.setProfileAnswer_eq hn _ _)

theorem State.answers_setProfile_invalid (hr : s.ready .service) (hs : soundFrame 0x68 (n :: v.toList) chk)
    (hn : n.toNat = k.val) (ho : s.gateOpen) (hv : Profile.ofBytes v.toList = none) :
    s.Answers (.setProfile .service n v chk) .service 0x68 .badArg [] s := by
  refine State.answers_unchanged rfl hr hs rfl rfl ?_
  rw [State.setProfileAnswer_eq hn, State.gated_open ho, hv]
  rfl

theorem State.answers_setProfile_ok {x : Profile} (hr : s.ready .service) (hs : soundFrame 0x68 (n :: v.toList) chk)
    (hn : n.toNat = k.val) (ho : s.gateOpen) (hv : Profile.ofBytes v.toList = some x) :
    s.Answers (.setProfile .service n v chk) .service 0x68 .ok []
      { s with config := { s.config with profiles := s.config.profiles.set k.val x } } := by
  refine State.answers_config rfl hr hs rfl rfl rfl ?_
  rw [State.setProfileAnswer_eq hn, State.gated_open ho, hv, ← s.received_config .service]
  rfl

theorem State.answers_readProfile_ok (hr : s.ready .service) (hs : soundFrame 0x67 [n] chk) (hn : n.toNat = k.val) :
    s.Answers (.readProfile .service n chk) .service 0x67 .ok (n :: (s.config.profiles.get k).bytes) s := by
  refine State.answers_unchanged rfl hr hs rfl rfl ?_
  rw [indexFromZero_eq_some.2 hn, State.received_config]
  rfl

end

/-! ## New settings, and the attention lines that they judge (R146, R150) -/

/-- What is read of a port where one port has been replaced by one that reads the same. -/
theorem PortState.read_of_replaced {α : Type} {g : PortState → α} {f : Port → PortState} {x : PortState} {p : Port}
    (h : g x = g (f p)) (q : Port) : g (if q = p then x else f q) = g (f q) := by
  split
  case isTrue hq => rw [h, hq]
  case isFalse => rfl

@[simp] theorem State.port_judgeAttention (s : State) (p q : Port) :
    (s.judgeAttention p).port q = if q = p then { s.port p with attention := s.wantsAttention p } else s.port q :=
  State.port_setPort s p q _

/-- Judging a line changes no queue, so it changes no line's judgement. -/
@[simp] theorem State.wantsAttention_judgeAttention (s : State) (p q : Port) :
    (s.judgeAttention p).wantsAttention q = s.wantsAttention q := by
  refine State.wantsAttention_congr rfl ?_
  rw [State.port_judgeAttention]
  exact PortState.read_of_replaced (g := PortState.queue) (f := s.port) (by rfl) q

/-- Each port after every line has been judged. -/
theorem State.port_judgeAttention_all (s : State) (p : Port) :
    (((s.judgeAttention .safety).judgeAttention .cabin).judgeAttention .service).port p =
      { s.port p with attention := s.wantsAttention p } := by
  cases p <;> simp

/-- Each port after the settings are replaced: its line judged with the new ones. -/
theorem State.port_setSettings (s : State) (x : Settings) (p : Port) :
    (s.setSettings x).port p =
      { s.port p with
        attention := ({ s with config := { s.config with settings := x } } : State).wantsAttention p } :=
  State.port_judgeAttention_all { s with config := { s.config with settings := x } } p

theorem State.setSettings_queue (s : State) (x : Settings) (p : Port) :
    ((s.setSettings x).port p).queue = (s.port p).queue := by rw [State.port_setSettings]

theorem State.setSettings_attention (s : State) (x : Settings) (p : Port) :
    ((s.setSettings x).port p).attention = (s.setSettings x).wantsAttention p := by
  rw [State.port_setSettings]
  exact State.wantsAttention_congr rfl (s.setSettings_queue x p).symm

/-- The settings replaced while a frame is judged are those that stood when the frame arrived. -/
theorem State.putBack_received_setSettings (s : State) (port : Port) (x : Settings) :
    s.putBack ((s.received port).setSettings x) = { s with config := { s.config with settings := x } } :=
  congrArg (fun t : State => { t with config := { t.config with settings := x } }) (s.putBack_received port)

@[simp] theorem State.setSettings_vehicle (s : State) (x : Settings) : (s.setSettings x).vehicle = s.vehicle := rfl

theorem State.mode_answered (u : State) (p : Port) (b : List Byte) :
    ((u.sendReply p b).judgeEco).vehicle.mode = u.vehicle.mode := by rfl

theorem State.putBack_answered (s u : State) (p : Port) (b : List Byte) :
    s.putBack ((u.sendReply p b).judgeEco) = s.putBack u := by rfl

/-- A reply that begins changes no queue and no line. -/
theorem State.queue_answered (u : State) (p q : Port) (b : List Byte) :
    (((u.sendReply p b).judgeEco).port q).queue = (u.port q).queue := by
  rw [State.port_answered]
  exact PortState.read_of_replaced (g := PortState.queue) (f := u.port) (by rfl) q

theorem State.attention_answered (u : State) (p q : Port) (b : List Byte) :
    (((u.sendReply p b).judgeEco).port q).attention = (u.port q).attention := by
  rw [State.port_answered]
  exact PortState.read_of_replaced (g := PortState.attention) (f := u.port) (by rfl) q

theorem State.wantsAttention_answered (u : State) (p q : Port) (b : List Byte) :
    ((u.sendReply p b).judgeEco).wantsAttention q = u.wantsAttention q :=
  State.wantsAttention_congr rfl (State.queue_answered u p q b)

theorem State.received_queues (s : State) (p q : Port) : ((s.received p).port q).queue = (s.port q).queue := by
  rw [State.received_port]
  exact PortState.read_of_replaced (g := PortState.queue) (f := s.port) (by rfl) q

/-! ## SET SETTINGS and READ SETTINGS (R150) -/

section
variable {s : State} {chk : Byte} {v : Vector Byte 24}

theorem State.gateRefuses_setSettings (hr : s.ready .service) (hs : soundFrame 0x6A v.toList chk) :
    s.GateRefuses (.setSettings .service v chk) 0x6A :=
  State.gateRefuses_of _ rfl hr hs rfl rfl rfl

theorem State.answers_setSettings_invalid (hr : s.ready .service) (hs : soundFrame 0x6A v.toList chk) (ho : s.gateOpen)
    (hv : Settings.ofBytes v.toList = none) : s.Answers (.setSettings .service v chk) .service 0x6A .badArg [] s := by
  refine State.answers_unchanged rfl hr hs rfl rfl ?_
  rw [State.setSettingsAnswer, State.gated_open ho, hv]
  rfl

theorem State.setSettings_leaves_settings {x : Settings} (hr : s.ready .service) (hs : soundFrame 0x6A v.toList chk)
    (ho : s.gateOpen) (hv : Settings.ofBytes v.toList = some x) :
    ∃ t, exec (.setSettings .service v chk) s = .next t ∧ t.vehicle.mode = .run ∧ t.replied .service 0x6A .ok [] ∧
      s.putBack t = { s with config := { s.config with settings := x } } ∧
      ∀ p : Port, (t.port p).queue = (s.port p).queue ∧ (t.port p).attention = t.wantsAttention p := by
  have hact : (s.received .service).setSettingsAnswer v.toList = ((s.received .service).setSettings x).answer .ok := by
    rw [State.setSettingsAnswer, State.gated_open ho, hv]
  have hexec : exec (.setSettings .service v chk) s =
      .next ((((s.received .service).setSettings x).sendReply .service (replyBytes 0x6A .ok [])).judgeEco) := by
    refine congrArg Host.Outcome.next ((State.takeFrame_ready hr hs rfl rfl).trans ?_)
    rw [hact]
    rfl
  refine ⟨_, hexec, ?mode, ?reply, ?rest, fun p => ⟨?queue, ?line⟩⟩
  case mode => rw [State.mode_answered, State.setSettings_vehicle, State.received_mode]
  case reply => rw [State.replied, State.port_answered, if_pos rfl]
  case rest => rw [State.putBack_answered, State.putBack_received_setSettings]
  case queue => rw [State.queue_answered, State.setSettings_queue, State.received_queues]
  case line => rw [State.attention_answered, State.wantsAttention_answered, State.setSettings_attention]

theorem State.answers_readSettings (hr : s.ready .service) (hs : soundFrame 0x69 [] chk) :
    s.Answers (.readSettings .service chk) .service 0x69 .ok s.config.settings.bytes s := by
  refine State.answers_unchanged rfl hr hs rfl rfl ?_
  rw [State.received_config]
  rfl

end

/-! ## The obligation -/

/-- Settles O45: the refusals and the effects of the two writes, the two reads, and the ranges and the bytes of profiles and
settings. -/
theorem profilesAndSettingsAreReplacedThroughGate : Obligations.ProfilesAndSettingsAreReplacedThroughGate := by
  refine ⟨fun s n chk v hr hs => ?setProfile, fun s chk v hr hs => ?setSettings, fun s n chk hr hs => ?readProfile,
    fun s chk => State.answers_readSettings, fun b => ⟨Profile.ofBytes_eq_none_iff b, Settings.ofBytes_eq_none_iff b⟩,
    fun x => ⟨x.valid_iff, x.bytes_toNat⟩, fun x => ⟨x.valid_iff, x.bytes_toNat⟩⟩
  case setProfile =>
    exact ⟨State.answers_setProfile_noProfile hr hs, fun k hn => ⟨State.gateRefuses_setProfile hr hs hn,
      State.answers_setProfile_invalid hr hs hn, fun x ho hvalid hbytes =>
        State.answers_setProfile_ok hr hs hn ho (Profile.ofBytes_eq_some.2 ⟨hvalid, hbytes⟩)⟩⟩
  case setSettings =>
    exact ⟨State.gateRefuses_setSettings hr hs, State.answers_setSettings_invalid hr hs, fun x ho hvalid hbytes =>
      State.setSettings_leaves_settings hr hs ho (Settings.ofBytes_eq_some.2 ⟨hvalid, hbytes⟩)⟩
  case readProfile => exact ⟨State.answers_readProfile_noProfile hr hs, fun k => State.answers_readProfile_ok hr hs⟩

end Sys2Proof.Machine

/-! What a step can do, said once: the effect of a taken command, of an event of the running part, and of every other row. The
statements about all steps go through these inversion lemmas. -/

namespace Sys2Proof.Machine

/-! ## The effects of commands and events -/

/-- What a command judged in s can leave, before its reply begins. -/
inductive State.CommandEffect (s : State) : State → Prop
  | none : s.CommandEffect s
  | clearOverflow (p : Port) : s.CommandEffect (s.clearOverflow p)
  | readNotice (p : Port) (n : Notice) (rest : List Notice) (h : (s.port p).queue = n :: rest) :
      s.CommandEffect ((s.setPort p { s.port p with queue := rest }).judgeAttention p)
  | hold : s.CommandEffect s.startHold
  | endHold (h : s.holdActive = true) : s.CommandEffect s.endHold
  | restraint (g : Restraint) (h : { g with lastExpired := s.restraint.lastExpired, snapshots := s.restraint.snapshots } =
      s.restraint) : s.CommandEffect { s with restraint := g }
  | report (i : Ignition) (speed : Nat) (g : Gear) (d : Door) : s.CommandEffect (s.takeReport i speed g d)
  | confirm (p : Pos) : s.CommandEffect (s.setReminder p { (s.pos p).reminder with confirmed := true })
  | mute (ps : List Pos) : s.CommandEffect (s.forPositions ps State.muteOne)
  | dismiss : s.CommandEffect s.endWatch
  | stage (p : Pos) (e : MapEntry) (he : e.inRange = true) (hd : s.staging.deferred = false) : s.CommandEffect (s.stage p e)
  | swap (p q : Pos) (hd : s.staging.deferred = false) : s.CommandEffect (s.swap p q)
  | discard : s.CommandEffect { s with staging := .empty }
  | commit (hh : s.holdActive = false) (hm : mapConsistent s.stagedMap = true) : s.CommandEffect s.applyStaged
  | defer (hm : mapConsistent s.stagedMap = true) :
      s.CommandEffect { s with staging := { s.staging with deferred := true } }
  | capture (p : Pos) : s.CommandEffect { s with capture := some { position := p, count := 0, sum := 0 } }
  | profile (i : Fin 4) (x : Profile) (h : x.valid = true) : s.CommandEffect (s.setProfile i x)
  | settings (x : Settings) (h : x.valid = true) : s.CommandEffect (s.setSettings x)
  | save : s.CommandEffect s.beginSave
  | testOn : s.CommandEffect s.testOn
  | testOff : s.CommandEffect s.testOff
  | inject (p : Pos) (x : Option SlotSample) (h : x.isSome = true → (s.pos p).fit = .fits) :
      s.CommandEffect (s.setInjection p x)
  | reset : s.CommandEffect { s with phase := .resetReply }

/-- What an event of the running part can leave, before the eco countdown is judged. -/
inductive State.EventEffect (s : State) : State → Prop
  | none : s.EventEffect s
  | scan : s.EventEffect s.beginScan
  | exchange (l : Line) (chars : List Byte) : s.EventEffect (s.endExchange l chars)
  | tick : s.EventEffect s.lowerReminders
  | grace (p : Pos) (h : s.inStep p .grace = true) : s.EventEffect (s.enterVisual p)
  | visual (p : Pos) (h : s.inStep p .visual = true) : s.EventEffect (s.enterAudible p)
  | audible (p : Pos) (h : s.inStep p .audible = true) : s.EventEffect (s.lapse p)
  | hold (h : s.holdActive = true) : s.EventEffect s.expireHold
  | stale : s.EventEffect s.goStale
  | watch (h : s.watching = true) : s.EventEffect s.judgeWatch
  | eco (h : s.vehicle.eco.isSome = true) : s.EventEffect (s.setMode .eco)
  | age (p : Port) : s.EventEffect
      ((s.setPort p { s.port p with queue := ageOldest (s.ageLimit p) (s.port p).queue }).judgeAttention p)
  | save (readBack : StoreImage) : s.EventEffect (s.endSave readBack)

/-- What a row or a waiting command can leave. -/
inductive State.RowEffect (s : State) : State → Prop
  | none : s.RowEffect s
  | event {u : State} (h : s.phase = .running) (hu : s.EventEffect u) : s.RowEffect u.judgeEco
  | command (p : Port) (bytes : List Byte) {u : State} (h : (s.port p).reply = none) (hl : s.listening p = true)
      (hu : (s.received p).CommandEffect u) :
      s.RowEffect (u.sendReply p bytes).judgeEco
  | discarded (p : Port) : s.RowEffect (s.discardFrame p).judgeEco
  | partialFrame (p : Port) : s.RowEffect (s.setPort p { (s.port p).countDrop with assembler := .idle })
  | gap (p : Port) : s.RowEffect (s.setPort p { s.port p with assembler := .idle })
  | replyEnd (p : Port) : s.RowEffect (s.setPort p { s.port p with reply := none })
  | powerOn : s.RowEffect { s.beginLoad with restraint := { s.beginLoad.restraint with snapshots := [] } }
  | resetLow : s.RowEffect
      { s.clearBlocks with phase := .resetLow, restraint := { s.clearBlocks.restraint with pso := .high } }
  | load : s.RowEffect s.beginLoad
  | loaded : s.RowEffect s.endLoad

/-! ## Each command's effect -/

section
variable (s : State)

theorem State.answer_state (st : Status) : (s.answer st).state = s := rfl

theorem State.onPosition_effect (n : Byte) {act : Pos → Answer} (h : ∀ q, s.CommandEffect (act q).state) :
    s.CommandEffect (s.onPosition n act).state := by
  unfold State.onPosition
  split
  · exact h _
  · exact .none

theorem State.gated_effect {a : Answer} (h : s.CommandEffect a.state) : s.CommandEffect (s.gated a).state := by
  unfold State.gated
  split
  · exact .none
  · exact h

theorem State.takeNotice_effect (p : Port) : s.CommandEffect (s.takeNotice p).state := by
  unfold State.takeNotice
  split
  · exact .none
  · exact .readNotice p _ _ ‹_›

theorem State.releaseAnswer_effect : s.CommandEffect s.releaseAnswer.state := by
  unfold State.releaseAnswer
  split
  · exact .endHold ‹_›
  · split
    · exact .restraint _ rfl
    · exact .none

theorem State.popAnswer_effect : s.CommandEffect s.popAnswer.state := by
  unfold State.popAnswer
  split
  · exact .none
  · exact .restraint _ rfl

theorem State.reportAnswer_effect (ignition speed gear door : Byte) :
    s.CommandEffect (s.reportAnswer ignition speed gear door).state := by
  unfold State.reportAnswer
  split
  · rw [State.answer_state]; exact .report _ _ _ _
  · exact .none

theorem State.confirmAnswer_effect (p : Pos) : s.CommandEffect (s.confirmAnswer p).state := by
  unfold State.confirmAnswer
  split
  · exact .confirm p
  · exact .none

theorem State.muteAnswer_effect (ps : List Pos) : s.CommandEffect (s.muteAnswer ps).state := by
  unfold State.muteAnswer
  split
  · exact .mute ps
  · exact .none

theorem State.stageAnswer_effect (n : Byte) (bytes : List Byte) : s.CommandEffect (s.stageAnswer n bytes).state := by
  unfold State.stageAnswer
  split
  next p e _ he =>
    split
    · exact .none
    · exact .stage p e (MapEntry.bytes_of_ofBytes he).1 (Bool.eq_false_iff.2 ‹_›)
  · exact .none

theorem State.swapAnswer_effect (a b : Byte) : s.CommandEffect (s.swapAnswer a b).state := by
  unfold State.swapAnswer
  split
  · split
    · exact .none
    · split
      · exact .none
      · exact .swap _ _ (Bool.eq_false_iff.2 ‹_›)
  · exact .none

theorem State.commitAnswer_effect : s.CommandEffect s.commitAnswer.state := by
  unfold State.commitAnswer
  by_cases hcount : s.staging.count = 0
  · rw [if_pos hcount]; exact .none
  by_cases hhold : s.holdActive = true
  · rw [if_neg hcount, if_pos hhold]; exact .none
  by_cases hsave : s.saving = true
  · rw [if_neg hcount, if_neg hhold, if_pos hsave]; exact .none
  by_cases hdeferred : s.staging.deferred = true
  · rw [if_neg hcount, if_neg hhold, if_neg hsave, if_pos hdeferred]; exact .none
  rw [if_neg hcount, if_neg hhold, if_neg hsave, if_neg hdeferred]
  cases hmap : mapConsistent s.stagedMap with
  | false => exact .none
  | true =>
    cases s.standstill with
    | false => exact .defer hmap
    | true => exact .commit (Bool.eq_false_iff.2 hhold) hmap

theorem State.captureAnswer_effect (p : Pos) : s.CommandEffect (s.captureAnswer p).state := by
  unfold State.captureAnswer
  split
  · exact .none
  · split
    · exact .none
    · split
      · exact .none
      · exact .capture p

theorem State.setProfileAnswer_effect (n : Byte) (bytes : List Byte) :
    s.CommandEffect (s.setProfileAnswer n bytes).state := by
  unfold State.setProfileAnswer
  split
  · exact .none
  · refine s.gated_effect ?_
    split
    next x hx => exact .profile _ x (Profile.ofBytes_eq_some.1 hx).1
    · exact .none

theorem State.setSettingsAnswer_effect (bytes : List Byte) : s.CommandEffect (s.setSettingsAnswer bytes).state := by
  refine s.gated_effect ?_
  split
  next x hx => exact .settings x (Settings.ofBytes_eq_some.1 hx).1
  · exact .none

theorem State.saveAnswer_effect : s.CommandEffect s.saveAnswer.state := by
  unfold State.saveAnswer
  split
  · exact .none
  · split
    · exact .none
    · exact .save

theorem State.testModeAnswer_effect (operand : Byte) : s.CommandEffect (s.testModeAnswer operand).state := by
  unfold State.testModeAnswer
  split
  · exact .testOff
  · split
    · exact s.gated_effect .testOn
    · exact .none

theorem State.injectAnswer_effect (n : Byte) (bytes : List Byte) : s.CommandEffect (s.injectAnswer n bytes).state := by
  unfold State.injectAnswer
  split
  next p x _ _ =>
    refine s.gated_effect ?_
    split
    · exact .none
    · split
      · exact .none
      next hserves =>
        have hserves : s.serves p = true := by simpa using hserves
        exact .inject p (some x) fun _ => ((s.serves_iff p).1 hserves).2.1
  · exact .none

end

/-! ## Each row's effect -/

/-- A frame has the effect of its command on the received state, or it is ignored or discarded (R136, R137). -/
theorem State.takeFrame_effects (s : State) (p : Port) (cmd : Byte) (ops : List Byte) (chk : Byte) {act : State → Answer}
    (h : (s.received p).CommandEffect (act (s.received p)).state) : s.RowEffect (s.takeFrame p cmd ops chk act) := by
  have hjudged : (s.received p).CommandEffect ((s.received p).judgeFrame p cmd ops chk act).state := by
    unfold State.judgeFrame
    split
    · exact .none
    · split
      · exact .none
      · split
        · exact .none
        · exact h
  unfold State.takeFrame
  split
  · exact .none
  next hlistening =>
    have hl : s.listening p = true := by
      cases hl : s.listening p
      · exact absurd (.inl (by rw [hl]; rfl)) (Bool.or_eq_true_iff.not.1 hlistening)
      · rfl
    split
    · exact .discarded p
    next hreply => exact .command p _ (by simpa using hreply) hl hjudged

theorem State.event_effect (s : State) {f : State → State} (h : s.EventEffect (f s)) : s.RowEffect (s.event f) := by
  unfold State.event
  split
  · exact .event ‹_› h
  · exact .none

/-- An event that acts only where its cause stands. -/
theorem State.event_effect_ite (s : State) {c : State → Bool} {f : State → State}
    (h : c s = true → s.EventEffect (f s)) : s.RowEffect (s.event fun s => if c s then f s else s) := by
  refine s.event_effect ?_
  split
  · exact h ‹_›
  · exact .none

/-- What a row that completes leaves. -/
theorem State.exec_effect {i : Instr} {s t : State} (h : exec i s = .next t) : s.RowEffect t := by
  cases i with
  | powerOn => cases h; exact .powerOn
  | resetLineAssert => cases h; exact .resetLow
  | resetLineRelease =>
    cases h
    split
    · exact .load
    · exact .none
  | configurationLoadEnd =>
    cases h
    split
    · exact .loaded
    · exact .none
  | resetPartReplySent =>
    cases h
    split
    · exact .load
    · exact .none
  | scanTick => cases h; exact s.event_effect .scan
  | replyWindowClose l => cases h; exact s.event_effect (.exchange l [])
  | seatReplyReceived l chars => cases h; exact s.event_effect (.exchange l chars)
  | seatReplyGap l chars => cases h; exact s.event_effect (.exchange l chars)
  | exchangeLimit l chars => cases h; exact s.event_effect (.exchange l chars)
  | reminderTick => cases h; exact s.event_effect .tick
  | graceTimerExpiry p => cases h; exact s.event_effect_ite (c := fun s => s.inStep p .grace) (.grace p)
  | visualTimerExpiry p =>
    cases h
    exact s.event_effect_ite (c := fun s => s.inStep p .visual && (s.entry p).reminderClass = .full)
      fun h => .visual p (Bool.and_eq_true_iff.1 h).1
  | audibleTimerExpiry p => cases h; exact s.event_effect_ite (c := fun s => s.inStep p .audible) (.audible p)
  | holdTimerExpiry => cases h; exact s.event_effect_ite (c := State.holdActive) .hold
  | freshnessTimerExpiry => cases h; exact s.event_effect_ite (c := fun s => s.vehicle.isFresh) fun _ => .stale
  | watchTimerExpiry => cases h; exact s.event_effect_ite (c := State.watching) .watch
  | ecoCountdownExpiry => cases h; exact s.event_effect_ite (c := fun s => s.vehicle.eco.isSome) .eco
  | ageLimitReached p => cases h; exact s.event_effect (.age p)
  | saveEnd readBack => cases h; exact s.event_effect (.save readBack)
  | interByteLimit p =>
    cases h
    split
    · exact .partialFrame p
    · exact .none
  | frameDiscarded p =>
    cases h
    split
    · exact .discarded p
    · exact .none
  | discardingGapEnd p =>
    cases h
    split
    · exact .gap p
    · exact .none
  | replyEnd p =>
    cases h
    split
    · exact .none
    · exact .replyEnd p
  | unknownCommand p cmd chk =>
    rw [exec, execUnknownCommand] at h
    split at h
    · cases h
    · cases h; exact s.takeFrame_effects p _ _ _ .none
  | identifyPart p chk => cases h; exact s.takeFrame_effects p _ _ _ .none
  | readStatus p chk => cases h; exact s.takeFrame_effects p _ _ _ (.clearOverflow p)
  | readSummary p chk => cases h; exact s.takeFrame_effects p _ _ _ .none
  | readPosition p n chk => cases h; exact s.takeFrame_effects p _ _ _ (State.onPosition_effect _ n fun _ => .none)
  | readNotice p chk => cases h; exact s.takeFrame_effects p _ _ _ (State.takeNotice_effect _ p)
  | readSuppression p chk => cases h; exact s.takeFrame_effects p _ _ _ .none
  | hold p chk => cases h; exact s.takeFrame_effects p _ _ _ .hold
  | release p chk => cases h; exact s.takeFrame_effects p _ _ _ (State.releaseAnswer_effect _)
  | readSnapshot p d chk =>
    cases h
    refine s.takeFrame_effects p _ _ _ ?_
    split
    · split <;> exact .none
    · exact .none
  | popSnapshot p chk => cases h; exact s.takeFrame_effects p _ _ _ (State.popAnswer_effect _)
  | vehicleState p ig sp ge dr chk =>
    cases h; exact s.takeFrame_effects p _ _ _ (State.reportAnswer_effect _ ig sp ge dr)
  | confirmAudible p n chk =>
    cases h; exact s.takeFrame_effects p _ _ _ (State.onPosition_effect _ n fun q => State.confirmAnswer_effect _ q)
  | mute p n chk =>
    cases h
    refine s.takeFrame_effects p _ _ _ ?_
    split
    · exact State.muteAnswer_effect _ _
    · exact State.onPosition_effect _ n fun q => State.muteAnswer_effect _ _
  | dismissLeftBehind p chk =>
    cases h
    refine s.takeFrame_effects p _ _ _ ?_
    split
    · exact .dismiss
    · exact .none
  | readMapEntry p n chk => cases h; exact s.takeFrame_effects p _ _ _ (State.onPosition_effect _ n fun _ => .none)
  | readStaged p n chk => cases h; exact s.takeFrame_effects p _ _ _ (State.onPosition_effect _ n fun _ => .none)
  | stageEntry p n e chk => cases h; exact s.takeFrame_effects p _ _ _ (State.stageAnswer_effect _ n _)
  | swapBindings p a b chk => cases h; exact s.takeFrame_effects p _ _ _ (State.swapAnswer_effect _ a b)
  | discardStage p chk => cases h; exact s.takeFrame_effects p _ _ _ .discard
  | commitMap p chk => cases h; exact s.takeFrame_effects p _ _ _ (State.commitAnswer_effect _)
  | zeroCapture p n chk =>
    cases h
    exact s.takeFrame_effects p _ _ _
      (State.onPosition_effect _ n fun q => State.gated_effect _ (State.captureAnswer_effect _ q))
  | readProfile p n chk =>
    cases h
    refine s.takeFrame_effects p _ _ _ ?_
    split <;> exact .none
  | setProfile p n x chk => cases h; exact s.takeFrame_effects p _ _ _ (State.setProfileAnswer_effect _ n _)
  | readSettings p chk => cases h; exact s.takeFrame_effects p _ _ _ .none
  | setSettings p x chk => cases h; exact s.takeFrame_effects p _ _ _ (State.setSettingsAnswer_effect _ _)
  | saveConfig p chk => cases h; exact s.takeFrame_effects p _ _ _ (State.saveAnswer_effect _)
  | readNode p l a chk =>
    cases h
    refine s.takeFrame_effects p _ _ _ ?_
    split <;> exact .none
  | testModeOn p operand chk => cases h; exact s.takeFrame_effects p _ _ _ (State.testModeAnswer_effect _ operand)
  | testModeOff p chk => cases h; exact s.takeFrame_effects p _ _ _ (State.testModeAnswer_effect _ 0)
  | injectSample p n x chk => cases h; exact s.takeFrame_effects p _ _ _ (State.injectAnswer_effect _ n _)
  | endInject p n chk =>
    cases h
    exact s.takeFrame_effects p _ _ _
      (State.onPosition_effect _ n fun q => .inject q Option.none fun h => absurd h (by decide))
  | clearSnapshots p chk =>
    cases h; exact s.takeFrame_effects p _ _ _ (State.gated_effect _ (.restraint _ rfl))
  | resetPart p chk => cases h; exact s.takeFrame_effects p _ _ _ (State.gated_effect _ .reset)

/-! ## One step -/

/-- What a character leaves of the ports before the row that it brings about: nothing changed, or its port's assembler goes on or is
idle, where no reply is in progress (R134, R136). -/
theorem State.receiveChar_effect (s : State) (p : Port) (b : Byte) :
    (s.receiveChar p b).1 = s ∨
      ∃ x : Assembler, { s.port p with assembler := x }.AssemblerLegal ∧
        (s.receiveChar p b).1 = s.setPort p { s.port p with assembler := x } := by
  rcases s.receiveChar_cases p b with ⟨-, h⟩ | ⟨-, -, ⟨-, h⟩ | ⟨hreply, hlen, h⟩ | ⟨-, -, h⟩⟩
  · exact .inl (by rw [h])
  · exact .inl (by rw [h])
  · exact .inr ⟨.assembling _, ⟨by simp, fun _ => ⟨hreply, hlen⟩⟩, by rw [h]⟩
  · exact .inr ⟨.idle, ⟨by simp, fun h => absurd rfl h⟩, by rw [h]⟩

/-- Every step lets a quantum pass, or runs a row after the queues, the counter of free choices and at most one assembler have
changed. -/
theorem step_cases {s t : State} (h : step s = .next t) :
    t = s.passTime ∨ ∃ (n : Nat) (incoming : List (Port × Byte)) (pending : List Instr) (u : State),
      let v := { s with freeCount := n, incoming := incoming, pending := pending }
      (u = v ∨ ∃ (p : Port) (x : Assembler), { s.port p with assembler := x }.AssemblerLegal ∧
        u = v.setPort p { s.port p with assembler := x }) ∧ u.RowEffect t := by
  unfold step at h
  split at h
  next c rest _ => exact .inr ⟨s.freeCount, s.incoming, rest, _, .inl rfl, State.exec_effect h⟩
  next hpending =>
    split at h
    next p b rest _ =>
      refine .inr ⟨s.freeCount, rest, s.pending, (({ s with incoming := rest } : State).receiveChar p b).1, ?_, ?_⟩
      · rcases State.receiveChar_effect { s with incoming := rest } p b with k | ⟨x, hx, k⟩
        · exact .inl k
        · exact .inr ⟨p, x, hx, k⟩
      · unfold State.stepChar at h
        split at h
        next hu => rw [hu]; exact State.exec_effect h
        next hu => cases h; rw [hu]; exact .none
    · split at h
      next e _ => exact .inr ⟨s.freeCount + 1, s.incoming, s.pending, _, .inl rfl, State.exec_effect h⟩
      · cases h; exact .inl rfl

end Sys2Proof.Machine

/-! The queue of waiting commands, the passing of time, and the state right after reset. -/

namespace Sys2Proof.Machine

/-! ## The passing of time (R109, R127, R129, R131) -/

/-- The port of a table made of three ports. -/
theorem State.passTimers_port (s : State) (p : Port) : s.passTimers.port p = (s.port p).age := by cases p <;> rfl

theorem State.passTime_running {s : State} (h : s.phase = .running) :
    s.passTime = { s with restraint := { s.restraint with pso := s.restraint.pso.pass } }.passTimers := if_pos h

theorem State.passTime_reset {s : State} (h : s.phase ≠ .running) :
    s.passTime = { s with restraint := { s.restraint with pso := s.restraint.pso.pass } } := if_neg h

/-- A quantum takes PSO through its alternation in every phase (R109). -/
@[simp] theorem State.passTime_pso (s : State) : s.passTime.restraint.pso = s.restraint.pso.pass := by
  unfold State.passTime
  simp only
  split <;> rfl

/-- The event that the free choice names is one of those that are due (log entry 4). -/
theorem State.nextDue_mem {s : State} {e : Instr} (h : s.nextDue = some e) : e ∈ s.due ∧ s.phase = .running := by
  unfold State.nextDue at h
  split at h
  · exact ⟨List.mem_of_getElem? h, ‹_›⟩
  · cases h

/-- With an event due the free choice names one. -/
theorem State.nextDue_of_due {s : State} (hrun : s.phase = .running) (h : s.due ≠ []) : ∃ e, s.nextDue = some e := by
  have hlt : Config.expiryPick s.freeCount % s.due.length < s.due.length := Nat.mod_lt _ (List.length_pos_iff.2 h)
  exact ⟨s.due[Config.expiryPick s.freeCount % s.due.length], by
    rw [State.nextDue, if_pos hrun, List.getElem?_eq_getElem hlt]⟩

/-- The watch timer and the eco countdown run 32 times as fast in test mode (R131). -/
theorem Vehicle.lower_rate (v : Vehicle) (x : Option Nat) : lower v.rate x = x.map (· - if v.testMode then 32 else 1) := rfl

/-! ## The three statements about a step -/

/-- Settles O1. -/
theorem stepTakesFrontCommand : Obligations.StepTakesFrontCommand := by
  unfold Obligations.StepTakesFrontCommand
  intro c rest s h
  rw [step, h]

/-- Settles O3. -/
theorem idleStepTakesDueEventOrPassesQuantum : Obligations.IdleStepTakesDueEventOrPassesQuantum := by
  unfold Obligations.IdleStepTakesDueEventOrPassesQuantum
  refine ⟨fun s hpending hincoming => ⟨fun hdue => ?_, fun e hdue => ?_, State.nextDue_of_due⟩, fun s hrun => ?_, fun s => ?_⟩
  · rw [step, hpending, hincoming, hdue]
  · obtain ⟨hmem, hrun⟩ := State.nextDue_mem hdue
    exact ⟨hmem, hrun, by rw [step, hpending, hincoming, hdue]⟩
  · rw [State.passTime_running hrun]
    exact ⟨rfl, rfl, rfl, rfl, rfl, Vehicle.lower_rate _ _, Vehicle.lower_rate _ _, State.passTimers_port _⟩
  · refine ⟨fun h => by rw [s.passTime_pso, h, Pso.pass], fun h => by rw [s.passTime_pso, h, Pso.pass], fun level left h => ?_,
      fun hphase => ⟨if_neg hphase, by rw [State.passTime_reset hphase]⟩⟩
    rw [s.passTime_pso, h, Pso.pass]
    rfl

/-! ## Completion -/

/-- A row completes unless it is the ill-formed unknown command (R137, log entry 24). -/
theorem State.exec_completes (i : Instr) (s : State) : (∃ t, exec i s = .next t) ∨
    (exec i s = .fault .notThatRow ∧ ∃ p cmd chk, i = .unknownCommand p cmd chk ∧ (operandLength cmd).isSome = true) := by
  cases i with
  | unknownCommand p cmd chk =>
    by_cases h : (operandLength cmd).isSome = true
    · exact .inr ⟨if_pos h, p, cmd, chk, rfl, h⟩
    · exact .inl ⟨_, if_neg h⟩
  | _ => exact .inl ⟨_, rfl⟩

/-- Settles O4. -/
theorem everyWellFormedCommandCompletes : Obligations.EveryWellFormedCommandCompletes := by
  unfold Obligations.EveryWellFormedCommandCompletes
  refine ⟨fun i s hwell => (State.exec_completes i s).resolve_right ?_, State.exec_completes⟩
  rintro ⟨-, p, cmd, chk, rfl, h⟩
  have hnone : (operandLength cmd).isNone = true := hwell
  rw [Option.isNone_iff_eq_none.1 hnone] at h
  cases h

/-! ## The state right after reset -/

/-- Every position right after reset. -/
theorem State.reset_pos (p : Pos) : State.reset.pos p = .fresh (defaultEntry p).enabled 0 := PerPos.get_ofFn _ p

theorem State.reset_entry (p : Pos) : State.reset.entry p = defaultEntry p := PerPos.get_ofFn _ p

/-- Every node record right after a reset (R27). -/
theorem LineState.fresh_nodes (a : Fin 6) : LineState.fresh.nodes.get a = .fresh := by fin_cases a <;> rfl

/-- Nothing is staged right after a reset (R18). -/
theorem Staging.empty_entries (p : Pos) : Staging.empty.entries.get p = none := PerPos.get_ofFn _ p

theorem State.reset_atReset : State.reset.AtReset where
  save := rfl
  capture := rfl
  staging := ⟨rfl, Staging.empty_entries⟩
  scan := ⟨rfl, rfl, rfl⟩
  exchanges := ⟨rfl, rfl⟩
  nodes l a := by cases l <;> exact LineState.fresh_nodes a
  fit p := by rw [State.reset_pos]; exact ⟨rfl, rfl, rfl⟩
  load p := by rw [State.reset_pos]; rfl
  child p := by rw [State.reset_pos]; rfl
  cls p := by rw [State.reset_pos, State.reset_entry]; rfl
  belt p := by rw [State.reset_pos]; rfl
  reminder p := by rw [State.reset_pos]; rfl
  watched p := by rw [State.reset_pos]; exact ⟨rfl, rfl⟩
  hold := ⟨rfl, rfl, rfl, rfl⟩
  vehicle := rfl

/-- The airbag position of the default map is position 3, whose class is UNRESOLVED (R3, R107). -/
theorem State.reset_decision : State.reset.decision = .indeterminate := by decide

/-- Settles O8. -/
theorem resetLeavesStatedValues : Obligations.ResetLeavesStatedValues := by
  unfold Obligations.ResetLeavesStatedValues
  exact ⟨State.reset_atReset, rfl, State.reset_decision.symm, rfl, rfl, rfl, rfl, rfl, rfl, rfl⟩

/-- The default configuration lies in its ranges and sets (R1, R3, R46, R67, R76, R148). -/
theorem defaultConfig_legal : defaultConfig.Legal := by
  refine ⟨fun p => ?_, fun i => ?_, by decide, by decide⟩
  · rw [defaultConfig, PerPos.get_ofFn]; revert p; decide
  · revert i; decide

/-- A position's record after a reset keeps the rules of load, class, fit and capability. -/
theorem PosRec.fresh_legal (enabled : Bool) (n : BitVec 8) :
    (PosRec.fresh enabled n).load.Legal ∧ (PosRec.fresh enabled n).cls.Legal ∧ (PosRec.fresh enabled n).CapLegal enabled := by
  cases enabled
  all_goals simp [PosRec.fresh, LoadRec.cleared, ClassRec.fresh, LoadRec.Legal, ClassRec.Legal, PosRec.CapLegal]

/-- Settles O60. -/
theorem resetSatisfiesTheRulesThatStepsKeep : Obligations.ResetSatisfiesTheRulesThatStepsKeep := by
  unfold Obligations.ResetSatisfiesTheRulesThatStepsKeep
  obtain ⟨hmap, hprofiles, hsettings, hconsistent⟩ := defaultConfig_legal
  refine ⟨by decide, ⟨hmap, hprofiles, hsettings, fun p e he => ?_, fun c hc => (nomatch hc)⟩, ⟨hconsistent, fun h => ?_⟩,
    fun p => ?_, fun p => ?_, fun p => ?_, ⟨fun _ => ?_, (nomatch ·), (nomatch ·)⟩, ?_, by decide⟩
  · exact absurd (Staging.empty_entries p ▸ he) (Option.not_mem_none e)
  · cases h
  · rw [State.reset_pos]
    exact ⟨(PosRec.fresh_legal _ _).1, (PosRec.fresh_legal _ _).2.1⟩
  · rw [State.reset_pos, State.reset_entry]
    exact (PosRec.fresh_legal _ _).2.2
  · rw [State.ReminderLegal, State.reset_pos]
    exact ⟨fun h => absurd rfl h, fun _ => rfl⟩
  · rw [State.reset_decision]
    exact ⟨rfl, rfl⟩
  · exact ⟨by decide, fun h => absurd h (by decide)⟩

end Sys2Proof.Machine

/-! Notices in the queues, the band, the child-load flag, and the checks of the store: what one operation of each gives. -/

namespace Sys2Proof.Machine

/-! ## Posted notices (R142, R145) -/

section
variable (s : State) (p : Port) (k : NoticeKind) (n : Nat) (x : Half)

/-- The port that a notice is posted to. -/
theorem State.port_post_self : (s.post p k n x).port p =
    { (s.port p).receive k n x s.scanner.number with attention :=
        (s.setPort p ((s.port p).receive k n x s.scanner.number)).wantsAttention p } := by
  rw [State.port_post, if_pos rfl]

theorem State.post_queue : ((s.post p k n x).port p).queue = ((s.port p).receive k n x s.scanner.number).queue := by
  rw [State.port_post_self]

/-- The attention line after a post is judged on the queue that the post leaves. -/
theorem State.post_attention : ((s.post p k n x).port p).attention = s.lineFor p ((s.post p k n x).port p).queue := by
  rw [State.port_post_self, State.wantsAttention_eq, State.port_setPort, if_pos rfl]
  rfl

theorem State.post_port_other {q : Port} (h : q ≠ p) : (s.post p k n x).port q = s.port q := by
  rw [State.port_post, if_neg h]

end

/-- A port holds a notice of a kind and subject, as the receipt asks it. -/
theorem PortState.any_about {x : PortState} {k : NoticeKind} {n : Nat} :
    x.queue.any (·.about k n) = true ↔ ∃ m ∈ x.queue, m.kind = k ∧ m.subject = n := by
  simp [List.any_eq_true, Notice.about]

section
variable {x : PortState} {k : NoticeKind} {n : Nat} (v w : Half)

theorem PortState.receive_known (h : ∃ m ∈ x.queue, m.kind = k ∧ m.subject = n) :
    x.receive k n v w = { x with queue := coalesce x.queue k n v w } := if_pos (PortState.any_about.2 h)

theorem PortState.receive_new (h : ¬ ∃ m ∈ x.queue, m.kind = k ∧ m.subject = n) (hroom : x.queue.length < 16) :
    x.receive k n v w =
      { x with queue := x.queue ++ [{ kind := k, subject := n, payload := v, scan := w, waited := 0 }] } := by
  rw [PortState.receive, if_neg (mt PortState.any_about.1 h), if_pos (show x.queue.length < queueLimit from hroom)]

theorem PortState.receive_full (h : ¬ ∃ m ∈ x.queue, m.kind = k ∧ m.subject = n) (hfull : 16 ≤ x.queue.length) :
    x.receive k n v w = { x with overflow := true } := by
  rw [PortState.receive, if_neg (mt PortState.any_about.1 h), if_neg (Nat.not_lt.2 (show queueLimit ≤ x.queue.length from hfull))]

end

/-- Coalescing changes the entry of the kind and subject in its place and leaves every other entry. -/
theorem coalesce_getElem? {q : List Notice} {i : Nat} {m : Notice} (k : NoticeKind) (n : Nat) (v w : Half)
    (h : q[i]? = some m) : (coalesce q k n v w)[i]? =
      some (if m.kind = k ∧ m.subject = n then { m with payload := v, scan := w } else m) := by
  rw [coalesce, List.getElem?_map, h]
  simp [Notice.about]

/-- A line is wanted at the trigger number of notices or when the oldest has waited the age limit (R145). -/
theorem State.lineFor_iff (s : State) (p : Port) (q : List Notice) :
    s.lineFor p q = true ↔ s.config.settings.trigger.get p ≤ q.length ∨
      ∃ n rest, q = n :: rest ∧ s.config.settings.ageLimit.get p * 8 ≤ n.waited := by
  cases q with
  | nil => simp [State.lineFor]
  | cons n rest => simp [State.lineFor]

/-- Settles O50. -/
theorem postedNoticeCoalescesAppendsOrOverflows : Obligations.PostedNoticeCoalescesAppendsOrOverflows := by
  unfold Obligations.PostedNoticeCoalescesAppendsOrOverflows
  intro s p kind subject payload t q same
  have hport : t.port p = _ := s.port_post_self p kind subject payload
  refine ⟨fun h => ?_, fun h hroom => ?_, fun h hfull => ?_, ?_, ?_, ?_, ?_, fun r => s.post_port_other p _ _ _, rfl⟩
  case refine_4 => rw [s.post_attention p kind subject payload, State.lineFor_iff]
  case refine_5 => rw [hport]; exact PortState.receive_reply ..
  case refine_6 => rw [hport]; exact PortState.receive_assembler ..
  case refine_7 => rw [hport]; exact PortState.receive_drops ..
  · rw [hport, PortState.receive_known _ _ h]
    refine ⟨rfl, by simp [coalesce, q], fun i m hm => ?_⟩
    have hi := coalesce_getElem? kind subject payload s.scanner.number hm
    exact ⟨fun hsame => by rwa [if_pos hsame] at hi, fun hother => by rwa [if_neg hother] at hi⟩
  · rw [hport, PortState.receive_new _ _ h hroom]
    exact ⟨rfl, rfl⟩
  · rw [hport, PortState.receive_full _ _ h hfull]
    exact ⟨rfl, rfl⟩

/-! ## The band (R46, R47) -/

/-- A profile whose thresholds keep their order, as a band's neighbours read it. -/
theorem Profile.td_lt_tu {p : Profile} (h : p.bandsOk = true) {b : Nat} (hb : 1 ≤ b) (hb3 : b ≤ 3) : p.td b < p.tu b := by
  obtain ⟨-, h1, -, h2, -, h3⟩ := p.bandsOk_iff.1 h
  interval_cases b <;> assumption

/-- The rising thresholds are in order with the falling ones above them. -/
theorem Profile.tu_le_td {p : Profile} (h : p.bandsOk = true) {b : Nat} (hb : 1 ≤ b) (hb3 : b ≤ 2) : p.tu b ≤ p.td (b + 1) := by
  obtain ⟨-, -, h1, -, h2, -⟩ := p.bandsOk_iff.1 h
  interval_cases b <;> assumption

/-- The rising thresholds rise. -/
theorem Profile.tu_le_tu {p : Profile} (h : p.bandsOk = true) {b m : Nat} (hb : 1 ≤ b) (hbm : b ≤ m) (hm : m ≤ 3) :
    p.tu b ≤ p.tu m := by
  induction m, hbm using Nat.le_induction with
  | base => exact le_rfl
  | succ m hbm ih =>
    calc p.tu b ≤ p.tu m := ih (by omega)
      _ ≤ p.td (m + 1) := Profile.tu_le_td h (hb.trans hbm) (by omega)
      _ ≤ p.tu (m + 1) := (Profile.td_lt_tu h (by omega) hm).le

/-- The rising pass ends where no next threshold is reached, after thresholds that all were (R47). -/
theorem risePass_spec (p : Profile) (f : Nat) {n b : Nat} (hb : b ≤ 3) (hn : 3 ≤ n + b) :
    b ≤ risePass p f n b ∧ risePass p f n b ≤ 3 ∧ (b < risePass p f n b → p.tu (risePass p f n b) ≤ f) ∧
      (risePass p f n b = 3 ∨ f < p.tu (risePass p f n b + 1)) := by
  induction n generalizing b with
  | zero => exact ⟨le_rfl, hb, fun h => absurd h (lt_irrefl b), .inl (show b = 3 by omega)⟩
  | succ n ih =>
    unfold risePass
    by_cases hstep : b < 3 ∧ p.tu (b + 1) ≤ f
    · rw [if_pos hstep]
      obtain ⟨hle, h3, htu, hend⟩ := ih (b := b + 1) hstep.1 (by omega)
      refine ⟨by omega, h3, fun _ => ?_, hend⟩
      rcases hle.lt_or_eq with hlt | heq
      · exact htu hlt
      · exact heq ▸ hstep.2
    · rw [if_neg hstep]
      exact ⟨le_rfl, hb, fun h => absurd h (lt_irrefl b), by omega⟩

/-- The falling pass ends at band 0 or where the falling threshold is kept, after thresholds that were not (R47). -/
theorem fallPass_spec (p : Profile) (f : Nat) {n b : Nat} (hn : b ≤ n) :
    fallPass p f n b ≤ b ∧ (fallPass p f n b < b → f < p.td (fallPass p f n b + 1)) ∧
      (fallPass p f n b = 0 ∨ p.td (fallPass p f n b) ≤ f) := by
  induction n generalizing b with
  | zero => exact ⟨le_rfl, fun h => absurd h (lt_irrefl b), .inl (show b = 0 by omega)⟩
  | succ n ih =>
    unfold fallPass
    by_cases hstep : 0 < b ∧ f < p.td b
    · rw [if_pos hstep]
      obtain ⟨hle, htd, hend⟩ := ih (b := b - 1) (by omega)
      refine ⟨by omega, fun _ => ?_, hend⟩
      rcases hle.lt_or_eq with hlt | heq
      · exact htd hlt
      · rw [heq, show b - 1 + 1 = b by omega]; exact hstep.2
    · rw [if_neg hstep]
      exact ⟨le_rfl, fun h => absurd h (lt_irrefl b), by omega⟩

/-- A band is settled when neither pass moves it. -/
theorem updateBand_settled {p : Profile} {f b : Nat} (hrise : b = 3 ∨ f < p.tu (b + 1)) (hfall : b = 0 ∨ p.td b ≤ f) :
    updateBand p f b = b := by
  have hup : risePass p f 3 b = b := if_neg (by omega)
  have hdown : fallPass p f 3 b = b := if_neg (by omega)
  rw [updateBand, hup, hdown]
  exact ite_self b

/-- The band never passes 3. -/
theorem updateBand_le (p : Profile) (f : Nat) {b : Nat} (hb : b ≤ 3) : updateBand p f b ≤ 3 := by
  rw [updateBand]
  have hup := (risePass_spec p f (n := 3) hb (by omega)).2.1
  have hdown := (fallPass_spec p f hb).1
  split
  · exact hup
  · exact hdown.trans hb

/-- Settles O20: the band moves up by the rising pass or down by the falling one, and either ends settled. -/
theorem bandSettlesInOneSample : Obligations.BandSettlesInOneSample := by
  unfold Obligations.BandSettlesInOneSample
  intro p f b hvalid hb n
  have hbands : p.bandsOk = true := by
    rw [Profile.valid, Bool.and_eq_true, Bool.and_eq_true] at hvalid
    exact hvalid.1.1
  obtain ⟨hle, hup3, htu, hrise⟩ := risePass_spec p f (n := 3) hb (by omega)
  obtain ⟨hdown, htd, hfall⟩ := fallPass_spec p f hb
  by_cases hmoved : b < risePass p f 3 b
  · have hn : n = risePass p f 3 b := if_pos hmoved
    rw [← hn] at hle hup3 htu hrise hmoved
    have hreached := htu hmoved
    have habove (m : Nat) (h : n < m) (hm : m ≤ 3) : f < p.tu m :=
      (hrise.resolve_left (by omega)).trans_le (Profile.tu_le_tu hbands (by omega) h hm)
    have hkept : p.td n ≤ f := (Profile.td_lt_tu hbands (by omega) hup3).le.trans hreached
    exact ⟨hup3, fun _ => ⟨hreached, habove⟩, by omega, by omega, updateBand_settled hrise (.inr hkept)⟩
  · have hn : n = fallPass p f 3 b := if_neg hmoved
    rw [← hn] at hdown htd hfall
    have hstays : risePass p f 3 b = b := by omega
    rw [hstays] at hrise
    refine ⟨by omega, by omega, fun h => ⟨htd h, hfall⟩, fun h => ⟨hrise, h ▸ hfall⟩, updateBand_settled ?_ hfall⟩
    rcases hdown.lt_or_eq with hlt | heq
    · exact .inr ((htd hlt).trans (Profile.td_lt_tu hbands (by omega) (by omega)))
    · exact heq ▸ hrise

/-! ## The child-load flag (R64 to R66) -/

/-- The flag is judged on the record that the acceptance step leaves. -/
theorem ChildRec.take_loadFlag (c : ChildRec) (p : Profile) (f : Nat) (x : SlotSample) :
    (c.take true p f x).loadFlag = (c.accept (screenTags x.tags)).judgeFlag p f x.matFault := rfl

/-- The acceptance step leaves the flag. -/
theorem ChildRec.accept_loadFlag (c : ChildRec) (tags : List TagRecord) : (c.accept tags).loadFlag = c.loadFlag := by
  unfold ChildRec.accept
  extract_lets good r
  split_ifs <;> rfl

section
variable {c : ChildRec} (p : Profile) (f : Nat)

theorem ChildRec.judgeFlag_noSeat (h : c.accepted = .none) (m : Bool) : c.judgeFlag p f m = false := if_pos h

theorem ChildRec.judgeFlag_matFault (h : c.accepted ≠ .none) : c.judgeFlag p f true = c.loadFlag := by
  rw [ChildRec.judgeFlag, if_neg h, if_pos rfl]

/-- With a seat and no mat fault a clear flag asks CSu, a set one CSd. -/
theorem ChildRec.judgeFlag_threshold (h : c.accepted ≠ .none) :
    c.judgeFlag p f false = decide ((if c.loadFlag then p.csD else p.csU) ≤ c.net p f) := by
  rw [ChildRec.judgeFlag, if_neg h, if_neg Bool.false_ne_true]
  split <;> rfl

theorem ChildRec.net_eq : c.net p f = if f < c.tare p then 0 else f - c.tare p := by
  unfold ChildRec.net
  split <;> omega

end

/-- Settles O23. -/
theorem childLoadFlagHasHysteresis : Obligations.ChildLoadFlagHasHysteresis := by
  unfold Obligations.ChildLoadFlagHasHysteresis
  intro c p f x a tare net flag
  have hflag : flag = a.judgeFlag p f x.matFault := c.take_loadFlag p f x
  have hnet : a.net p f = net := ChildRec.net_eq p f
  have hbefore : a.loadFlag = c.loadFlag := c.accept_loadFlag _
  refine ⟨fun h => ?_, fun h hm => ?_, fun h hm hclear => ?_, fun h hm hset => ?_, rfl⟩
  · rw [hflag, ChildRec.judgeFlag_noSeat p f h]
  · rw [hflag, hm, ChildRec.judgeFlag_matFault p f h, hbefore]
  · rw [hflag, hm, ChildRec.judgeFlag_threshold p f h, hbefore, hclear, hnet, if_neg Bool.false_ne_true]
  · rw [hflag, hm, ChildRec.judgeFlag_threshold p f h, hbefore, hset, hnet, if_pos rfl]

/-! ## The store check (R152) -/

section
variable {st : Store}

theorem checkStore_incomplete (h : st.complete = false) : checkStore st = .error .incomplete := by
  rw [checkStore, h]; rfl

theorem checkStore_crc (hc : st.complete = true) (h : crc16 st.image.body ≠ st.image.crc) : checkStore st = .error .crc := by
  rw [checkStore, hc, if_neg (by decide), if_pos h]

theorem checkStore_version (hc : st.complete = true) (hcrc : crc16 st.image.body = st.image.crc)
    (h : byteAt st.image.body 0 ≠ 0x03) : checkStore st = .error .version := by
  rw [checkStore, hc, if_neg (by decide), if_neg (fun k => k hcrc),
    if_pos (show byteAt st.image.body 0 ≠ Config.formatVersion from h)]

/-- The last two checks, on a store whose mark, CRC and version are right: the ranges. -/
theorem checkStore_range (hc : st.complete = true) (hcrc : crc16 st.image.body = st.image.crc)
    (hv : byteAt st.image.body 0 = 0x03) (h : storedConfig st.image.body = none) : checkStore st = .error .range := by
  rw [checkStore, hc, if_neg (by decide), if_neg (fun k => k hcrc), if_neg (fun k => k hv), h]

/-- The last check: the map conditions. -/
theorem checkStore_conditions {c : LiveConfig} (hc : st.complete = true) (hcrc : crc16 st.image.body = st.image.crc)
    (hv : byteAt st.image.body 0 = 0x03) (h : storedConfig st.image.body = some c) :
    checkStore st = if mapConsistent c.map then .ok c else .error .mapConflict := by
  rw [checkStore, hc, if_neg (by decide), if_neg (fun k => k hcrc), if_neg (fun k => k hv), h]

end

/-- The entries of a stored map are in their ranges (R1). -/
theorem storedMap_inRange {b : List Byte} {m : PerPos MapEntry} (h : storedMap b = some m) (p : Pos) :
    (m.get p).inRange = true := by
  unfold storedMap at h
  obtain ⟨e0, h0, h⟩ := Option.bind_eq_some_iff.1 h
  obtain ⟨e1, h1, h⟩ := Option.bind_eq_some_iff.1 h
  obtain ⟨e2, h2, h⟩ := Option.bind_eq_some_iff.1 h
  obtain ⟨e3, h3, h⟩ := Option.bind_eq_some_iff.1 h
  obtain ⟨e4, h4, h⟩ := Option.bind_eq_some_iff.1 h
  obtain ⟨e5, h5, h⟩ := Option.bind_eq_some_iff.1 h
  obtain ⟨e6, h6, h⟩ := Option.bind_eq_some_iff.1 h
  obtain ⟨e7, h7, h⟩ := Option.bind_eq_some_iff.1 h
  obtain ⟨e8, h8, h⟩ := Option.bind_eq_some_iff.1 h
  obtain ⟨e9, h9, h⟩ := Option.bind_eq_some_iff.1 h
  obtain ⟨e10, h10, h⟩ := Option.bind_eq_some_iff.1 h
  obtain ⟨e11, h11, h⟩ := Option.bind_eq_some_iff.1 h
  obtain ⟨e12, h12, h⟩ := Option.bind_eq_some_iff.1 h
  obtain ⟨e13, h13, h⟩ := Option.bind_eq_some_iff.1 h
  obtain ⟨e14, h14, h⟩ := Option.bind_eq_some_iff.1 h
  obtain ⟨e15, h15, h⟩ := Option.bind_eq_some_iff.1 h
  cases h
  fin_cases p
  exacts [(MapEntry.bytes_of_ofBytes h0).1, (MapEntry.bytes_of_ofBytes h1).1, (MapEntry.bytes_of_ofBytes h2).1,
    (MapEntry.bytes_of_ofBytes h3).1, (MapEntry.bytes_of_ofBytes h4).1, (MapEntry.bytes_of_ofBytes h5).1,
    (MapEntry.bytes_of_ofBytes h6).1, (MapEntry.bytes_of_ofBytes h7).1, (MapEntry.bytes_of_ofBytes h8).1,
    (MapEntry.bytes_of_ofBytes h9).1, (MapEntry.bytes_of_ofBytes h10).1, (MapEntry.bytes_of_ofBytes h11).1,
    (MapEntry.bytes_of_ofBytes h12).1, (MapEntry.bytes_of_ofBytes h13).1, (MapEntry.bytes_of_ofBytes h14).1,
    (MapEntry.bytes_of_ofBytes h15).1]

/-- A stored configuration that is read lies in its ranges and sets. -/
theorem storedConfig_inRange {b : List Byte} {c : LiveConfig} (h : storedConfig b = some c) :
    (∀ p : Pos, (c.map.get p).inRange = true) ∧ (∀ i : Fin 4, (c.profiles.get i).valid = true) ∧ c.settings.valid = true := by
  unfold storedConfig at h
  obtain ⟨m, hm, h⟩ := Option.bind_eq_some_iff.1 h
  obtain ⟨p0, h0, h⟩ := Option.bind_eq_some_iff.1 h
  obtain ⟨p1, h1, h⟩ := Option.bind_eq_some_iff.1 h
  obtain ⟨p2, h2, h⟩ := Option.bind_eq_some_iff.1 h
  obtain ⟨p3, h3, h⟩ := Option.bind_eq_some_iff.1 h
  obtain ⟨x, hx, h⟩ := Option.bind_eq_some_iff.1 h
  split at h
  case isFalse => cases h
  cases h
  refine ⟨storedMap_inRange hm, fun i => ?_, (Settings.ofBytes_eq_some.1 hx).1⟩
  fin_cases i
  exacts [(Profile.ofBytes_eq_some.1 h0).1, (Profile.ofBytes_eq_some.1 h1).1, (Profile.ofBytes_eq_some.1 h2).1,
    (Profile.ofBytes_eq_some.1 h3).1]

/-- A store that is loaded passed every check. -/
theorem checkStore_eq_ok {st : Store} {c : LiveConfig} (h : checkStore st = .ok c) :
    st.complete = true ∧ crc16 st.image.body = st.image.crc ∧ byteAt st.image.body 0 = 0x03 ∧
      storedConfig st.image.body = some c ∧ mapConsistent c.map = true := by
  cases hc : st.complete with
  | false => rw [checkStore_incomplete hc] at h; cases h
  | true =>
    by_cases hcrc : crc16 st.image.body = st.image.crc
    case neg => rw [checkStore_crc hc hcrc] at h; cases h
    by_cases hv : byteAt st.image.body 0 = 0x03
    case neg => rw [checkStore_version hc hcrc hv] at h; cases h
    cases hs : storedConfig st.image.body with
    | none => rw [checkStore_range hc hcrc hv hs] at h; cases h
    | some d =>
      rw [checkStore_conditions hc hcrc hv hs] at h
      cases hm : mapConsistent d.map with
      | false => simp [hm] at h
      | true =>
        simp only [hm, if_true, Except.ok.injEq] at h
        exact ⟨rfl, hcrc, hv, congrArg some h, h ▸ hm⟩

/-- Settles O10. -/
theorem storeCheckStopsAtFirstFailure : Obligations.StoreCheckStopsAtFirstFailure := by
  unfold Obligations.StoreCheckStopsAtFirstFailure
  refine fun st => ⟨checkStore_incomplete, checkStore_crc, checkStore_version, fun hc hcrc hv =>
    ⟨checkStore_range hc hcrc hv, fun c h hm => ?_, fun c h hm => ?_⟩, fun c h => ?_⟩
  · rw [checkStore_conditions hc hcrc hv h, if_neg (by rw [hm]; decide)]
  · rw [checkStore_conditions hc hcrc hv h, if_pos hm]
  · obtain ⟨hc, hcrc, hv, hs, hm⟩ := checkStore_eq_ok h
    obtain ⟨hmap, hprofiles, hsettings⟩ := storedConfig_inRange hs
    exact ⟨hc, hcrc, hv, hs, hmap, hprofiles, hsettings, hm⟩

end Sys2Proof.Machine

/-! Encodings that are read back: the bytes of a configuration in the store (R148, R152) and the frame of a port command (R134). -/

namespace Sys2Proof.Machine

/-! ## Slices of records -/

theorem slice_append_right (a b : List Byte) (o n : Nat) : slice (a ++ b) (a.length + o) n = slice b o n := by
  rw [slice, List.drop_append, List.drop_eq_nil_of_le (Nat.le_add_right ..), List.nil_append, Nat.add_sub_cancel_left, slice]

theorem slice_append_left {a : List Byte} (b : List Byte) {o n : Nat} (h : o + n ≤ a.length) :
    slice (a ++ b) o n = slice a o n := by
  rw [slice, slice, List.drop_append_of_le_length (by omega), List.take_append_of_le_length (by rw [List.length_drop]; omega)]

theorem slice_full (a : List Byte) : slice a 0 a.length = a := by rw [slice, List.drop_zero, List.take_length]

/-- Records of one length, written one after another, are found at the multiples of that length. -/
theorem slice_flatMap {α : Type} {f : α → List Byte} {k : Nat} {l : List α} (hf : ∀ x, (f x).length = k) (rest : List Byte)
    {i : Nat} {x : α} (hx : l[i]? = some x) : slice (l.flatMap f ++ rest) (k * i) k = f x := by
  induction l generalizing i with
  | nil => simp at hx
  | cons y l ih =>
    rw [List.flatMap_cons, List.append_assoc]
    cases i with
    | zero =>
      obtain rfl : y = x := by simpa using hx
      rw [Nat.mul_zero, slice_append_left _ (by rw [hf]; omega), ← hf y, slice_full]
    | succ i =>
      have hsplit : k * (i + 1) = (f y).length + k * i := by rw [hf]; ring
      rw [hsplit, slice_append_right]
      exact ih (by simpa using hx)

theorem length_flatMap_const {α : Type} {f : α → List Byte} {k : Nat} (hf : ∀ x, (f x).length = k) (l : List α) :
    (l.flatMap f).length = k * l.length := by
  induction l with
  | nil => rfl
  | cons x l ih => rw [List.flatMap_cons, List.length_append, hf, ih, List.length_cons]; ring

/-! ## The store (R148, R152) -/

/-- A body whose entry records are all read carries the map of the entries read. -/
theorem storedMap_of_slices {b : List Byte} {m : PerPos MapEntry}
    (h : ∀ p : Pos, MapEntry.ofBytes (slice b (1 + 17 * p.val) 17) = some (m.get p)) : storedMap b = some m := by
  have hm : m = PerPos.ofFn m.get := vector_ext_get fun p => (PerPos.get_ofFn _ p).symm
  have hread {e : MapEntry} {f : MapEntry → Option (PerPos MapEntry)} (p : Pos) (he : m.get p = e) :
      (MapEntry.ofBytes (slice b (1 + 17 * p.val) 17)).bind f = f e := by rw [h p, he]; rfl
  rw [hm]
  exact (hread 0 rfl).trans <| (hread 1 rfl).trans <| (hread 2 rfl).trans <| (hread 3 rfl).trans <|
    (hread 4 rfl).trans <| (hread 5 rfl).trans <| (hread 6 rfl).trans <| (hread 7 rfl).trans <|
    (hread 8 rfl).trans <| (hread 9 rfl).trans <| (hread 10 rfl).trans <| (hread 11 rfl).trans <|
    (hread 12 rfl).trans <| (hread 13 rfl).trans <| (hread 14 rfl).trans <| hread 15 rfl

section
variable (c : LiveConfig)

/-- The body is the version, the entries, the profiles and the settings. -/
theorem LiveConfig.body_eq : c.body = [Config.formatVersion] ++ (allPos.flatMap (fun p => (c.map.get p).bytes) ++
    (c.profileList.flatMap Profile.bytes ++ c.settings.bytes)) := by
  simp [LiveConfig.body]

theorem LiveConfig.entries_length : (allPos.flatMap fun p => (c.map.get p).bytes).length = 272 :=
  length_flatMap_const (fun p => (c.map.get p).bytes_length) allPos

theorem LiveConfig.profiles_length : (c.profileList.flatMap Profile.bytes).length = 124 :=
  length_flatMap_const Profile.bytes_length c.profileList

theorem LiveConfig.body_length : c.body.length = 421 := by
  rw [c.body_eq, List.length_append, List.length_append, List.length_append, c.entries_length, c.profiles_length]
  rfl

theorem LiveConfig.body_entry (p : Pos) : slice c.body (1 + 17 * p.val) 17 = (c.map.get p).bytes := by
  have hp : allPos[p.val]? = some p := by revert p; decide
  rw [c.body_eq]
  exact (slice_append_right _ _ _ _).trans (slice_flatMap (fun p => (c.map.get p).bytes_length) _ hp)

theorem LiveConfig.body_profile {i : Nat} {x : Profile} (h : c.profileList[i]? = some x) :
    slice c.body (273 + 31 * i) 31 = x.bytes := by
  have hoffset : 273 + 31 * i = 1 + (272 + 31 * i) := by omega
  rw [c.body_eq, hoffset]
  refine (slice_append_right _ _ _ _).trans ?_
  rw [← c.entries_length]
  exact (slice_append_right _ _ _ _).trans (slice_flatMap Profile.bytes_length _ h)

theorem LiveConfig.body_settings : slice c.body 397 24 = c.settings.bytes := by
  have hoffset : 397 = [Config.formatVersion].length + ((allPos.flatMap fun p => (c.map.get p).bytes).length +
      ((c.profileList.flatMap Profile.bytes).length + 0)) := by rw [c.entries_length, c.profiles_length]; rfl
  have hfull : slice c.settings.bytes 0 24 = c.settings.bytes := by rw [← c.settings.bytes_length, slice_full]
  rw [c.body_eq, hoffset, slice_append_right, slice_append_right, slice_append_right, hfull]

theorem LiveConfig.body_version : byteAt c.body 0 = 0x03 := rfl

end

/-- A body whose map, profiles and settings are all read carries the configuration of what was read. -/
theorem storedConfig_of_slices {b : List Byte} {c : LiveConfig} (hmap : storedMap b = some c.map)
    (hprofile : ∀ i : Fin 4, Profile.ofBytes (slice b (273 + 31 * i.val) 31) = some (c.profiles.get i))
    (hsettings : Settings.ofBytes (slice b 397 24) = some c.settings) (hlength : b.length = 421) : storedConfig b = some c := by
  have hall : #v[c.profiles.get 0, c.profiles.get 1, c.profiles.get 2, c.profiles.get 3] = c.profiles :=
    vector_ext_get fun i => by fin_cases i <;> rfl
  have h0 : Profile.ofBytes (slice b 273 31) = _ := hprofile 0
  have h1 : Profile.ofBytes (slice b 304 31) = _ := hprofile 1
  have h2 : Profile.ofBytes (slice b 335 31) = _ := hprofile 2
  have h3 : Profile.ofBytes (slice b 366 31) = _ := hprofile 3
  unfold storedConfig
  rw [hmap, h0, h1, h2, h3, hsettings]
  refine (if_pos hlength).trans ?_
  rw [hall]

/-- A legal configuration is read from its body. -/
theorem storedConfig_body {c : LiveConfig} (h : c.Legal) : storedConfig c.body = some c := by
  obtain ⟨hmap, hprofiles, hsettings, -⟩ := h
  have hprofile (i : Fin 4) : Profile.ofBytes (slice c.body (273 + 31 * i.val) 31) = some (c.profiles.get i) := by
    have hi : c.profileList[i.val]? = some (c.profiles.get i) := by fin_cases i <;> rfl
    rw [c.body_profile hi, Profile.ofBytes_bytes (hprofiles i)]
  refine storedConfig_of_slices (storedMap_of_slices fun p => ?_) hprofile ?_ c.body_length
  · rw [c.body_entry, MapEntry.ofBytes_bytes (hmap p)]
  · rw [c.body_settings, Settings.ofBytes_bytes hsettings]

/-- A store whose CRC is the one of its body passes the CRC check. -/
theorem Store.crc_agrees (b : List Byte) : let st : Store := { complete := true, image := { body := b, crc := crc16 b } }
    crc16 st.image.body = st.image.crc := rfl

/-- Settles O6. -/
theorem savedConfigurationLoadsBack : Obligations.SavedConfigurationLoadsBack := by
  unfold Obligations.SavedConfigurationLoadsBack
  intro c h
  exact (checkStore_conditions rfl (Store.crc_agrees c.body) c.body_version (storedConfig_body h)).trans (if_pos h.2.2.2)

/-! ## Frames of the port commands (R134, spec 11.2) -/

/-- Operands written into a frame are read back from their index. -/
theorem operandVector_toList {n : Nat} (v : Vector Byte n) (before after : List Byte) :
    operandVector n (before ++ v.toList ++ after) before.length = v := by
  apply Vector.ext
  intro j hj
  simp [operandVector, List.getD_eq_getElem?_getD, List.getElem?_append]

/-- The check byte ends the frame. -/
theorem getLastD_frame (bytes : List Byte) (chk : Byte) : (bytes ++ [chk]).getLastD 0 = chk := by simp

section
variable (p : Port) (n chk : Byte)

/-- The two bytes of an unknown command (R134). -/
theorem decodeFrame_unknown {cmd : Byte} (h : operandLength cmd = none) :
    decodeFrame p [cmd, chk] = some (.unknownCommand p cmd chk) := by
  have hlen : frameLength cmd = 2 := by rw [frameLength, h]
  unfold operandLength at h
  split at h <;> cases h
  unfold decodeFrame
  simp only [hlen, List.length_cons, List.length_nil, if_true]
  rfl

theorem decodeFrame_stageEntry (v : Vector Byte 17) :
    decodeFrame p (0x62 :: n :: v.toList ++ [chk]) = some (.stageEntry p n v chk) := by
  refine (if_pos (by simp [frameLength, operandLength])).trans ?_
  change some (Instr.stageEntry p n (operandVector 17 ([n] ++ v.toList ++ [chk]) [n].length)
    (([n] ++ v.toList ++ [chk]).getLastD 0)) = _
  rw [operandVector_toList, getLastD_frame]

theorem decodeFrame_setProfile (v : Vector Byte 31) :
    decodeFrame p (0x68 :: n :: v.toList ++ [chk]) = some (.setProfile p n v chk) := by
  refine (if_pos (by simp [frameLength, operandLength])).trans ?_
  change some (Instr.setProfile p n (operandVector 31 ([n] ++ v.toList ++ [chk]) [n].length)
    (([n] ++ v.toList ++ [chk]).getLastD 0)) = _
  rw [operandVector_toList, getLastD_frame]

theorem decodeFrame_setSettings (v : Vector Byte 24) :
    decodeFrame p (0x6A :: v.toList ++ [chk]) = some (.setSettings p v chk) := by
  refine (if_pos (by simp [frameLength, operandLength])).trans ?_
  have hoperands : operandVector 24 (v.toList ++ [chk]) 0 = v := operandVector_toList v [] [chk]
  change some (Instr.setSettings p (operandVector 24 (v.toList ++ [chk]) 0) ((v.toList ++ [chk]).getLastD 0)) = _
  rw [hoperands, getLastD_frame]

theorem decodeFrame_injectSample (v : Vector Byte 20) :
    decodeFrame p (0x6E :: n :: v.toList ++ [chk]) = some (.injectSample p n v chk) := by
  refine (if_pos (by simp [frameLength, operandLength])).trans ?_
  change some (Instr.injectSample p n (operandVector 20 ([n] ++ v.toList ++ [chk]) [n].length)
    (([n] ++ v.toList ++ [chk]).getLastD 0)) = _
  rw [operandVector_toList, getLastD_frame]

end

/-- Settles O5: a frame of fixed bytes spells its command by computation, one with a vector of operands by its own lemma, and an
event has no port. -/
theorem frameSpellsItsCommand : Obligations.FrameSpellsItsCommand := by
  unfold Obligations.FrameSpellsItsCommand
  intro i p b hwell hport hframe
  cases i with
  | unknownCommand q cmd chk =>
    cases hport; cases hframe
    exact decodeFrame_unknown p chk (Option.isNone_iff_eq_none.1 hwell)
  | stageEntry q n v chk => cases hport; cases hframe; exact decodeFrame_stageEntry p n chk v
  | setProfile q n v chk => cases hport; cases hframe; exact decodeFrame_setProfile p n chk v
  | setSettings q v chk => cases hport; cases hframe; exact decodeFrame_setSettings p chk v
  | injectSample q n v chk => cases hport; cases hframe; exact decodeFrame_injectSample p n chk v
  | testModeOn q operand chk =>
    cases hport; cases hframe
    have hoperand : operand ≠ 0 := of_decide_eq_true hwell
    exact congrArg some (if_neg hoperand)
  | _ => cases hport <;> cases hframe <;> rfl

end Sys2Proof.Machine

/-! Queues that receive notices: what a number of posts about some kinds and subjects leaves of a port's queue (R142). -/

namespace Sys2Proof.Machine

/-- A queue has received at most n notices, each about a kind and subject in `About`, and r is what it then holds. -/
inductive Received (About : NoticeKind → Nat → Prop) (q : List Notice) : Nat → List Notice → Prop
  | refl (n : Nat) : Received About q n q
  | post {n : Nat} {x : PortState} (k : NoticeKind) (m : Nat) (v w : Half) (hk : About k m)
      (h : Received About q n x.queue) : Received About q (n + 1) (x.receive k m v w).queue

section
variable {About : NoticeKind → Nat → Prop} {n : Nat} {q r : List Notice}

theorem Received.of_eq (h : r = q) : Received About q n r := h ▸ .refl n

theorem Received.mono {Wider : NoticeKind → Nat → Prop} {m : Nat} (h : Received About q n r)
    (hw : ∀ k x, About k x → Wider k x) (hn : n ≤ m) : Received Wider q m r := by
  induction h generalizing m with
  | refl => exact .refl m
  | post k x v w hk _ ih =>
    obtain ⟨m, rfl⟩ := Nat.exists_eq_add_one_of_ne_zero (n := m) (by omega)
    exact .post k x v w (hw k x hk) (ih (by omega))

theorem Received.trans {m : Nat} {u : List Notice} (h : Received About q n r) (k : Received About r m u) :
    Received About q (n + m) u := by
  induction k with
  | refl => exact h.mono (fun _ _ => id) (by omega)
  | post k x v w hk _ ih => exact .post k x v w hk ih

theorem Received.length_le (h : Received About q n r) : r.length ≤ q.length + n := by
  induction h with
  | refl => omega
  | post k m v w _ _ ih => exact (PortState.receive_length_le _ k m v w).trans (by omega)

/-- A notice about nothing that was received stays as it stands. -/
theorem Received.mem (h : Received About q n r) {m : Notice} (hm : m ∈ q) (hother : ¬ About m.kind m.subject) : m ∈ r := by
  induction h with
  | refl => exact hm
  | post k x v w hk _ ih =>
    refine PortState.mem_receive_of_not_about v w ih ?_
    rw [← Bool.not_eq_true]
    intro habout
    have hkey : m.kind = k ∧ m.subject = x := by simpa [Notice.about] using habout
    exact hother (hkey.1 ▸ hkey.2 ▸ hk)

/-- What a queue holds was there by kind and subject, or was received. -/
theorem Received.key (h : Received About q n r) {m : Notice} (hm : m ∈ r) :
    About m.kind m.subject ∨ ∃ m₀ ∈ q, m₀.kind = m.kind ∧ m₀.subject = m.subject := by
  induction h generalizing m with
  | refl => exact .inr ⟨m, hm, rfl, rfl⟩
  | @post n x k y v w hk _ ih =>
    obtain ⟨hq, -⟩ | ⟨hq, -, -⟩ | ⟨hq, -, -⟩ := x.receive_queue k y v w <;> rw [hq] at hm
    · obtain ⟨m₁, hm₁, rfl⟩ := List.mem_map.1 hm
      have := ih hm₁
      split
      · exact this
      · exact this
    · rcases List.mem_append.1 hm with hm | hm
      · exact ih hm
      · rw [List.mem_singleton.1 hm]; exact .inl hk
    · exact ih hm

/-- The notices of a kind that nothing received has stay as they stand. -/
theorem Received.filter_kind (h : Received About q n r) {kind : NoticeKind} (hother : ∀ x, ¬ About kind x) :
    r.filter (fun m => m.kind = kind) = q.filter fun m => m.kind = kind := by
  induction h with
  | refl => rfl
  | @post n x k y v w hk _ ih =>
    have hkind : k ≠ kind := fun h => hother y (h ▸ hk)
    rw [← ih]
    obtain ⟨hq, -⟩ | ⟨hq, -, -⟩ | ⟨hq, -, -⟩ := x.receive_queue k y v w <;> rw [hq]
    · rw [coalesce, List.filter_map]
      have hsame : ((fun m : Notice => decide (m.kind = kind)) ∘
          fun m : Notice => if m.about k y then { m with payload := v, scan := w } else m) = fun m => decide (m.kind = kind) := by
        funext m
        simp only [Function.comp_apply]
        split <;> rfl
      rw [hsame]
      refine (List.map_congr_left fun m hm => if_neg ?_).trans (List.map_id _)
      have hm : m.kind = kind := by simpa using (List.mem_filter.1 hm).2
      simp [Notice.about, hm, hkind.symm]
    · simp [List.filter_append, hkind]

theorem Received.nodup (h : Received About q n r) (hq : queueLegal q) : queueLegal r := by
  induction h with
  | refl => exact hq
  | post k x v w _ _ ih => exact PortState.receive_queueLegal ih k x v w

end

section
variable (s : State) (p : Port) (k : NoticeKind) (n : Nat) (v : Half)

theorem State.post_received {About : NoticeKind → Nat → Prop} (x : Port) (h : x = p → About k n) :
    Received About (s.port x).queue 1 ((s.post p k n v).port x).queue := by
  by_cases hx : x = p
  · subst hx
    rw [State.post_queue]
    exact .post (n := 0) k n v _ (h rfl) (.refl 0)
  · exact .of_eq (by rw [State.post_port_other _ _ _ _ _ hx])

/-- A posted notice stands in its queue where that had room, or held one of its kind and subject. -/
theorem State.post_mem (h : (s.port p).queue.length < 16 ∨ ∃ m ∈ (s.port p).queue, m.kind = k ∧ m.subject = n) :
    ∃ m ∈ ((s.post p k n v).port p).queue, m.kind = k ∧ m.subject = n ∧ m.payload = v ∧ m.scan = s.scanner.number := by
  rw [State.post_queue]
  rcases h with h | h
  · exact PortState.receive_mem _ k n v _ h
  · rw [PortState.receive_known _ _ h]
    obtain ⟨m, hm, hkey⟩ := h
    obtain ⟨i, hi⟩ := List.mem_iff_getElem?.1 hm
    have hi := coalesce_getElem? k n v s.scanner.number hi
    rw [if_pos hkey] at hi
    exact ⟨_, List.mem_of_getElem? hi, hkey.1, hkey.2, rfl, rfl⟩

end

end Sys2Proof.Machine

/-! The reminder machine of a position: the entries to its steps, the evaluation with its five cases, the tick and the expiries (R92 to
R100), and the buckle decoder with the evaluation that follows it (R89 to R91). -/

namespace Sys2Proof.Machine

/-! ## Changes of one position's record -/

/-- Two changes of one record are one. -/
theorem State.modPos_modPos (s : State) (p : Pos) (f g : PosRec → PosRec) :
    (s.modPos p f).modPos p g = s.modPos p fun r => g (f r) := by
  have hpos : (s.modPos p f).pos p = f (s.pos p) := by rw [State.pos_modPos, if_pos rfl]
  have hset (x y : PosRec) : (s.setPos p x).setPos p y = s.setPos p y := by
    rw [State.setPos, State.setPos, Vector.set_set]; rfl
  rw [State.modPos, hpos]
  exact hset _ _

/-- A change that is none. -/
theorem State.modPos_eq_self {s : State} {p : Pos} {f : PosRec → PosRec} (h : f (s.pos p) = s.pos p) : s.modPos p f = s := by
  have hset : s.positions.set p.val (s.positions.get p) p.isLt = s.positions := Vector.set_getElem_self p.isLt
  rw [State.modPos, h, State.setPos]
  exact congrArg (fun t => { s with positions := t }) hset

/-- A payload with nothing in its first byte. -/
theorem payloadOf_zero {n : Nat} (h : n < 256) : payloadOf 0 n = BitVec.ofNat 16 n := by
  apply BitVec.eq_of_toNat_eq
  rw [payloadOf, toNat_append_byte, toNat_oneByte_of_lt h, toNat_oneByte, BitVec.toNat_ofNat]
  omega

theorem ReminderStep.code_lt (x : ReminderStep) : x.code < 256 := by cases x <;> decide

theorem Belt.code_lt (x : Belt) : x.code < 256 := by cases x <;> decide

/-! ## The entries to the steps (R94 to R98) -/

/-- A reminder that is AUDIBLE as at its entry (R97). -/
def ReminderRec.sounding (time : Nat) : ReminderRec :=
  { step := .audible, timer := time, confirmed := false, reissues := 0, scans := 0 }

/-- A reminder that has entered AUDIBLE, with an audible time that may be 0 (R97). -/
def ReminderRec.sounded (t : Settings) : ReminderRec :=
  { ReminderRec.sounding t.audibleTime with step := if t.audibleTime = 0 then .lapsed else .audible }

/-- A reminder that has entered VISUAL, with times that may be 0 (R95, R96). -/
def ReminderRec.shown (r : ReminderRec) (rc : ReminderClass) (t : Settings) : ReminderRec :=
  if t.visualTime = 0 ∧ rc = .full then .sounded t else { r with step := .visual, timer := t.visualTime }

section
variable (s : State) (p : Pos)

@[simp] theorem State.pos_post (port : Port) (k : NoticeKind) (n : Nat) (x : Half) (q : Pos) :
    (s.post port k n x).pos q = s.pos q := rfl

@[simp] theorem State.pos_setReminder (r : ReminderRec) (q : Pos) :
    (s.setReminder p r).pos q = if q = p then { s.pos p with reminder := r } else s.pos q := s.pos_modPos p q _

@[simp] theorem State.setReminder_setReminder (a b : ReminderRec) :
    (s.setReminder p a).setReminder p b = s.setReminder p b := s.modPos_modPos p _ _

/-- A moved reminder: its record changes and the change is posted with the step's code (R100). -/
theorem State.moveReminder_eq (step : ReminderStep) (timer : Nat) : s.moveReminder p step timer =
    (s.setReminder p { (s.pos p).reminder with step := step, timer := timer }).post
      .cabin .reminderChanged (p.val + 1) (BitVec.ofNat 16 step.code) := by
  rw [State.moveReminder, State.postReminder, State.pos_setReminder, if_pos rfl, payloadOf_zero step.code_lt]
  rfl

/-- The entry to AUDIBLE before the audible time is asked: the change is posted before the request (R97, R100). -/
def State.sounds (s : State) (p : Pos) : State :=
  ((s.setReminder p (.sounding s.config.settings.audibleTime)).post .cabin .reminderChanged (p.val + 1) 3).post
    .cabin .audibleRequest (p.val + 1) 0

theorem State.enterAudible_eq : s.enterAudible p =
    if s.config.settings.audibleTime = 0 then (s.sounds p).lapse p else s.sounds p := by
  have hsounds : ((s.setReminder p { (s.pos p).reminder with confirmed := false, reissues := 0, scans := 0 }).moveReminder p
      .audible s.config.settings.audibleTime).postAudible p = s.sounds p := by
    rw [State.moveReminder_eq, State.setReminder_setReminder, State.pos_setReminder, if_pos rfl, State.postAudible,
      State.pos_post, State.pos_setReminder, if_pos rfl]
    change (State.post _ .cabin .audibleRequest (p.val + 1) (payloadOf 0 0)) = _
    rw [payloadOf_zero (by decide)]
    rfl
  rw [← hsounds]
  rfl

/-- The record that an entry to AUDIBLE leaves. -/
theorem State.enterAudible_reminder : ((s.enterAudible p).pos p).reminder = .sounded s.config.settings := by
  have hsounds : ((s.sounds p).pos p).reminder = .sounding s.config.settings.audibleTime := by simp [State.sounds]
  rw [State.enterAudible_eq]
  by_cases h : s.config.settings.audibleTime = 0
  · rw [if_pos h, State.lapse, State.moveReminder_reminder, hsounds]
    simp [ReminderRec.sounded, ReminderRec.sounding, h]
  · rw [if_neg h, hsounds]
    simp [ReminderRec.sounded, ReminderRec.sounding, h]

/-- The record that an entry to VISUAL leaves. -/
theorem State.enterVisual_reminder :
    ((s.enterVisual p).pos p).reminder = (s.pos p).reminder.shown (s.entry p).reminderClass s.config.settings := by
  unfold State.enterVisual ReminderRec.shown
  extract_lets time moved
  have hcond : (time = 0 ∧ (moved.entry p).reminderClass = .full) =
      (s.config.settings.visualTime = 0 ∧ (s.entry p).reminderClass = .full) := rfl
  simp only [hcond]
  split
  · exact moved.enterAudible_reminder p
  · exact s.moveReminder_reminder p _ _

/-- The record that an entry to GRACE leaves. -/
theorem State.enterGrace_reminder : ((s.enterGrace p).pos p).reminder =
    if s.config.settings.graceTime = 0 then (s.pos p).reminder.shown (s.entry p).reminderClass s.config.settings
    else { (s.pos p).reminder with step := .grace, timer := s.config.settings.graceTime } := by
  unfold State.enterGrace
  extract_lets time moved
  have hmoved : (moved.pos p).reminder = { (s.pos p).reminder with step := .grace, timer := time } :=
    s.moveReminder_reminder p _ _
  by_cases h : time = 0
  · rw [if_pos h, if_pos h, State.enterVisual_reminder, hmoved]
    rfl
  · rw [if_neg h, if_neg h, hmoved]

end

/-! ## The evaluation (R93 to R99) -/

theorem OccClass.eligible_iff (c : OccClass) : c.eligible = true ↔ c = .small ∨ c = .adult ∨ c = .booster := by
  cases c <;> simp [OccClass.eligible]

theorem Belt.unfastened_iff (b : Belt) : b.unfastened = true ↔ b = .unlatched ∨ b = .fault := by
  cases b <;> simp [Belt.unfastened]

/-- What starts an IDLE reminder (R94). -/
def State.ReminderStarts (s : State) (p : Pos) : Prop :=
  ((s.pos p).cls.stable = .small ∨ (s.pos p).cls.stable = .adult ∨ (s.pos p).cls.stable = .booster) ∧
  ((s.pos p).buckle.belt = .unlatched ∨ (s.pos p).buckle.belt = .fault) ∧
  ((s.entry p).reminderClass = .full ∨ (s.entry p).reminderClass = .visual) ∧
  s.vehicle.ignition = .run ∧ s.config.settings.speedThreshold ≤ s.vehicle.speed

/-- What returns a reminder to IDLE in every step (R95, R98). -/
def State.ReminderReturns (s : State) (p : Pos) : Prop :=
  let cls := (s.pos p).cls.stable
  (s.pos p).buckle.belt = .latched ∨ (s.pos p).buckle.belt = .none ∨
    (cls ≠ .small ∧ cls ≠ .adult ∧ cls ≠ .booster ∧ cls ≠ .fault) ∨ s.vehicle.ignition ≠ .run ∨
    (s.entry p).reminderClass = .none

/-- What returns a reminder in GRACE besides (R95). -/
def State.ReminderSlows (s : State) (p : Pos) : Prop :=
  (s.pos p).reminder.step = .grace ∧ s.vehicle.speed < s.config.settings.speedThreshold

/-- A VISUAL timer that stands at 0 and may expire (R96, R99). -/
def State.ReminderDue (s : State) (p : Pos) : Prop :=
  (s.pos p).reminder.step = .visual ∧ (s.pos p).reminder.timer = 0 ∧ (s.entry p).reminderClass = .full ∧
    (s.pos p).cls.stable ≠ .fault

section
variable {s : State} {p : Pos}

theorem State.reminderStarts_iff : s.ReminderStarts p ↔ ((s.pos p).cls.stable.eligible && (s.pos p).buckle.belt.unfastened &&
    (s.entry p).reminderClass ≠ .none && s.underway) = true := by
  simp only [State.ReminderStarts, Bool.and_eq_true, OccClass.eligible_iff, Belt.unfastened_iff, decide_eq_true_eq,
    State.underway, and_assoc]
  cases (s.entry p).reminderClass <;> simp

theorem State.reminderReturns_iff : s.ReminderReturns p ↔ s.reminderEnds p = true := by
  simp only [State.ReminderReturns, State.reminderEnds, Bool.or_eq_true, Bool.and_eq_true, decide_eq_true_eq]
  cases (s.pos p).buckle.belt <;> cases (s.pos p).cls.stable <;> simp [Belt.unfastened, OccClass.eligible]

theorem State.evaluate_starts (hidle : (s.pos p).reminder.step = .idle) (h : s.ReminderStarts p) :
    s.evaluate p = s.enterGrace p := by
  simp only [State.evaluate, hidle]
  exact if_pos (State.reminderStarts_iff.1 h)

theorem State.evaluate_stays_idle (hidle : (s.pos p).reminder.step = .idle) (h : ¬ s.ReminderStarts p) : s.evaluate p = s := by
  simp only [State.evaluate, hidle]
  exact if_neg (mt State.reminderStarts_iff.2 h)

theorem State.evaluate_returns (hstep : (s.pos p).reminder.step ≠ .idle) (h : s.ReminderReturns p ∨ s.ReminderSlows p) :
    s.evaluate p = s.toIdle p := by
  rw [State.reminderReturns_iff] at h
  cases hs : (s.pos p).reminder.step <;> simp only [State.evaluate, hs]
  case idle => exact absurd hs hstep
  case grace => exact if_pos (by simpa [State.ReminderSlows, hs] using h)
  all_goals exact if_pos (by simpa [State.ReminderSlows, hs] using h)

theorem State.evaluate_sounds (hends : ¬ s.ReminderReturns p) (h : s.ReminderDue p) : s.evaluate p = s.enterAudible p := by
  rw [State.reminderReturns_iff] at hends
  obtain ⟨hs, htimer, hfull, hcls⟩ := h
  simp only [State.evaluate, hs]
  rw [if_neg hends, if_pos (by simp [htimer, hfull, PosRec.frozen, hcls])]

theorem State.evaluate_stays (hstep : (s.pos p).reminder.step ≠ .idle) (hends : ¬ s.ReminderReturns p)
    (hslow : ¬ s.ReminderSlows p) (hdue : ¬ s.ReminderDue p) : s.evaluate p = s := by
  rw [State.reminderReturns_iff] at hends
  cases hs : (s.pos p).reminder.step <;> simp only [State.evaluate, hs]
  case idle => exact absurd hs hstep
  case grace => exact if_neg (by simpa [State.ReminderSlows, hs, hends] using hslow)
  case visual =>
    refine (if_neg hends).trans (if_neg fun h => hdue ?_)
    simp only [Bool.and_eq_true, decide_eq_true_eq, Bool.not_eq_true', PosRec.frozen, hs] at h
    exact ⟨hs, h.1.2, h.1.1, by simpa using h.2⟩
  all_goals exact if_neg hends

end

/-- The record that an evaluation leaves, as the evaluated one says it (R93 to R99). -/
theorem State.evaluate_reminder (s : State) (p : Pos) : ((s.evaluate p).pos p).reminder =
    (s.pos p).reminder.evaluated (s.entry p).reminderClass (s.pos p).cls.stable (s.pos p).buckle.belt s.vehicle
      s.config.settings := by
  unfold ReminderRec.evaluated
  extract_lets eligible unfastened sounded shown
  have heligible : eligible = true ↔
      (s.pos p).cls.stable = .small ∨ (s.pos p).cls.stable = .adult ∨ (s.pos p).cls.stable = .booster := by
    simp [eligible, or_assoc]
  have hunfastened : unfastened = true ↔ (s.pos p).buckle.belt = .unlatched ∨ (s.pos p).buckle.belt = .fault := by
    simp [unfastened]
  by_cases hidle : (s.pos p).reminder.step = .idle
  · have hstarts : (eligible = true ∧ unfastened = true ∧ (s.entry p).reminderClass ≠ .none ∧ s.vehicle.ignition = .run ∧
        s.config.settings.speedThreshold ≤ s.vehicle.speed) ↔ s.ReminderStarts p := by
      rw [heligible, hunfastened, State.ReminderStarts]
      cases (s.entry p).reminderClass <;> simp
    rw [if_pos hidle]
    by_cases h : s.ReminderStarts p
    · rw [State.evaluate_starts hidle h, State.enterGrace_reminder, if_pos (hstarts.2 h)]
      rfl
    · rw [State.evaluate_stays_idle hidle h, if_neg (mt hstarts.1 h)]
  · have hreturns : ((!unfastened) = true ∨ ((!eligible) = true ∧ (s.pos p).cls.stable ≠ .fault) ∨ s.vehicle.ignition ≠ .run ∨
        (s.entry p).reminderClass = .none ∨
        ((s.pos p).reminder.step = .grace ∧ s.vehicle.speed < s.config.settings.speedThreshold)) ↔
        s.ReminderReturns p ∨ s.ReminderSlows p := by
      rw [Bool.not_eq_true', Bool.not_eq_true', ← Bool.not_eq_true, ← Bool.not_eq_true, heligible, hunfastened,
        State.ReminderReturns, State.ReminderSlows]
      cases (s.pos p).buckle.belt <;> simp [or_assoc, and_assoc]
    rw [if_neg hidle]
    by_cases h : s.ReminderReturns p ∨ s.ReminderSlows p
    · rw [State.evaluate_returns hidle h, State.toIdle, State.moveReminder_reminder, if_pos (hreturns.2 h)]
    · rw [if_neg (mt hreturns.1 h)]
      obtain ⟨hends, hslow⟩ := not_or.1 h
      by_cases hdue : s.ReminderDue p
      · rw [State.evaluate_sounds hends hdue, State.enterAudible_reminder]
        exact (if_pos hdue).symm
      · rw [State.evaluate_stays hidle hends hslow hdue]
        exact (if_neg hdue).symm

/-- Settles O31. -/
theorem reminderStartsWhenUnderwayUnbelted : Obligations.ReminderStartsWhenUnderwayUnbelted := by
  unfold Obligations.ReminderStartsWhenUnderwayUnbelted
  refine ⟨fun s p hidle => ?_, fun s p hstep => ?_, State.evaluate_reminder⟩
  · intro starts
    refine ⟨fun h hgrace => ?_, fun h hgrace => ?_, State.evaluate_stays_idle hidle⟩
    · rw [State.evaluate_starts hidle h, State.enterGrace]
      refine (if_neg hgrace).trans ?_
      rw [State.moveReminder_eq]
      rfl
    · intro r
      have hr : r = ((s.pos p).reminder.shown (s.entry p).reminderClass s.config.settings).step := by
        rw [show r = ((s.evaluate p).pos p).reminder.step from rfl, State.evaluate_starts hidle h, State.enterGrace_reminder,
          if_pos hgrace]
      refine ⟨fun hv => ?_, fun hv hfull => ?_⟩
      · rw [hr, ReminderRec.shown, if_neg]
        rintro ⟨hzero, hfull⟩
        rcases hv with hv | hv
        · exact hv hzero
        · rw [hfull] at hv; cases hv
      · rw [hr, ReminderRec.shown, if_pos ⟨hv, hfull⟩]
        rfl
  · intro cls ends slow due time sounded
    refine ⟨fun h => ?_, fun hends hslow hdue htime => ?_, fun hends hslow hdue htime => ?_, State.evaluate_stays hstep⟩
    · rw [State.evaluate_returns hstep h, State.toIdle, State.moveReminder_eq]
      rfl
    · rw [State.evaluate_sounds hends hdue, State.enterAudible_eq]
      exact if_neg htime
    · have hzero : s.config.settings.audibleTime = 0 := htime
      rw [State.evaluate_sounds hends hdue, State.enterAudible_reminder, ReminderRec.sounded, if_pos hzero,
        ReminderRec.sounding, hzero]

/-! ## What the reminder machine posts (R100) -/

/-- A notice that the reminder machine of a position posts. -/
def ReminderNotice (p : Pos) (k : NoticeKind) (n : Nat) : Prop :=
  (k = .reminderChanged ∨ k = .audibleRequest) ∧ n = p.val + 1

section
variable (s : State) (p : Pos)

theorem State.postCabin_received {k : NoticeKind} (x : Half) (hk : k = .reminderChanged ∨ k = .audibleRequest) :
    Received (ReminderNotice p) (s.port .cabin).queue 1 ((s.post .cabin k (p.val + 1) x).port .cabin).queue :=
  s.post_received .cabin k _ x .cabin fun _ => ⟨hk, rfl⟩

theorem State.moveReminder_received (step : ReminderStep) (timer : Nat) :
    Received (ReminderNotice p) (s.port .cabin).queue 1 ((s.moveReminder p step timer).port .cabin).queue := by
  rw [State.moveReminder_eq]
  exact State.postCabin_received _ p _ (.inl rfl)

theorem State.enterAudible_received :
    Received (ReminderNotice p) (s.port .cabin).queue 3 ((s.enterAudible p).port .cabin).queue := by
  have hsounds : Received (ReminderNotice p) (s.port .cabin).queue 2 ((s.sounds p).port .cabin).queue :=
    (State.postCabin_received (s.setReminder p _) p _ (.inl rfl)).trans (State.postCabin_received _ p _ (.inr rfl))
  rw [State.enterAudible_eq]
  split
  · exact hsounds.trans (State.moveReminder_received _ p _ _)
  · exact hsounds.mono (fun _ _ => id) (by omega)

theorem State.enterVisual_received :
    Received (ReminderNotice p) (s.port .cabin).queue 4 ((s.enterVisual p).port .cabin).queue := by
  unfold State.enterVisual
  extract_lets time moved
  have hmoved := s.moveReminder_received p .visual time
  split
  · exact hmoved.trans (moved.enterAudible_received p)
  · exact hmoved.mono (fun _ _ => id) (by omega)

theorem State.enterGrace_received :
    Received (ReminderNotice p) (s.port .cabin).queue 5 ((s.enterGrace p).port .cabin).queue := by
  unfold State.enterGrace
  extract_lets time moved
  have hmoved := s.moveReminder_received p .grace time
  split
  · exact hmoved.trans (moved.enterVisual_received p)
  · exact hmoved.mono (fun _ _ => id) (by omega)

/-- The evaluation of a position's reminder by its five cases. -/
theorem State.evaluate_cases : s.evaluate p = s ∨ s.evaluate p = s.toIdle p ∨
    ((s.pos p).reminder.step = .idle ∧ s.ReminderStarts p ∧ s.evaluate p = s.enterGrace p) ∨
    (¬ s.ReminderReturns p ∧ s.ReminderDue p ∧ s.evaluate p = s.enterAudible p) := by
  by_cases hidle : (s.pos p).reminder.step = .idle
  · by_cases h : s.ReminderStarts p
    · exact .inr (.inr (.inl ⟨hidle, h, State.evaluate_starts hidle h⟩))
    · exact .inl (State.evaluate_stays_idle hidle h)
  · by_cases h : s.ReminderReturns p ∨ s.ReminderSlows p
    · exact .inr (.inl (State.evaluate_returns hidle h))
    · obtain ⟨hends, hslow⟩ := not_or.1 h
      by_cases hdue : s.ReminderDue p
      · exact .inr (.inr (.inr ⟨hends, hdue, State.evaluate_sounds hends hdue⟩))
      · exact .inl (State.evaluate_stays hidle hends hslow hdue)

/-- An evaluation posts at most five notices, to the cabin port, about its position's reminder. -/
theorem State.evaluate_received :
    Received (ReminderNotice p) (s.port .cabin).queue 5 ((s.evaluate p).port .cabin).queue := by
  rcases s.evaluate_cases p with h | h | ⟨-, -, h⟩ | ⟨-, -, h⟩ <;> rw [h]
  · exact .refl 5
  · exact (s.moveReminder_received p _ _).mono (fun _ _ => id) (by omega)
  · exact s.enterGrace_received p
  · exact (s.enterAudible_received p).mono (fun _ _ => id) (by omega)

end

/-! ## The tick and the expiries (R92, R95 to R97) -/

/-- A timer runs in GRACE, in VISUAL with class FULL and in AUDIBLE, unless the position is frozen (R92, R99). -/
theorem PosRec.timerRuns_iff (r : PosRec) (c : ReminderClass) : r.timerRuns c = true ↔ r.cls.stable ≠ .fault ∧
    (r.reminder.step = .grace ∨ (r.reminder.step = .visual ∧ c = .full) ∨ r.reminder.step = .audible) := by
  cases h : r.reminder.step <;> simp [PosRec.timerRuns, PosRec.frozen, h]

/-- A step that may expire at a position. -/
theorem State.inStep_iff {s : State} {p : Pos} {step : ReminderStep} (h : step ≠ .idle) :
    s.inStep p step = true ↔ (s.pos p).reminder.step = step ∧ (s.pos p).cls.stable ≠ .fault := by
  simp only [State.inStep, PosRec.frozen, Bool.and_eq_true, decide_eq_true_eq, Bool.not_eq_true', Bool.and_eq_false_iff,
    decide_eq_false_iff_not, not_not]
  refine and_congr_right fun hs => ?_
  simp [hs, h]

/-- Settles O28. -/
theorem reminderTickLowersRunningTimers : Obligations.ReminderTickLowersRunningTimers := by
  unfold Obligations.ReminderTickLowersRunningTimers
  intro s hrun
  refine ⟨_, congrArg Host.Outcome.next (State.event_running hrun State.lowerReminders), rfl, fun p => ?_, ?_, rfl⟩
  · intro r runs
    have hpos : (s.lowerReminders.judgeEco).pos p = r.tick (s.entry p).reminderClass := PerPos.get_ofFn _ p
    rw [hpos, PosRec.tick]
    exact ⟨fun h => if_pos ((r.timerRuns_iff _).2 h), fun h => if_neg (mt (r.timerRuns_iff _).1 h)⟩
  · show some (reminderSpacing s.vehicle.testMode) = _
    cases s.vehicle.testMode <;> rfl

/-- An event that changes the state by an operation that leaves the eco countdown alone. -/
theorem State.event_leaves {s u : State} {i : Instr} {f : State → State} (hrun : s.phase = .running)
    (hi : exec i s = .next (s.event f)) (hf : f s = u) (heco : u.vehicle.eco = s.vehicle.eco) :
    ∃ t, exec i s = .next t ∧ s.ecoBack t = s.ecoBack u ∧ s.Judged t := by
  refine ⟨u.judgeEco, by rw [hi, State.event_running hrun, hf], rfl, ?_⟩
  rw [State.Judged, State.judgeEco_eco, heco]
  rfl

/-- Settles O29. -/
theorem graceExpiryShowsVisual : Obligations.GraceExpiryShowsVisual := by
  unfold Obligations.GraceExpiryShowsVisual
  intro s p hrun time shown
  have hexec : exec (.graceTimerExpiry p) s = .next (s.event fun s => if s.inStep p .grace then s.enterVisual p else s) := rfl
  have hdue : s.inStep p .grace = true ↔ _ := State.inStep_iff (by decide)
  refine ⟨fun hstep hcls => ?_, fun h => ?_⟩
  · have hin : s.inStep p .grace = true := hdue.2 ⟨hstep, hcls⟩
    have hnext : exec (.graceTimerExpiry p) s = .next (s.enterVisual p).judgeEco := by
      rw [hexec, State.event_running hrun, if_pos hin]
    have hreminder (hv : time = 0) (hfull : (s.entry p).reminderClass = .full) :
        (((s.enterVisual p).judgeEco).pos p).reminder = .sounded s.config.settings := by
      rw [show ((s.enterVisual p).judgeEco).pos p = (s.enterVisual p).pos p from rfl, State.enterVisual_reminder,
        ReminderRec.shown, if_pos ⟨hv, hfull⟩]
    refine ⟨fun h => ?_, fun hv hfull ha => ⟨_, hnext, ?_⟩, fun hv hfull ha => ⟨_, hnext, ?_⟩⟩
    · have hshown : s.enterVisual p = shown := by
        have hcond : ¬ (s.config.settings.visualTime = 0 ∧ (s.entry p).reminderClass = .full) := not_and_or.2 h
        rw [State.enterVisual]
        refine (if_neg hcond).trans ?_
        rw [State.moveReminder_eq]
        rfl
      exact State.event_leaves hrun hexec ((if_pos hin).trans hshown) rfl
    · rw [hreminder hv hfull, ReminderRec.sounded, if_neg ha, ReminderRec.sounding]
    · rw [hreminder hv hfull, ReminderRec.sounded, if_pos ha, ReminderRec.sounding, ha]
  · refine State.passes_of_id hrun hexec (if_neg fun hin => ?_)
    obtain ⟨hstep, hcls⟩ := hdue.1 hin
    exact h.elim (fun k => k hstep) hcls

/-- Settles O30. -/
theorem visualExpirySoundsAndAudibleExpiryLapses : Obligations.VisualExpirySoundsAndAudibleExpiryLapses := by
  unfold Obligations.VisualExpirySoundsAndAudibleExpiryLapses
  refine ⟨fun s p hrun => ?_, fun s p hrun => ?_⟩
  · intro time sounded due
    have hexec : exec (.visualTimerExpiry p) s = .next (s.event fun s =>
        if s.inStep p .visual && (s.entry p).reminderClass = .full then s.enterAudible p else s) := rfl
    have hdue : (s.inStep p .visual && (s.entry p).reminderClass = .full) = true ↔ due := by
      rw [Bool.and_eq_true, State.inStep_iff (by decide), decide_eq_true_eq, and_assoc]
    refine ⟨fun h ht => ?_, fun h ht => ?_, fun h => State.passes_of_id hrun hexec (if_neg (mt hdue.1 h))⟩
    · exact State.event_leaves hrun hexec ((if_pos (hdue.2 h)).trans ((s.enterAudible_eq p).trans (if_neg ht))) rfl
    · refine ⟨(s.enterAudible p).judgeEco, by rw [hexec, State.event_running hrun, if_pos (hdue.2 h)], ?_⟩
      rw [show ((s.enterAudible p).judgeEco).pos p = (s.enterAudible p).pos p from rfl, State.enterAudible_reminder,
        ReminderRec.sounded, if_pos ht, ReminderRec.sounding, show s.config.settings.audibleTime = 0 from ht]
  · intro due
    have hexec : exec (.audibleTimerExpiry p) s = .next (s.event fun s => if s.inStep p .audible then s.lapse p else s) := rfl
    have hdue : s.inStep p .audible = true ↔ due := State.inStep_iff (by decide)
    refine ⟨fun h => ?_, fun h => State.passes_of_id hrun hexec (if_neg (mt hdue.1 h))⟩
    obtain ⟨t, ht, hback, hjudged⟩ := State.event_leaves hrun hexec
      ((if_pos (hdue.2 h)).trans (s.moveReminder_eq p .lapsed 0)) rfl
    exact ⟨t, ht, hjudged, hback⟩

/-! ## The buckle decoder (R89 to R91) -/

section
variable (s : State) (p : Pos)

/-- A posted belt state (R90, R91). -/
theorem State.postBelt_eq : s.postBelt p =
    s.post .cabin .beltChanged (p.val + 1) (BitVec.ofNat 16 (s.pos p).buckle.belt.code) := by
  rw [State.postBelt, payloadOf_zero (Belt.code_lt _)]
  rfl

/-- The buckle record that a delivered sample leaves (R89 to R91). -/
def PosRec.buckled (r : PosRec) (x : SlotSample) : BeltRec :=
  if r.beltCap then r.buckle.debounce (decodeBuckle x.buckle) else .cleared

/-- The state in which the buckle record of a sample has been taken, before the evaluation. -/
def State.buckleTaken (s : State) (p : Pos) (x : SlotSample) : State :=
  let taken := s.modPos p fun r => { r with buckle := (s.pos p).buckled x }
  if ((s.pos p).buckled x).belt ≠ (s.pos p).buckle.belt then
    taken.post .cabin .beltChanged (p.val + 1) (BitVec.ofNat 16 ((s.pos p).buckled x).belt.code)
  else taken

theorem State.takeBuckle_eq (x : SlotSample) : s.takeBuckle p x = (s.buckleTaken p x).evaluate p := by
  have hbelt : ((s.modPos p fun r => { r with buckle := (s.pos p).buckled x }).pos p).buckle = (s.pos p).buckled x := by
    rw [State.pos_modPos, if_pos rfl]
  have hpost : (s.modPos p fun r => { r with buckle := (s.pos p).buckled x }).postBelt p = _ := State.postBelt_eq _ p
  rw [hbelt] at hpost
  unfold State.buckleTaken
  extract_lets taken
  rw [← hpost]
  rfl

/-- The evaluation keeps the buckle record. -/
theorem State.evaluate_buckle : ((s.evaluate p).pos p).buckle = (s.pos p).buckle := by
  rw [← (s.evaluate_frame p).own]

theorem State.buckleTaken_buckle (x : SlotSample) : ((s.buckleTaken p x).pos p).buckle = (s.pos p).buckled x := by
  unfold State.buckleTaken
  extract_lets taken
  have htaken : (taken.pos p).buckle = (s.pos p).buckled x := by rw [State.pos_modPos, if_pos rfl]
  split
  · exact htaken
  · exact htaken

end

/-- Settles O27. -/
theorem beltChangesAtSecondEqualSample : Obligations.BeltChangesAtSecondEqualSample := by
  unfold Obligations.BeltChangesAtSecondEqualSample
  refine ⟨⟨rfl, rfl, rfl, rfl⟩, fun b d => ⟨fun h => if_pos h, fun h hp hc => ?_, fun h hn => ?_⟩, fun s p x => ?_, fun s p => ?_⟩
  · rw [BeltRec.debounce, if_neg h, if_pos ⟨hp, hc⟩]
  · rw [BeltRec.debounce, if_neg h, if_neg hn]
  · intro old new taken
    have htaken : s.takeBuckle p x = (s.buckleTaken p x).evaluate p := s.takeBuckle_eq p x
    have hquiet (h : new.belt = old.belt) : s.buckleTaken p x = taken := if_neg (not_not.2 h)
    have hposted (h : new.belt ≠ old.belt) : s.buckleTaken p x =
        taken.post .cabin .beltChanged (p.val + 1) (BitVec.ofNat 16 new.belt.code) := if_pos h
    refine ⟨fun h => by rw [htaken, hquiet h], fun h => by rw [htaken, hposted h], ?_, fun h hroom => ?_,
      fun q hq => (s.takeBuckle_outcome p x).others q hq⟩
    · rw [htaken, State.evaluate_buckle, State.buckleTaken_buckle]
      rfl
    · have hroom' : (taken.port .cabin).queue.length < 16 := hroom
      obtain ⟨n, hn, hkind, hrest⟩ := taken.post_mem .cabin .beltChanged (p.val + 1) (BitVec.ofNat 16 new.belt.code) (.inl hroom')
      refine ⟨n, ?_, hkind, hrest⟩
      rw [htaken, hposted h]
      refine (State.evaluate_received _ p).mem hn fun hother => ?_
      rw [hkind] at hother
      exact hother.1.elim (nomatch ·) (nomatch ·)
  · intro lost
    have hpost : lost.postBelt p = lost.post .cabin .beltChanged (p.val + 1) 0 := by
      rw [State.postBelt_eq, show (lost.pos p).buckle = .cleared by rw [State.pos_modPos, if_pos rfl]; rfl]
      rfl
    rw [← hpost]
    by_cases h : (s.pos p).buckle.belt = .none
    · rw [if_pos h]; exact if_neg (not_not.2 h)
    · rw [if_neg h]; exact if_pos h

end Sys2Proof.Machine

/-! The Occupant Classifier's operations at a position: what a class change, a direct class, a return, a vote and a whole outcome
leave of the position's record, of the suppression decision and of the notice queues (R73 to R86, R107, R108). -/

namespace Sys2Proof.Machine

/-! ## What stays of a position -/

theorem State.KeepsAllBut.refl (s : State) (p : Pos) : s.KeepsAllBut s p := rfl

theorem State.KeepsAllBut.trans {s t u : State} {p : Pos} (h : s.KeepsAllBut t p) (k : t.KeepsAllBut u p) :
    s.KeepsAllBut u p :=
  (congrArg (fun r : PosRec => { r with
    cls := (s.pos p).cls, reminder := (s.pos p).reminder, watched := (s.pos p).watched }) k).trans h

section
variable {s t : State} {p : Pos} (h : s.KeepsAllBut t p)
include h

theorem State.KeepsAllBut.fit : (t.pos p).fit = (s.pos p).fit := (congrArg PosRec.fit h :)
theorem State.KeepsAllBut.childCap : (t.pos p).childCap = (s.pos p).childCap := (congrArg PosRec.childCap h :)
theorem State.KeepsAllBut.beltCap : (t.pos p).beltCap = (s.pos p).beltCap := (congrArg PosRec.beltCap h :)
theorem State.KeepsAllBut.load : (t.pos p).load = (s.pos p).load := (congrArg PosRec.load h :)
theorem State.KeepsAllBut.child : (t.pos p).child = (s.pos p).child := (congrArg PosRec.child h :)
theorem State.KeepsAllBut.buckle : (t.pos p).buckle = (s.pos p).buckle := (congrArg PosRec.buckle h :)
theorem State.KeepsAllBut.injection : (t.pos p).injection = (s.pos p).injection := (congrArg PosRec.injection h :)

/-- The instant class of a sample reads nothing that a class change changes (R74). -/
theorem State.KeepsAllBut.instantClass (pr : Profile) (m : Bool) :
    instantClass pr (t.pos p) m = instantClass pr (s.pos p) m := by
  unfold Machine.instantClass
  rw [h.child, h.childCap, h.load]

end

/-- An operation of the reminder machine keeps all but the reminder. -/
theorem State.ReminderFrame.keepsAllBut {s t : State} {p : Pos} (h : s.ReminderFrame t p) : s.KeepsAllBut t p :=
  (congrArg (fun r : PosRec => { r with
    cls := (s.pos p).cls, reminder := (s.pos p).reminder, watched := (s.pos p).watched }) h.own)

theorem State.ReminderFrame.cls {s t : State} {p : Pos} (h : s.ReminderFrame t p) (q : Pos) :
    (t.pos q).cls = (s.pos q).cls := by
  by_cases hq : q = p
  · subst hq; rw [← h.own]
  · rw [h.others q hq]

theorem State.ReminderFrame.watched {s t : State} {p : Pos} (h : s.ReminderFrame t p) :
    (t.pos p).watched = (s.pos p).watched := by rw [← h.own]

theorem State.OutcomeFrame.config {s t : State} {p : Pos} (h : s.OutcomeFrame t p) : t.config = s.config :=
  (congrArg State.config h.rest :)

theorem State.OutcomeFrame.number {s t : State} {p : Pos} (h : s.OutcomeFrame t p) : t.scanner.number = s.scanner.number :=
  (congrArg (fun u : State => u.scanner.number) h.rest :)

theorem State.OutcomeFrame.hold {s t : State} {p : Pos} (h : s.OutcomeFrame t p) : t.restraint.hold = s.restraint.hold :=
  (congrArg (fun u : State => u.restraint.hold) h.rest :)

/-! ## The decision (R107, R108) -/

theorem State.airbag_congr {s t : State} (h : t.config = s.config) : t.airbag = s.airbag := by
  unfold State.airbag State.entry
  rw [h]

/-- The decision reads the map and the stable class of the airbag position alone (R107). -/
theorem State.decision_congr {s t : State} (hmap : t.config = s.config)
    (hcls : ∀ p, s.airbag = some p → (t.pos p).cls.stable = (s.pos p).cls.stable) : t.decision = s.decision := by
  unfold State.decision
  rw [State.airbag_congr hmap]
  cases h : s.airbag with
  | none => rfl
  | some p =>
    simp only
    rw [hcls p h]

/-- A derivation that finds the decision already held changes nothing. -/
theorem State.deriveSuppression_same {s : State} (h : s.decision = s.restraint.suppression) : s.deriveSuppression = s :=
  if_pos h

/-- A derivation that finds another decision. -/
theorem State.deriveSuppression_differs {s : State} (h : s.decision ≠ s.restraint.suppression) : s.deriveSuppression =
    ({ s with restraint := { s.restraint with
        suppression := s.decision, sequence := s.restraint.sequence + 1, pso := s.decision.line } } : State).post
      .safety .suppressionChanged 0 (oneByte s.decision.code ++ (s.restraint.sequence + 1)) := by
  have hpayload : payloadOf s.decision.code (s.restraint.sequence + 1).toNat =
      oneByte s.decision.code ++ (s.restraint.sequence + 1) := by rw [payloadOf, oneByte_toNat]
  rw [← hpayload]
  exact if_neg h

/-- SUPPRESSION_CHANGED. -/
def DecisionNotice (k : NoticeKind) (n : Nat) : Prop := k = .suppressionChanged ∧ n = 0

theorem State.deriveSuppression_received (s : State) :
    Received DecisionNotice (s.port .safety).queue 1 (s.deriveSuppression.port .safety).queue := by
  by_cases h : s.decision = s.restraint.suppression
  · rw [State.deriveSuppression_same h]; exact .refl 1
  · rw [State.deriveSuppression_differs h]
    exact State.post_received _ .safety _ _ _ .safety fun _ => ⟨rfl, rfl⟩

theorem State.deriveSuppression_positions (s : State) : s.deriveSuppression.positions = s.positions := by
  unfold State.deriveSuppression
  simp only
  split <;> rfl

theorem State.deriveSuppression_pos (s : State) (q : Pos) : s.deriveSuppression.pos q = s.pos q := by
  rw [State.pos, s.deriveSuppression_positions, State.pos]

theorem State.deriveSuppression_port (s : State) {q : Port} (hq : q ≠ .safety) :
    s.deriveSuppression.port q = s.port q := by
  by_cases h : s.decision = s.restraint.suppression
  · rw [State.deriveSuppression_same h]
  · rw [State.deriveSuppression_differs h, State.post_port_other _ _ _ _ _ hq]
    rfl

/-- A derivation, in a state with the map and classes of t (R108, R109). -/
theorem State.deriveSuppression_derived (s : State) : s.Derived s.deriveSuppression := by
  have hdecision := s.deriveSuppression_decision
  refine ⟨by rw [hdecision, State.deriveSuppression_suppression], fun h => ?_, fun h => ?_⟩
  · rw [hdecision] at h ⊢
    rw [State.deriveSuppression_differs h]
    refine ⟨rfl, ?_⟩
    show s.decision.line = _
    cases s.decision <;> rfl
  · rw [hdecision] at h
    rw [State.deriveSuppression_same h]
    exact ⟨rfl, rfl, rfl⟩

/-- A changed decision stands in the safety queue, where that has room (R108). -/
theorem State.deriveSuppression_tells {s : State} (hroom : (s.port .safety).queue.length < 16) :
    s.TellsDecision s.deriveSuppression := by
  intro h
  rw [State.deriveSuppression_decision] at h
  obtain ⟨n, hn, hkind, hsubject, hpayload, hscan⟩ := State.post_mem
    ({ s with restraint := { s.restraint with
        suppression := s.decision, sequence := s.restraint.sequence + 1, pso := s.decision.line } } : State)
    .safety .suppressionChanged 0 (oneByte s.decision.code ++ (s.restraint.sequence + 1)) (.inl hroom)
  refine ⟨n, ?_, hkind, hsubject, hpayload.trans ?_, hscan⟩
  · rw [State.deriveSuppression_differs h]; exact hn
  · rw [State.deriveSuppression_decision, (s.deriveSuppression_derived.differs
      (by rw [State.deriveSuppression_decision]; exact h)).1]
    cases s.decision <;> rfl

/-! ## What an operation of the Classifier leaves of a position, the decision and the queues -/

/-- CLASS_CHANGED of a position. -/
def ClassNotice (p : Pos) (k : NoticeKind) (n : Nat) : Prop := k = .classChanged ∧ n = posNumber p

/-- A notice of a class change at a position: CLASS_CHANGED of it, or SUPPRESSION_CHANGED. -/
def SafetyNotice (p : Pos) (k : NoticeKind) (n : Nat) : Prop := ClassNotice p k n ∨ DecisionNotice k n

/-- A notice of a class change at a position to the cabin port: CLASS_CHANGED of it, or one of its reminder. -/
def CabinNotice (p : Pos) (k : NoticeKind) (n : Nat) : Prop := ClassNotice p k n ∨ ReminderNotice p k n

/-- A port's queue has room for a notice of a kind and subject: fewer than 16 notices, or that one. -/
def State.HasRoom (s : State) (port : Port) (k : NoticeKind) (n : Nat) : Prop :=
  (s.port port).queue.length < 16 ∨ ∃ m ∈ (s.port port).queue, m.kind = k ∧ m.subject = n

/-- A notice stands in a port's queue with a payload and the scan number. -/
def State.Tells (s : State) (port : Port) (k : NoticeKind) (n : Nat) (v : Half) : Prop :=
  ∃ m ∈ (s.port port).queue, m.kind = k ∧ m.subject = n ∧ m.payload = v ∧ m.scan = s.scanner.number

theorem State.post_tells {s : State} {port : Port} {k : NoticeKind} {n : Nat} (v : Half) (h : s.HasRoom port k n) :
    (s.post port k n v).Tells port k n v := s.post_mem port k n v h

/-- Posts about others leave a notice. -/
theorem State.Tells.mono {s t : State} {port : Port} {k : NoticeKind} {n m : Nat} {v : Half} {About : NoticeKind → Nat → Prop}
    (h : s.Tells port k n v) (hposts : Received About (s.port port).queue m (t.port port).queue) (hother : ¬ About k n)
    (hscan : t.scanner.number = s.scanner.number) : t.Tells port k n v := by
  obtain ⟨x, hx, hkind, hsubject, hpayload, hxscan⟩ := h
  exact ⟨x, hposts.mem hx (by rwa [hkind, hsubject]), hkind, hsubject, hpayload, hxscan.trans hscan.symm⟩

theorem State.Tells.hasRoom {s : State} {port : Port} {k : NoticeKind} {n : Nat} {v : Half} (h : s.Tells port k n v) :
    s.HasRoom port k n := by
  obtain ⟨x, hx, hkind, hsubject, -⟩ := h
  exact .inr ⟨x, hx, hkind, hsubject⟩

/-- The safety port has been told of the class of a position as it stands (R86). -/
def State.ClassTold (s : State) (p : Pos) : Prop := s.Tells .safety .classChanged (posNumber p) (s.pos p).cls.payload

/-- Two class records have one class, cause and sequence. -/
def ClassRec.Same (c d : ClassRec) : Prop := c.stable = d.stable ∧ c.cause = d.cause ∧ c.sequence = d.sequence

theorem ClassRec.Same.payload {c d : ClassRec} (h : c.Same d) : c.payload = d.payload := by
  obtain ⟨hstable, hcause, hsequence⟩ := h
  rw [ClassRec.payload, ClassRec.payload, hstable, hcause, hsequence]

/-- From s to t the class of a position stayed, with the safety queue, or is told where that had room. -/
def State.ClassWord (s t : State) (p : Pos) : Prop :=
  ((t.pos p).cls.Same (s.pos p).cls ∧ (t.port .safety).queue = (s.port .safety).queue) ∨
    (s.HasRoom .safety .classChanged (posNumber p) → t.ClassTold p)

/-- From s to t the sequence of a position's class stayed, with the safety queue, or its class is told where that had room. -/
def State.ClassHeard (s t : State) (p : Pos) : Prop :=
  ((t.pos p).cls.sequence = (s.pos p).cls.sequence ∧ (t.port .safety).queue = (s.port .safety).queue) ∨
    (s.HasRoom .safety .classChanged (posNumber p) → t.ClassTold p)

/-- What an operation of the Classifier at a position leaves (R80 to R84). `derive` says whether it derives the decision. -/
structure State.Classifies (derive : Bool) (s t : State) (p : Pos) : Prop where
  frame : s.OutcomeFrame t p
  keeps : s.KeepsAllBut t p
  capture : t.capture = s.capture
  staging : t.staging = s.staging
  service : t.port .service = s.port .service
  safety : ∃ n, Received (SafetyNotice p) (s.port .safety).queue n (t.port .safety).queue
  cabin : ∃ n, Received (CabinNotice p) (s.port .cabin).queue n (t.port .cabin).queue
  decided : derive = true → s.restraint.suppression = s.decision → t.restraint.suppression = t.decision
  undecided : derive = false → t.restraint = s.restraint

section
variable {d : Bool} {s t u : State} {p : Pos}

theorem State.ClassWord.refl (s : State) (p : Pos) : s.ClassWord s p := .inl ⟨⟨rfl, rfl, rfl⟩, rfl⟩

theorem State.ClassWord.heard (h : s.ClassWord t p) : s.ClassHeard t p := h.imp_left fun h => ⟨h.1.2.2, h.2⟩

/-- What stayed, or was told, goes on to be told. -/
theorem State.ClassWord.after {A B : Prop}
    (h : (A ∧ (t.port .safety).queue = (s.port .safety).queue) ∨ (s.HasRoom .safety .classChanged (posNumber p) → t.ClassTold p))
    (k : t.ClassWord u p) (hscan : u.scanner.number = t.scanner.number) (hkeep : A → (u.pos p).cls.Same (t.pos p).cls → B) :
    (B ∧ (u.port .safety).queue = (s.port .safety).queue) ∨
      (s.HasRoom .safety .classChanged (posNumber p) → u.ClassTold p) := by
  rcases k with ⟨hsame, hqueue⟩ | k
  · rcases h with ⟨ha, hqueue'⟩ | h
    · exact .inl ⟨hkeep ha hsame, hqueue.trans hqueue'⟩
    · refine .inr fun hroom => ?_
      rw [State.ClassTold, hsame.payload]
      exact (h hroom).mono (.of_eq (About := fun _ _ => False) (n := 0) hqueue) id hscan
  · refine .inr fun hroom => k ?_
    rcases h with ⟨-, hqueue⟩ | h
    · unfold State.HasRoom
      rw [hqueue]
      exact hroom
    · exact (h hroom).hasRoom

theorem State.ClassWord.trans (h : s.ClassWord t p) (k : t.ClassWord u p)
    (hscan : u.scanner.number = t.scanner.number) : s.ClassWord u p :=
  k.after h hscan fun h k => ⟨k.1.trans h.1, k.2.1.trans h.2.1, k.2.2.trans h.2.2⟩

theorem State.ClassHeard.trans (h : s.ClassHeard t p) (k : t.ClassWord u p)
    (hscan : u.scanner.number = t.scanner.number) : s.ClassHeard u p := k.after h hscan fun h k => k.2.2.trans h

theorem State.Classifies.trans (h : s.Classifies d t p) (k : t.Classifies d u p) : s.Classifies d u p where
  frame := h.frame.trans k.frame
  keeps := h.keeps.trans k.keeps
  capture := k.capture.trans h.capture
  staging := k.staging.trans h.staging
  service := k.service.trans h.service
  safety := by
    obtain ⟨n, hn⟩ := h.safety
    obtain ⟨m, hm⟩ := k.safety
    exact ⟨_, hn.trans hm⟩
  cabin := by
    obtain ⟨n, hn⟩ := h.cabin
    obtain ⟨m, hm⟩ := k.cabin
    exact ⟨_, hn.trans hm⟩
  decided hd := k.decided hd ∘ h.decided hd
  undecided hd := (k.undecided hd).trans (h.undecided hd)

theorem State.Classifies.refl (d : Bool) (s : State) (p : Pos) : s.Classifies d s p where
  frame := .refl s p
  keeps := .refl s p
  capture := rfl
  staging := rfl
  service := rfl
  safety := ⟨0, .refl 0⟩
  cabin := ⟨0, .refl 0⟩
  decided _ := id
  undecided _ := rfl

theorem State.Classifies.ite {c : Prop} [Decidable c] (h : s.Classifies d t p) (k : s.Classifies d u p) :
    s.Classifies d (if c then t else u) p := by
  split
  · exact h
  · exact k

end

/-- A change of what a class record holds beside class, cause and sequence. -/
theorem State.modCls_classifies (d : Bool) (s : State) (p : Pos) (f : ClassRec → ClassRec)
    (hf : (f (s.pos p).cls).Same (s.pos p).cls) :
    s.Classifies d (s.modPos p fun r => { r with cls := f r.cls }) p where
  frame := s.modPos_outcome p _
  keeps := by rw [State.KeepsAllBut, State.pos_modPos, if_pos rfl]
  capture := rfl
  staging := rfl
  service := rfl
  safety := ⟨0, .refl 0⟩
  cabin := ⟨0, .refl 0⟩
  decided _ h := by
    refine h.trans (Eq.symm (State.decision_congr rfl fun q _ => ?_))
    rw [State.pos_modPos]
    split
    · subst q; exact hf.1
    · rfl
  undecided _ := rfl

theorem State.modCls_word (s : State) (p : Pos) (f : ClassRec → ClassRec) (hf : (f (s.pos p).cls).Same (s.pos p).cls) :
    s.ClassWord (s.modPos p fun r => { r with cls := f r.cls }) p :=
  .inl ⟨by rwa [State.pos_modPos, if_pos rfl], rfl⟩

theorem State.wake_positions (s : State) : s.wake.positions = s.positions := by unfold State.wake; split <;> rfl

theorem State.wake_ports (s : State) : s.wake.ports = s.ports := by unfold State.wake; split <;> rfl

theorem State.wake_pos (s : State) (q : Pos) : s.wake.pos q = s.pos q := by rw [State.pos, s.wake_positions, State.pos]

theorem State.wake_port (s : State) (q : Port) : s.wake.port q = s.port q := by rw [State.port, s.wake_ports, State.port]

/-- A wake changes no position and no port. -/
theorem State.wake_classifies (d : Bool) (s : State) (p : Pos) : s.Classifies d s.wake p := by
  have hcapture : s.wake.capture = s.capture := by unfold State.wake; split <;> rfl
  have hstaging : s.wake.staging = s.staging := by unfold State.wake; split <;> rfl
  have hrestraint : s.wake.restraint = s.restraint := by unfold State.wake; split <;> rfl
  have hconfig := (s.wake_outcome p).config
  exact {
    frame := s.wake_outcome p
    keeps := by rw [State.KeepsAllBut, State.wake_pos]
    capture := hcapture
    staging := hstaging
    service := s.wake_port _
    safety := ⟨0, .of_eq (by rw [State.wake_port])⟩
    cabin := ⟨0, .of_eq (by rw [State.wake_port])⟩
    decided := fun _ h => by
      rw [hrestraint, h, State.decision_congr hconfig fun q _ => by rw [State.wake_pos]]
    undecided := fun _ => hrestraint }

/-! ## A class change (R80) -/

/-- A class record that has been changed to a class and cause. -/
def ClassRec.changed (c : ClassRec) (cls : OccClass) (cause : FaultCause) : ClassRec :=
  { c with stable := cls, cause := cause, candidate := cls, agreement := 0, sequence := c.sequence + 1 }

/-- Steps (1) to (3) of R80 with the class change: the record and its sequence, the notices, the evaluation. -/
def State.classRaised (s : State) (p : Pos) (cls : OccClass) (cause : FaultCause) : State :=
  ((s.modPos p fun r => { r with cls := r.cls.changed cls cause }).postClass p).evaluate p

/-- Step (4) of R80, where it is taken. -/
def State.derivedAt (derive : Bool) (p : Pos) (s : State) : State :=
  if derive ∧ s.airbag = some p then s.deriveSuppression else s

theorem State.changeClass_eq (derive : Bool) (cls : OccClass) (cause : FaultCause) (p : Pos) (s : State) :
    s.changeClass derive cls cause p = (((s.classRaised p cls cause).derivedAt derive p).markWatched p).restartEco := by
  unfold State.changeClass State.classEffects State.classRaised State.derivedAt
  simp only
  rw [State.modPos_modPos]
  rfl

section
variable (s : State) (p : Pos) (cls : OccClass) (cause : FaultCause)

/-- The record and its sequence, and the two notices, before the evaluation. -/
def State.classPosted : State := (s.modPos p fun r => { r with cls := r.cls.changed cls cause }).postClass p

theorem State.classRaised_frame : (s.classPosted p cls cause).ReminderFrame (s.classRaised p cls cause) p :=
  State.evaluate_frame _ p

theorem State.classPosted_pos : (s.classPosted p cls cause).pos p = { s.pos p with cls := (s.pos p).cls.changed cls cause } := by
  show (s.modPos p fun r => { r with cls := r.cls.changed cls cause }).pos p = _
  rw [State.pos_modPos, if_pos rfl]

theorem State.classRaised_cls : ((s.classRaised p cls cause).pos p).cls = (s.pos p).cls.changed cls cause := by
  rw [(s.classRaised_frame p cls cause).cls, s.classPosted_pos]

theorem State.classRaised_keeps : s.KeepsAllBut (s.classRaised p cls cause) p := by
  refine State.KeepsAllBut.trans (t := s.classPosted p cls cause) ?_ (s.classRaised_frame p cls cause).keepsAllBut
  rw [State.KeepsAllBut, s.classPosted_pos]

theorem State.classRaised_watched : ((s.classRaised p cls cause).pos p).watched = (s.pos p).watched := by
  rw [(s.classRaised_frame p cls cause).watched, s.classPosted_pos]

theorem State.classRaised_outcome : s.OutcomeFrame (s.classRaised p cls cause) p :=
  (s.modPos_outcome p _).trans ((State.postClass_outcome _ p).trans (State.evaluate_frame _ p).outcome)

theorem State.classRaised_port {q : Port} (hq : q ≠ .cabin) :
    (s.classRaised p cls cause).port q = (s.classPosted p cls cause).port q :=
  State.port_of_reminderBack (s.classRaised_frame p cls cause).rest hq

theorem State.classPosted_port {q : Port} (hq : q ≠ .cabin) : (s.classPosted p cls cause).port q =
    ((s.modPos p fun r => { r with cls := r.cls.changed cls cause }).post .safety .classChanged (posNumber p)
      ((s.pos p).cls.changed cls cause).payload).port q := by
  have hpayload : ((s.modPos p fun r => { r with cls := r.cls.changed cls cause }).pos p).cls.payload =
      ((s.pos p).cls.changed cls cause).payload := by rw [State.pos_modPos, if_pos rfl]
  rw [State.classPosted, State.postClass, State.post_port_other _ _ _ _ _ hq, hpayload]

theorem State.classRaised_restraint : (s.classRaised p cls cause).restraint = s.restraint :=
  (congrArg State.restraint (s.classRaised_frame p cls cause).rest :)

theorem State.classRaised_told (h : s.HasRoom .safety .classChanged (posNumber p)) : (s.classRaised p cls cause).ClassTold p := by
  have hposted := State.post_tells (s := s.modPos p fun r => { r with cls := r.cls.changed cls cause })
    (((s.pos p).cls.changed cls cause).payload) h
  rw [State.ClassTold, s.classRaised_cls]
  refine hposted.mono (m := 0) (About := fun _ _ => False) (.of_eq ?_) id (s.classRaised_outcome p cls cause).number
  rw [s.classRaised_port p cls cause (by decide), s.classPosted_port p cls cause (by decide)]

theorem State.classRaised_safety :
    Received (ClassNotice p) (s.port .safety).queue 1 ((s.classRaised p cls cause).port .safety).queue := by
  rw [s.classRaised_port p cls cause (by decide), s.classPosted_port p cls cause (by decide)]
  exact State.post_received _ .safety _ _ _ .safety fun _ => ⟨rfl, rfl⟩

theorem State.classPosted_cabin :
    Received (ClassNotice p) (s.port .cabin).queue 1 ((s.classPosted p cls cause).port .cabin).queue := by
  have h := State.post_received
    ((s.modPos p fun r => { r with cls := r.cls.changed cls cause }).post .safety .classChanged (posNumber p)
      ((s.modPos p fun r => { r with cls := r.cls.changed cls cause }).pos p).cls.payload) .cabin .classChanged (posNumber p)
    ((s.modPos p fun r => { r with cls := r.cls.changed cls cause }).pos p).cls.payload .cabin
    (About := ClassNotice p) (fun _ => ⟨rfl, rfl⟩)
  rwa [State.post_port_other _ _ _ _ _ (by decide : Port.cabin ≠ .safety)] at h

theorem State.classRaised_cabinTold (h : s.HasRoom .cabin .classChanged (posNumber p)) :
    (s.classRaised p cls cause).Tells .cabin .classChanged (posNumber p) ((s.pos p).cls.changed cls cause).payload := by
  have hpayload : ((s.modPos p fun r => { r with cls := r.cls.changed cls cause }).pos p).cls.payload =
      ((s.pos p).cls.changed cls cause).payload := by rw [State.pos_modPos, if_pos rfl]
  have hroom : ((s.modPos p fun r => { r with cls := r.cls.changed cls cause }).post .safety .classChanged (posNumber p)
      ((s.pos p).cls.changed cls cause).payload).HasRoom .cabin .classChanged (posNumber p) := by
    unfold State.HasRoom
    rw [State.post_port_other _ _ _ _ _ (by decide : Port.cabin ≠ .safety)]
    exact h
  have hposted : (s.classPosted p cls cause).Tells .cabin .classChanged (posNumber p) ((s.pos p).cls.changed cls cause).payload := by
    have := State.post_tells ((s.pos p).cls.changed cls cause).payload hroom
    rw [State.classPosted, State.postClass, hpayload]
    exact this
  obtain ⟨n, hn⟩ : ∃ n, Received (ReminderNotice p) ((s.classPosted p cls cause).port .cabin).queue n
      ((s.classRaised p cls cause).port .cabin).queue := ⟨_, State.evaluate_received _ p⟩
  exact hposted.mono hn (fun h => by rcases h.1 with h | h <;> cases h) (s.classRaised_frame p cls cause).outcome.number

end

/-! ## The steps that follow: the derivation, the watched flag, the countdown (R80, R126) -/

section
variable (d : Bool) (s : State) (p : Pos)

theorem State.derivedAt_pos (q : Pos) : (s.derivedAt d p).pos q = s.pos q := by
  unfold State.derivedAt
  split
  · exact s.deriveSuppression_pos q
  · rfl

theorem State.derivedAt_outcome : s.OutcomeFrame (s.derivedAt d p) p :=
  .ite (s.deriveSuppression_outcome p) (.refl s p)

theorem State.derivedAt_port {q : Port} (hq : q ≠ .safety) : (s.derivedAt d p).port q = s.port q := by
  unfold State.derivedAt
  split
  · exact s.deriveSuppression_port hq
  · rfl

theorem State.derivedAt_received :
    Received DecisionNotice (s.port .safety).queue 1 ((s.derivedAt d p).port .safety).queue := by
  unfold State.derivedAt
  split
  · exact s.deriveSuppression_received
  · exact .refl 1

theorem State.restartEco_pos (q : Pos) : s.restartEco.pos q = s.pos q := rfl

/-- The steps after the derivation leave the ports, the decision and every record but the watched flag. -/
def State.classMarked : State := (s.markWatched p).restartEco

theorem State.classMarked_eq : s.classMarked p = (s.modPos p fun r => { r with
    watched := r.watched || (s.watching && (s.pos p).cls.stable.leftBehind) }).restartEco := by
  unfold State.classMarked State.markWatched
  cases h : s.watching && (s.pos p).cls.stable.leftBehind with
  | true => simp
  | false => simp [State.modPos_eq_self]

theorem State.classMarked_pos : (s.classMarked p).pos p = { s.pos p with
    watched := (s.pos p).watched || (s.watching && (s.pos p).cls.stable.leftBehind) } := by
  rw [State.classMarked_eq]
  rw [State.restartEco_pos, State.pos_modPos, if_pos rfl]

theorem State.classMarked_cls (q : Pos) : ((s.classMarked p).pos q).cls = (s.pos q).cls := by
  rw [State.classMarked_eq]
  rw [State.restartEco_pos, State.pos_modPos]
  split
  · subst q; rfl
  · rfl

theorem State.classMarked_outcome : s.OutcomeFrame (s.classMarked p) p :=
  (s.markWatched_outcome p).trans (State.restartEco_outcome _ p)

theorem State.classMarked_port (q : Port) : (s.classMarked p).port q = s.port q := by rw [State.classMarked_eq]; rfl

theorem State.classMarked_restraint : (s.classMarked p).restraint = s.restraint := by rw [State.classMarked_eq]; rfl

theorem State.classMarked_decision : (s.classMarked p).decision = s.decision :=
  State.decision_congr (s.classMarked_outcome p).config fun q _ => by rw [State.classMarked_cls]

theorem State.changeClass_marked (cls : OccClass) (cause : FaultCause) :
    s.changeClass d cls cause p = ((s.classRaised p cls cause).derivedAt d p).classMarked p := s.changeClass_eq d cls cause p

end

/-! ## A class change as a whole -/

section
variable (d : Bool) (s : State) (p : Pos) (cls : OccClass) (cause : FaultCause)

theorem State.changeClass_pos : (s.changeClass d cls cause p).pos p = { (s.classRaised p cls cause).pos p with
    watched := (s.pos p).watched || (s.watching && cls.leftBehind) } := by
  have hwatching : ((s.classRaised p cls cause).derivedAt d p).watching = s.watching := by
    have h := congrArg (fun u : State => u.vehicle.watch) ((s.classRaised_outcome p cls cause).trans
      (State.derivedAt_outcome d (s.classRaised p cls cause) p)).rest
    exact congrArg Option.isSome h
  rw [State.changeClass_marked, State.classMarked_pos, State.derivedAt_pos, hwatching, s.classRaised_watched, s.classRaised_cls]
  rfl

theorem State.changeClass_cls : ((s.changeClass d cls cause p).pos p).cls = (s.pos p).cls.changed cls cause := by
  rw [State.changeClass_pos, s.classRaised_cls]

theorem State.changeClass_keeps : s.KeepsAllBut (s.changeClass d cls cause p) p := by
  refine (s.classRaised_keeps p cls cause).trans ?_
  rw [State.KeepsAllBut, State.changeClass_pos]

theorem State.changeClass_port {q : Port} (hq : q ≠ .safety) :
    (s.changeClass d cls cause p).port q = (s.classRaised p cls cause).port q := by
  rw [State.changeClass_marked, State.classMarked_port, State.derivedAt_port _ _ _ hq]

theorem State.changeClass_safety : Received DecisionNotice ((s.classRaised p cls cause).port .safety).queue 1
    ((s.changeClass d cls cause p).port .safety).queue := by
  rw [State.changeClass_marked, State.classMarked_port]
  exact State.derivedAt_received d _ p

theorem State.changeClass_told (h : s.HasRoom .safety .classChanged (posNumber p)) : (s.changeClass d cls cause p).ClassTold p := by
  have htold := s.classRaised_told p cls cause h
  unfold State.ClassTold at htold ⊢
  rw [s.classRaised_cls] at htold
  rw [State.changeClass_cls]
  refine htold.mono (s.changeClass_safety d p cls cause) (fun h => by cases h.1) ?_
  exact (s.changeClass_outcome d cls cause p).number.trans (s.classRaised_outcome p cls cause).number.symm

/-- A class change that derives, derives from the changed class at the airbag position, and leaves the decision at another. -/
theorem State.changeClass_decided (h : s.restraint.suppression = s.decision) :
    (s.changeClass true cls cause p).restraint.suppression = (s.changeClass true cls cause p).decision := by
  rw [State.changeClass_marked, State.classMarked_restraint, State.classMarked_decision]
  have houtcome := s.classRaised_outcome p cls cause
  have hairbag : (s.classRaised p cls cause).airbag = s.airbag := State.airbag_congr houtcome.config
  unfold State.derivedAt
  split
  · rw [State.deriveSuppression_suppression, State.deriveSuppression_decision]
  · next hnot =>
    rw [s.classRaised_restraint, h]
    refine Eq.symm (State.decision_congr houtcome.config fun q hq => ?_)
    have hne : q ≠ p := fun h => hnot ⟨rfl, by rw [hairbag, hq, h]⟩
    rw [houtcome.others q hne]

theorem State.changeClass_undecided : (s.changeClass false cls cause p).restraint = s.restraint := by
  rw [State.changeClass_marked, State.classMarked_restraint]
  unfold State.derivedAt
  rw [if_neg (by simp), s.classRaised_restraint]

theorem State.changeClass_word : s.ClassWord (s.changeClass d cls cause p) p := .inr (s.changeClass_told d p cls cause)

/-- What a class change leaves of its position, the decision and the queues (R80). -/
theorem State.changeClass_classifies : s.Classifies d (s.changeClass d cls cause p) p where
  frame := s.changeClass_outcome d cls cause p
  keeps := s.changeClass_keeps d p cls cause
  capture := by
    have h : ((s.classRaised p cls cause).derivedAt d p).capture = (s.classRaised p cls cause).capture := by
      unfold State.derivedAt State.deriveSuppression
      simp only
      split <;> [skip; rfl]
      split <;> rfl
    rw [State.changeClass_marked, State.classMarked_eq]
    exact h.trans (congrArg State.capture (s.classRaised_frame p cls cause).rest :)
  staging := by
    have h : ((s.classRaised p cls cause).derivedAt d p).staging = (s.classRaised p cls cause).staging := by
      unfold State.derivedAt State.deriveSuppression
      simp only
      split <;> [skip; rfl]
      split <;> rfl
    rw [State.changeClass_marked, State.classMarked_eq]
    exact h.trans (congrArg State.staging (s.classRaised_frame p cls cause).rest :)
  service := by
    rw [State.changeClass_port _ _ _ _ _ (by decide), s.classRaised_port p cls cause (by decide),
      s.classPosted_port p cls cause (by decide), State.post_port_other _ _ _ _ _ (by decide)]
    rfl
  safety := ⟨_, ((s.classRaised_safety p cls cause).mono (fun _ _ => .inl) le_rfl).trans
    ((s.changeClass_safety d p cls cause).mono (fun _ _ => .inr) le_rfl)⟩
  cabin := ⟨6, by
    rw [State.changeClass_port _ _ _ _ _ (by decide)]
    exact ((s.classPosted_cabin p cls cause).mono (fun _ _ => .inl) le_rfl).trans
      ((State.evaluate_received _ p).mono (fun _ _ => .inr) le_rfl)⟩
  decided hd := by subst hd; exact s.changeClass_decided p cls cause
  undecided hd := by subst hd; exact s.changeClass_undecided p cls cause

end

end Sys2Proof.Machine

/-! Direct classes, the return to UNRESOLVED, votes and a whole outcome at a position: the class record after each, and what it
leaves of the rest (R73, R77 to R84). -/

namespace Sys2Proof.Machine

section
variable (d : Bool) (s : State) (p : Pos)

/-! ## A direct class (R81) -/

/-- The resolve mark is cleared. -/
def State.markCleared : State := s.modPos p fun r => { r with cls := { r.cls with resolveMark := false } }

theorem State.markCleared_cls : ((s.markCleared p).pos p).cls = { (s.pos p).cls with resolveMark := false } := by
  rw [State.markCleared, State.pos_modPos, if_pos rfl]

theorem State.markCleared_classifies : s.Classifies d (s.markCleared p) p :=
  s.modCls_classifies d p (fun c => { c with resolveMark := false }) ⟨rfl, rfl, rfl⟩

theorem State.markCleared_word : s.ClassWord (s.markCleared p) p :=
  s.modCls_word p (fun c => { c with resolveMark := false }) ⟨rfl, rfl, rfl⟩

theorem State.applyDirect_eq (x : Direct) : s.applyDirect d x p =
    if (s.pos p).cls.stable = x.cls ∧ (s.pos p).cls.cause = x.cause then s.markCleared p
    else (s.markCleared p).changeClass d x.cls x.cause p := by
  have h := s.markCleared_cls p
  unfold State.markCleared at h ⊢
  unfold State.applyDirect
  simp only [h]

theorem State.applyDirect_classifies (x : Direct) : s.Classifies d (s.applyDirect d x p) p := by
  rw [State.applyDirect_eq]
  exact .ite (s.markCleared_classifies d p) ((s.markCleared_classifies d p).trans (State.changeClass_classifies d _ p _ _))

theorem State.applyDirect_word (x : Direct) : s.ClassWord (s.applyDirect d x p) p := by
  rw [State.applyDirect_eq]
  split
  · exact s.markCleared_word p
  · exact (s.markCleared_word p).trans (State.changeClass_word d _ p _ _) (State.changeClass_outcome _ d _ _ p).number

theorem State.applyDirect_cls (x : Direct) :
    ((s.applyDirect d x p).pos p).cls = (s.pos p).cls.directed x.cls x.cause := by
  rw [State.applyDirect_eq, ClassRec.directed]
  split
  · exact s.markCleared_cls p
  · rw [State.changeClass_cls, s.markCleared_cls]
    rfl

/-! ## The return to UNRESOLVED (R82) -/

/-- The return of a position that is UNRESOLVED already. -/
def State.settledUnresolved : State := s.modPos p fun r => { r with cls := r.cls.settle .unresolved .none }

theorem State.returnUnresolved_eq : s.returnUnresolved d p =
    if (s.pos p).cls.stable = .unresolved then (s.markCleared p).settledUnresolved p
    else (s.markCleared p).changeClass d .unresolved .none p := rfl

theorem State.returnUnresolved_cls : ((s.returnUnresolved d p).pos p).cls = (s.pos p).cls.returned := by
  rw [State.returnUnresolved_eq, ClassRec.returned]
  split
  · rw [State.settledUnresolved, State.pos_modPos, if_pos rfl]
    show ((s.markCleared p).pos p).cls.settle .unresolved .none = _
    rw [s.markCleared_cls]
    rfl
  · rw [State.changeClass_cls, s.markCleared_cls]
    rfl

/-- A position that stays UNRESOLVED keeps the decision and everything else. -/
theorem State.settledUnresolved_classifies (h : (s.pos p).cls.stable = .unresolved) :
    s.Classifies d (s.settledUnresolved p) p where
  frame := s.modPos_outcome p _
  keeps := by rw [State.KeepsAllBut, State.settledUnresolved, State.pos_modPos, if_pos rfl]
  capture := rfl
  staging := rfl
  service := rfl
  safety := ⟨0, .refl 0⟩
  cabin := ⟨0, .refl 0⟩
  decided _ hdecision := by
    refine hdecision.trans (Eq.symm (State.decision_congr rfl fun q _ => ?_))
    rw [State.settledUnresolved, State.pos_modPos]
    split
    · subst q; exact h.symm
    · rfl
  undecided _ := rfl

theorem State.returnUnresolved_classifies : s.Classifies d (s.returnUnresolved d p) p := by
  rw [State.returnUnresolved_eq]
  split
  · next h =>
    exact (s.markCleared_classifies d p).trans (State.settledUnresolved_classifies d _ p (by rw [s.markCleared_cls]; exact h))
  · exact (s.markCleared_classifies d p).trans (State.changeClass_classifies d _ p _ _)

theorem State.returnUnresolved_heard : s.ClassHeard (s.returnUnresolved d p) p := by
  have hword := s.markCleared_word p
  rw [State.returnUnresolved_eq]
  split
  · refine .inl ⟨?_, rfl⟩
    rw [State.settledUnresolved, State.pos_modPos, if_pos rfl]
    show ((s.markCleared p).pos p).cls.sequence = _
    rw [s.markCleared_cls]
  · exact hword.heard.trans (State.changeClass_word d _ p _ _) (State.changeClass_outcome _ d _ _ p).number

/-! ## Votes (R74, R77, R79) -/

theorem ClassRec.stands_iff (c : ClassRec) (pr : Profile) :
    c.stands pr = true ↔ c.candidate ≠ c.stable ∧ c.required pr ≤ c.agreement := by simp [ClassRec.stands]

theorem State.completeVote_classifies : s.Classifies true (s.completeVote p) p := by
  unfold State.completeVote
  exact .ite (s.changeClass_classifies true p _ _) (.refl true s p)

theorem State.completeVote_word : s.ClassWord (s.completeVote p) p := by
  unfold State.completeVote
  simp only
  split
  · exact s.changeClass_word true p _ _
  · exact .refl s p

theorem State.completeVote_cls : ((s.completeVote p).pos p).cls = (s.pos p).cls.completed (s.profileOf p) := by
  unfold State.completeVote ClassRec.completed
  simp only [ClassRec.stands_iff]
  split
  · exact s.changeClass_cls true p _ _
  · rfl

/-- The profile of a position reads the configuration alone. -/
theorem State.profileOf_congr {s t : State} (h : t.config = s.config) (p : Pos) : t.profileOf p = s.profileOf p := by
  unfold State.profileOf State.entry
  rw [h]

theorem ClassRec.vote_same (c : ClassRec) (i : OccClass) : (c.vote i).Same c := by
  unfold ClassRec.vote
  split
  · exact ⟨rfl, rfl, rfl⟩
  split
  · exact ⟨rfl, rfl, rfl⟩
  split <;> exact ⟨rfl, rfl, rfl⟩

/-- The stored instant class, and the wake that it may ask for. -/
def State.instantStored (s : State) (i : OccClass) (p : Pos) : State :=
  let t := s.modPos p fun r => { r with cls := { r.cls with lastInstant := i } }
  if i ≠ (t.pos p).cls.stable then t.wake else t

theorem State.takeInstant_eq (m : Bool) : s.takeInstant m p =
    (s.instantStored (instantClass (s.profileOf p) (s.pos p) m) p).modPos p
      fun r => { r with cls := r.cls.vote (instantClass (s.profileOf p) (s.pos p) m) } := rfl

theorem State.instantStored_pos (i : OccClass) : (s.instantStored i p).pos p =
    { s.pos p with cls := { (s.pos p).cls with lastInstant := i } } := by
  unfold State.instantStored
  extract_lets t
  have h : t.pos p = { s.pos p with cls := { (s.pos p).cls with lastInstant := i } } := by
    rw [State.pos_modPos, if_pos rfl]
  split
  · rw [t.wake_pos, h]
  · exact h

theorem State.instantStored_classifies (i : OccClass) : s.Classifies d (s.instantStored i p) p := by
  have h := s.modCls_classifies d p (fun c => { c with lastInstant := i }) ⟨rfl, rfl, rfl⟩
  unfold State.instantStored
  exact .ite (h.trans (State.wake_classifies d _ p)) h

theorem State.instantStored_safety (i : OccClass) : ((s.instantStored i p).port .safety) = s.port .safety := by
  unfold State.instantStored
  extract_lets t
  split
  · exact t.wake_port _
  · rfl

theorem State.takeInstant_classifies (m : Bool) : s.Classifies d (s.takeInstant m p) p := by
  rw [State.takeInstant_eq]
  exact (s.instantStored_classifies d p _).trans (State.modCls_classifies d _ p (·.vote _) (ClassRec.vote_same _ _))

theorem State.takeInstant_cls (m : Bool) : ((s.takeInstant m p).pos p).cls =
    (s.pos p).cls.counted (instantClass (s.profileOf p) (s.pos p) m) := by
  rw [State.takeInstant_eq, State.pos_modPos, if_pos rfl, s.instantStored_pos]
  rfl

theorem State.takeInstant_word (m : Bool) : s.ClassWord (s.takeInstant m p) p := by
  refine .inl ⟨?_, ?_⟩
  · rw [s.takeInstant_cls]
    exact ClassRec.vote_same _ _
  · rw [State.takeInstant_eq]
    exact congrArg PortState.queue (s.instantStored_safety p _)

end

/-! ## A whole outcome (R73, R84) -/

/-- The return that an outcome of an ONLINE node may ask for, and the standing vote (R73 case 4 steps 1 and 2). -/
def State.standing (s : State) (identified : Bool) (p : Pos) : State :=
  let c := (s.pos p).cls
  (if identified || c.resolveMark || c.underDirect then s.returnUnresolved true p else s).completeVote p

/-- The delivered sample of an outcome, counted and completed (R73 case 4 steps 3 and 4). -/
def State.voted (s : State) (p : Pos) : Option Bool → State
  | none => s
  | some m => (s.takeInstant m p).completeVote p

/-- The delivered sample of an outcome while HOLD is active (R84). -/
def State.votedHeld (s : State) (p : Pos) : Option Bool → State
  | none => s
  | some m => s.takeInstant m p

/-- What an identification leaves while HOLD is active (R84). -/
def State.markedHeld (s : State) (h : Handover) (p : Pos) : State :=
  if h.identified ∧ h.direct = none then s.modPos p fun r => { r with cls := { r.cls with resolveMark := true } } else s

section
variable (s : State) (h : Handover) (p : Pos)

theorem State.classifyHeld_eq : s.classifyHeld h p = (s.markedHeld h p).votedHeld p h.sample := by
  unfold State.classifyHeld State.votedHeld State.markedHeld
  cases h.sample <;> rfl

theorem State.classify_direct {x : Direct} (hd : h.direct = some x) : s.classify h p = s.applyDirect true x p := by
  unfold State.classify
  rw [hd]

theorem State.classify_online (hd : h.direct = none) (hn : h.node = .online) :
    s.classify h p = (s.standing h.identified p).voted p h.sample := by
  cases hx : h.sample <;> simp [State.classify, State.standing, State.voted, hd, hn, hx]

theorem State.classify_offline (hd : h.direct = none) (hn : h.node ≠ .online) : s.classify h p = s := by
  unfold State.classify
  rw [hd]
  cases hnode : h.node with
  | online => exact absurd hnode hn
  | silent | unseen | lost => rfl

variable (identified : Bool) (x : Option Bool)

theorem State.standing_classifies : s.Classifies true (s.standing identified p) p := by
  unfold State.standing
  exact (State.Classifies.ite (s.returnUnresolved_classifies true p) (.refl true s p)).trans (State.completeVote_classifies _ p)

theorem State.voted_classifies : s.Classifies true (s.voted p x) p := by
  cases x with
  | none => exact .refl true s p
  | some m => exact (s.takeInstant_classifies true p m).trans (State.completeVote_classifies _ p)

theorem State.votedHeld_classifies : s.Classifies true (s.votedHeld p x) p := by
  cases x with
  | none => exact .refl true s p
  | some m => exact s.takeInstant_classifies true p m

theorem State.markedHeld_classifies : s.Classifies true (s.markedHeld h p) p :=
  .ite (s.modCls_classifies true p (fun c => { c with resolveMark := true }) ⟨rfl, rfl, rfl⟩) (.refl true s p)

/-- What a whole outcome at a position leaves of the rest (R73, R84). -/
theorem State.takeOutcome_classifies : s.Classifies true (s.takeOutcome h p) p := by
  unfold State.takeOutcome
  split
  · rw [State.classifyHeld_eq]
    exact (s.markedHeld_classifies h p).trans (State.votedHeld_classifies _ p _)
  · cases hd : h.direct with
    | some x =>
      rw [s.classify_direct h p hd]
      exact s.applyDirect_classifies true p x
    | none =>
      by_cases hn : h.node = .online
      · rw [s.classify_online h p hd hn]
        exact (s.standing_classifies p _).trans (State.voted_classifies _ p _)
      · rw [s.classify_offline h p hd hn]
        exact .refl true s p

theorem State.standing_heard : s.ClassHeard (s.standing identified p) p := by
  unfold State.standing
  simp only
  split
  · exact (s.returnUnresolved_heard true p).trans (State.completeVote_word _ p) (State.completeVote_outcome _ p).number
  · exact (s.completeVote_word p).heard

theorem State.voted_word : s.ClassWord (s.voted p x) p := by
  cases x with
  | none => exact .refl s p
  | some m => exact (s.takeInstant_word p m).trans (State.completeVote_word _ p) (State.completeVote_outcome _ p).number

/-- A changed class is told to the safety port after a whole outcome, where that had room (R86). -/
theorem State.takeOutcome_heard : s.ClassHeard (s.takeOutcome h p) p := by
  unfold State.takeOutcome
  split
  · have hmark : s.ClassWord (s.markedHeld h p) p := by
      unfold State.markedHeld
      split
      · exact s.modCls_word p (fun c => { c with resolveMark := true }) ⟨rfl, rfl, rfl⟩
      · exact .refl s p
    rw [State.classifyHeld_eq]
    cases h.sample with
    | none => exact hmark.heard
    | some m =>
      exact (hmark.trans (State.takeInstant_word _ p m) (State.takeInstant_outcome _ m p).number).heard
  · cases hd : h.direct with
    | some x =>
      rw [s.classify_direct h p hd]
      exact (s.applyDirect_word true p x).heard
    | none =>
      by_cases hn : h.node = .online
      · rw [s.classify_online h p hd hn]
        exact (s.standing_heard p _).trans (State.voted_word _ p _) (State.voted_classifies _ p _).frame.number
      · rw [s.classify_offline h p hd hn]
        exact (State.ClassWord.refl s p).heard

/-! ## The class record after an outcome -/

theorem State.standing_cls (hhold : s.holdActive = false) :
    ((s.standing identified p).pos p).cls = s.standingClass p identified := by
  unfold State.standing State.standingClass
  simp only [State.completeVote_cls, hhold, Bool.false_eq_true, if_false, Bool.or_eq_true, or_assoc]
  split
  · rw [s.returnUnresolved_cls, State.profileOf_congr (s.returnUnresolved_classifies true p).frame.config]
  · rfl

theorem State.voted_cls : ((s.voted p x).pos p).cls =
    match x.map (instantClass (s.profileOf p) (s.pos p)) with
    | none => (s.pos p).cls
    | some i => ((s.pos p).cls.counted i).completed (s.profileOf p) := by
  cases x with
  | none => rfl
  | some m =>
    show ((s.takeInstant m p).completeVote p |>.pos p).cls = _
    rw [State.completeVote_cls, s.takeInstant_cls, State.profileOf_congr (s.takeInstant_classifies true p m).frame.config]
    rfl

theorem State.takeOutcome_held (hhold : s.holdActive = true) : s.takeOutcome h p = (s.markedHeld h p).votedHeld p h.sample :=
  (if_pos hhold).trans (s.classifyHeld_eq h p)

theorem State.takeOutcome_free (hhold : s.holdActive = false) : s.takeOutcome h p = s.classify h p :=
  if_neg (by rw [hhold]; exact Bool.false_ne_true)

/-- An outcome that asks for a direct class and delivers nothing (R81, R84). -/
theorem State.takeOutcome_direct {y : Direct} (hd : h.direct = some y) (hx : h.sample = none) :
    ((s.takeOutcome h p).pos p).cls = s.directClass p y.cls y.cause := by
  unfold State.directClass
  cases hhold : s.holdActive with
  | true =>
    rw [s.takeOutcome_held h p hhold, hx, State.markedHeld, hd]
    simp [State.votedHeld]
  | false =>
    rw [s.takeOutcome_free h p hhold, s.classify_direct h p hd, s.applyDirect_cls]
    simp

/-- An outcome of a node that is not ONLINE, with no direct class asked, changes nothing. -/
theorem State.takeOutcome_offline (hd : h.direct = none) (hn : h.node ≠ .online) (hid : h.identified = false)
    (hx : h.sample = none) : s.takeOutcome h p = s := by
  cases hhold : s.holdActive with
  | true =>
    rw [s.takeOutcome_held h p hhold, hx, State.markedHeld, hid]
    simp [State.votedHeld]
  | false => rw [s.takeOutcome_free h p hhold, s.classify_offline h p hd hn]

/-- An outcome of an ONLINE node that asks for no direct class (R73 case 4, R84). -/
theorem State.takeOutcome_online (hd : h.direct = none) (hn : h.node = .online) : ((s.takeOutcome h p).pos p).cls =
    s.onlineClass p h.identified (h.sample.map (instantClass (s.profileOf p) (s.pos p))) := by
  unfold State.onlineClass
  cases hhold : s.holdActive with
  | true =>
    have hmark : ((s.markedHeld h p).pos p).cls = s.standingClass p h.identified := by
      unfold State.markedHeld State.standingClass
      simp only [hd, hhold, and_true]
      split
      · rw [State.pos_modPos, if_pos rfl]; rfl
      · rfl
    have hkeeps := s.markedHeld_classifies h p
    rw [s.takeOutcome_held h p hhold]
    cases h.sample with
    | none => exact hmark
    | some m =>
      show (((s.markedHeld h p).takeInstant m p).pos p).cls = _
      rw [State.takeInstant_cls, hmark, State.profileOf_congr hkeeps.frame.config, hkeeps.keeps.instantClass]
      rfl
  | false =>
    have hkeeps := s.standing_classifies p h.identified
    rw [s.takeOutcome_free h p hhold, s.classify_online h p hd hn, State.voted_cls, s.standing_cls p _ hhold,
      State.profileOf_congr hkeeps.frame.config]
    cases h.sample with
    | none => rfl
    | some m => simp [hkeeps.keeps.instantClass]

end

/-! ## What R33 asks -/

/-- The direct class that a fit with an identified node asks for (R33). -/
def FitState.asks : FitState → Option Direct
  | .misfit => some (.fault .misfit)
  | .noSlot => some (.fault .noSlot)
  | .fits | .unchecked => none

/-- The direct class that a verdict asks for (R33). -/
def Verdict.asks : Verdict → Option Direct
  | .none => Option.none
  | .absent => some .absent
  | .fault => some (.fault .nodeLost)

theorem directAsked_identified {n : NodeRec} (fit : FitState) (h : n.state = .online ∨ n.state = .silent) :
    directAsked n fit = fit.asks := by
  unfold directAsked
  rcases h with h | h <;> rw [h] <;> rfl

theorem directAsked_lost {n : NodeRec} (fit : FitState) (h : n.state = .unseen ∨ n.state = .lost) :
    directAsked n fit = n.verdict.asks := by
  unfold directAsked
  rcases h with h | h <;> rw [h] <;> rfl

theorem ClassRec.payload_eq (c : ClassRec) : c.payload = oneByte (c.stable.code * 16 + c.cause.code) ++ c.sequence := by
  rw [ClassRec.payload, payloadOf, oneByte_toNat]

/-! ## O26 -/

section
variable (s : State) (p : Pos) (cls : OccClass) (cause : FaultCause)

theorem OccClass.leftBehind_iff (c : OccClass) : c.leftBehind = true ↔
    c = .csRf ∨ c = .csFf ∨ c = .csUnspec ∨ c = .booster ∨ c = .small := by cases c <;> decide

/-- The notice of a changed class, to a port that had room (R86). -/
theorem State.changeClass_tells {port : Port} (hport : port = .safety ∨ port = .cabin) (hroom : (s.port port).queue.length < 16) :
    ∃ n ∈ ((s.changeClass true cls cause p).port port).queue, n.kind = .classChanged ∧ n.subject = p.val + 1 ∧
      n.payload = oneByte (cls.code * 16 + cause.code) ++ ((s.pos p).cls.sequence + 1) ∧ n.scan = s.scanner.number := by
  have hnumber := (s.changeClass_outcome true cls cause p).number
  have htells : (s.changeClass true cls cause p).Tells port .classChanged (posNumber p)
      ((s.pos p).cls.changed cls cause).payload := by
    rcases hport with rfl | rfl
    · have h := s.changeClass_told true p cls cause (.inl hroom)
      rwa [State.ClassTold, s.changeClass_cls] at h
    · have h := s.classRaised_cabinTold p cls cause (.inl hroom)
      refine h.mono (About := fun _ _ => False) (m := 0) (.of_eq ?_) id
        (hnumber.trans (s.classRaised_outcome p cls cause).number.symm)
      rw [State.changeClass_port _ _ _ _ _ (by decide)]
  obtain ⟨n, hn, hkind, hsubject, hpayload, hscan⟩ := htells
  exact ⟨n, hn, hkind, hsubject, hpayload.trans (ClassRec.payload_eq _), hscan.trans hnumber⟩

/-- The class change of the airbag position derives the decision. -/
theorem State.changeClass_airbag (h : s.airbag = some p) :
    s.changeClass true cls cause p = (s.classRaised p cls cause).deriveSuppression.classMarked p := by
  have hairbag : (s.classRaised p cls cause).airbag = some p :=
    (State.airbag_congr (s.classRaised_outcome p cls cause).config).trans h
  rw [State.changeClass_marked, State.derivedAt, if_pos ⟨rfl, hairbag⟩]

theorem State.changeClass_other (h : s.airbag ≠ some p) :
    s.changeClass true cls cause p = (s.classRaised p cls cause).classMarked p := by
  have hairbag : (s.classRaised p cls cause).airbag ≠ some p := by
    rwa [State.airbag_congr (s.classRaised_outcome p cls cause).config]
  rw [State.changeClass_marked, State.derivedAt, if_neg fun h => hairbag h.2]

/-- A derivation in a state that has the restraint of another, and whose safety queue has received no SUPPRESSION_CHANGED. -/
theorem State.Derived.of_before {s t u : State} (h : t.Derived u) (hrestraint : t.restraint = s.restraint)
    (hqueue : (t.port .safety).queue.filter (fun n => n.kind = .suppressionChanged) =
      (s.port .safety).queue.filter fun n => n.kind = .suppressionChanged) : s.Derived u := by
  obtain ⟨hstate, hdiffers, hsame⟩ := h
  rw [hrestraint] at hdiffers hsame
  exact ⟨hstate, hdiffers, fun hd => ⟨(hsame hd).1, (hsame hd).2.1, (hsame hd).2.2.trans hqueue⟩⟩

theorem State.classRaised_decisions : ((s.classRaised p cls cause).port .safety).queue.filter (fun n => n.kind = .suppressionChanged) =
    (s.port .safety).queue.filter fun n => n.kind = .suppressionChanged :=
  (s.classRaised_safety p cls cause).filter_kind fun _ h => by cases h.1

/-- Derivation and told decision read the ports, the restraint and the decision alone. -/
theorem State.Derived.congr {s t u : State} (h : s.Derived t) (hrestraint : u.restraint = t.restraint) (hdecision : u.decision = t.decision)
    (hport : u.port .safety = t.port .safety) : s.Derived u := by
  obtain ⟨hstate, hdiffers, hsame⟩ := h
  refine ⟨?_, ?_, ?_⟩ <;> rw [hrestraint, hdecision]
  · exact hstate
  · exact hdiffers
  · rw [hport]; exact hsame

theorem State.changeClass_derived (h : s.airbag = some p) : s.Derived (s.changeClass true cls cause p) := by
  rw [s.changeClass_airbag p cls cause h]
  exact ((State.deriveSuppression_derived _).of_before (s.classRaised_restraint p cls cause)
    (s.classRaised_decisions p cls cause)).congr (State.classMarked_restraint _ p) (State.classMarked_decision _ p)
    (State.classMarked_port _ p _)

theorem State.changeClass_tellsDecision (h : s.airbag = some p) (hroom : (s.port .safety).queue.length ≤ 14) :
    s.TellsDecision (s.changeClass true cls cause p) := by
  have hlength := (s.classRaised_safety p cls cause).length_le
  have htells := State.deriveSuppression_tells (s := s.classRaised p cls cause) (by omega)
  have hnumber := (s.classRaised_outcome p cls cause).number
  rw [s.changeClass_airbag p cls cause h]
  intro hd
  rw [State.classMarked_decision] at hd ⊢
  rw [State.classMarked_restraint, State.classMarked_port]
  rw [State.TellsDecision, s.classRaised_restraint, hnumber] at htells
  exact htells hd

end

/-- Settles O26: the effects of a class change by the steps of R80, and an outcome by the cases of R73. -/
theorem classChangeRaisesSequenceAndTellsPorts : Obligations.ClassChangeRaisesSequenceAndTellsPorts := by
  unfold Obligations.ClassChangeRaisesSequenceAndTellsPorts
  refine ⟨fun s p cls cause => ?_, fun s => ?_, fun n fit => ?_, fun s p h => ?_⟩
  · have hall := s.changeClass_classifies true p cls cause
    have hpos := s.changeClass_pos true p cls cause
    refine ⟨s.changeClass_cls true p cls cause, hall.frame.others, fun port hport hroom => s.changeClass_tells p cls cause hport hroom,
      ?_, hall.keeps.load, hall.keeps.child, hall.keeps.buckle, hall.frame.config,
      fun h => ⟨s.changeClass_derived p cls cause h, s.changeClass_tellsDecision p cls cause h⟩, fun h => ⟨?_, ?_⟩⟩
    · rw [hpos, ← cls.leftBehind_iff]
      simp
    · rw [s.changeClass_other p cls cause h, State.classMarked_restraint, s.classRaised_restraint]
    · rw [s.changeClass_other p cls cause h, State.classMarked_port]
      exact s.classRaised_decisions p cls cause
  · refine ⟨s.deriveSuppression_derived, State.deriveSuppression_same, fun h => ?_⟩
    rw [State.deriveSuppression_differs h]
    exact ⟨rfl, rfl, rfl, rfl, fun hroom => State.deriveSuppression_differs h ▸ State.deriveSuppression_tells hroom⟩
  · refine ⟨fun h => ?_, fun h => ?_⟩
    · rw [directAsked_identified fit h]
      exact ⟨fun h => h ▸ rfl, fun h => h ▸ rfl, fun h => h ▸ rfl⟩
    · rw [directAsked_lost fit h]
      exact ⟨fun h => h ▸ rfl, fun h => h ▸ rfl, fun h => h ▸ rfl⟩
  · have hall := s.takeOutcome_classifies h p
    exact ⟨hall.frame.others, hall.keeps, hall.frame.config, fun hd hx => s.takeOutcome_direct h p hd hx,
      fun cause hd hx => s.takeOutcome_direct h p hd hx, s.takeOutcome_online h p, s.takeOutcome_offline h p, hall.decided rfl⟩

end Sys2Proof.Machine

/-! Resets and the start-up load (R121, R147, R152, R153). -/

namespace Sys2Proof.Machine

section
variable (s : State)

theorem State.clearBlocks_pos (p : Pos) : s.clearBlocks.pos p = .fresh (s.entry p).enabled 0 := PerPos.get_ofFn _ p

/-- A state whose blocks have been cleared is at its reset values, whatever its phase, its ports, its timers and what a reset
leaves open of the restraint interface. -/
theorem State.clearBlocks_atReset (phase : Phase) (suppression : Suppression) (pso : Pso) (snapshots : List Snapshot) (ports : PerPort PortState)
    (timer tick : Option Nat) : State.AtReset { s.clearBlocks with
      phase := phase
      restraint := { s.clearBlocks.restraint with suppression := suppression, pso := pso, snapshots := snapshots }
      ports := ports
      scanner := { s.clearBlocks.scanner with timer := timer }
      reminderTimer := tick } where
  save := rfl
  capture := rfl
  staging := ⟨rfl, Staging.empty_entries⟩
  scan := ⟨rfl, rfl, rfl⟩
  exchanges := ⟨rfl, rfl⟩
  nodes l a := by cases l <;> exact LineState.fresh_nodes a
  fit p := by
    show (s.clearBlocks.pos p).fit = _ ∧ (s.clearBlocks.pos p).childCap = _ ∧ (s.clearBlocks.pos p).beltCap = _
    rw [s.clearBlocks_pos]; exact ⟨rfl, rfl, rfl⟩
  load p := congrArg PosRec.load (s.clearBlocks_pos p)
  child p := congrArg PosRec.child (s.clearBlocks_pos p)
  cls p := congrArg PosRec.cls (s.clearBlocks_pos p)
  belt p := congrArg PosRec.buckle (s.clearBlocks_pos p)
  reminder p := congrArg PosRec.reminder (s.clearBlocks_pos p)
  watched p := ⟨congrArg PosRec.watched (s.clearBlocks_pos p), congrArg PosRec.injection (s.clearBlocks_pos p)⟩
  hold := ⟨rfl, rfl, rfl, rfl⟩
  vehicle := rfl

theorem State.clearBlocks_ports : s.clearBlocks.PortsAtReset := fun p => by cases p <;> rfl

theorem State.beginLoad_atReset : s.beginLoad.AtReset := s.clearBlocks_atReset _ _ _ _ _ _ _

theorem State.beginLoad_ports : s.beginLoad.PortsAtReset := s.clearBlocks_ports

end

/-- Settles O9. -/
theorem resetsEndWorkAndStartLoad : Obligations.ResetsEndWorkAndStartLoad := by
  unfold Obligations.ResetsEndWorkAndStartLoad
  refine ⟨fun s => ⟨_, rfl, rfl, s.clearBlocks_atReset _ _ _ _ _ _ _, s.clearBlocks_ports, rfl, rfl, rfl, rfl, rfl, rfl⟩,
    fun s => ⟨_, rfl, rfl, s.clearBlocks_atReset _ _ _ _ _ _ _, s.clearBlocks_ports, rfl, rfl, rfl⟩, fun s hlow => ?_⟩
  refine ⟨s.beginLoad, ?_, rfl, s.beginLoad_atReset, s.beginLoad_ports, rfl, rfl, rfl⟩
  show execResetLineRelease s = _
  rw [execResetLineRelease, if_pos hlow]

/-- Settles O12: RESET PART moves the phase alone, and the load begins when its reply has been sent. -/
theorem resetPartRepliesThenResets : Obligations.ResetPartRepliesThenResets := by
  unfold Obligations.ResetPartRepliesThenResets
  refine ⟨fun s chk hr hs => ⟨fun hopen => ?_, fun h => ?_, fun hs' hh hv => ?_⟩, fun s hphase => ?_⟩
  · have hact : (s.received .service).gated (({ s.received .service with phase := .resetReply } : State).answer .ok) =
        { state := { s.received .service with phase := .resetReply }, status := .ok, data := [] } :=
      (State.gated_open hopen .service _).trans rfl
    have hreply := State.answers_of (act := fun s => s.gated (({ s with phase := .resetReply } : State).answer .ok))
      (i := .resetPart .service chk) rfl hr hs rfl rfl hact rfl (s.received_mode .service) rfl rfl
      (congrArg _ (s.received_config .service))
    have hput : s.putBack { s.received .service with phase := .resetReply } = { s with phase := .resetReply } :=
      congrArg (fun t : State => { t with phase := .resetReply }) (s.putBack_received .service)
    rwa [hput] at hreply
  · exact (State.gateRefuses_of (i := .resetPart .service chk) _ rfl hr hs rfl rfl rfl).1 h
  · exact (State.gateRefuses_of (i := .resetPart .service chk) _ rfl hr hs rfl rfl rfl).2 hs' hh hv
  · refine ⟨s.beginLoad, ?_, rfl, s.beginLoad_atReset, s.beginLoad_ports, rfl, rfl, rfl⟩
    show execResetPartReplySent s = _
    rw [execResetPartReplySent, if_pos hphase]

/-! ## The end of the load (R152) -/

/-- The state that a load result starts the part with, before CONFIG_DEFAULTED is queued. -/
def State.loadedBlocks (s : State) (r : Except LoadFailure LiveConfig) : State :=
  let t := ({ s with config := loadedConfig r, configState := loadedState r } : State).clearBlocks
  { t with restraint := { t.restraint with suppression := t.decision, pso := t.decision.line } }

theorem State.endLoad_eq (s : State) : s.endLoad =
    { (s.loadedBlocks (checkStore s.store)).reportLoad (checkStore s.store) with
      phase := .running
      reminderTimer := some Config.reminderSpacing
      scanner := { ((s.loadedBlocks (checkStore s.store)).reportLoad (checkStore s.store)).scanner with timer := some 0 } } := rfl

theorem Suppression.line_shows (x : Suppression) : x.line.shows x = true := by cases x <;> rfl

section
variable (s : State) (r : Except LoadFailure LiveConfig)

/-- The report of a load changes the service port alone. -/
theorem State.reportLoad_eq (t : State) :
    t.reportLoad r = { t with ports := (t.reportLoad r).ports } := by cases r <;> rfl

theorem State.reportLoad_port (t : State) {q : Port} (hq : q ≠ .service) : (t.reportLoad r).port q = t.port q := by
  cases r with
  | ok c => rfl
  | error e => exact State.post_port_other _ _ _ _ _ hq

theorem State.loadedBlocks_port (q : Port) : (s.loadedBlocks r).port q = .fresh := by cases q <;> rfl

/-- CONFIG_DEFAULTED is the first notice of a fresh port, and asserts its attention line (R145, R152). -/
theorem State.reportLoad_defaulted (e : LoadFailure) : ((s.loadedBlocks (.error e)).reportLoad (.error e)).port .service =
    { assembler := .idle, reply := none, overflow := false, drops := 0, attention := true
      queue := [{ kind := .configDefaulted, subject := 0, payload := payloadOf 0 e.code, scan := 0, waited := 0 }] } := by
  rw [State.reportLoad, State.port_post, if_pos rfl, s.loadedBlocks_port]
  rfl

end

/-- Settles O11: the state at the end of the load, from the result of the store check. -/
theorem loadEndTakesStoreOrDefaults : Obligations.LoadEndTakesStoreOrDefaults := by
  unfold Obligations.LoadEndTakesStoreOrDefaults
  intro s hphase
  have hnext : exec .configurationLoadEnd s = .next s.endLoad := congrArg Host.Outcome.next (if_pos hphase)
  refine ⟨s.endLoad, hnext, ?_⟩
  rw [s.endLoad_eq]
  generalize checkStore s.store = r
  rw [State.reportLoad_eq]
  have hport {q : Port} (hq : q ≠ .service) : ((s.loadedBlocks r).reportLoad r).port q = .fresh :=
    (State.reportLoad_port r _ hq).trans (s.loadedBlocks_port r q)
  refine ⟨rfl, State.clearBlocks_atReset _ _ _ _ _ _ _ _, rfl, rfl, rfl, Suppression.line_shows _, rfl, rfl, ?_, ?_, fun c h => ?_,
    fun e h => ?_⟩
  · exact hport (q := .safety) (by decide)
  · exact hport (q := .cabin) (by decide)
  · subst h
    exact ⟨rfl, rfl, rfl⟩
  · subst h
    exact ⟨rfl, rfl, s.reportLoad_defaulted e⟩

end Sys2Proof.Machine

/-! What a commit leaves alone (R14 to R16), the masks of positions (R13, R127, R131), and the timers' rows (R115, R123, R127, R129,
R145). -/

namespace Sys2Proof.Machine

/-! ## Masks -/

/-- A number by its bits is the sum of its bits' values. -/
theorem ofBits_eq_sum {n : Nat} (f : Fin n → Bool) :
    Nat.ofBits f = ((List.finRange n).map fun i => (f i).toNat * 2 ^ i.val).sum := by
  induction n with
  | zero => rfl
  | succ n ih =>
    rw [Nat.ofBits_succ, List.finRange_succ]
    have h (i : Fin n) : (f i.succ).toNat * 2 ^ (i.val + 1) = 2 * ((f i.succ).toNat * 2 ^ i.val) := by
      rw [Nat.pow_succ]; ring
    simp [ih, h, List.sum_map_mul_left, Function.comp_def, Nat.add_comm]

/-- A mask holds the bit of each position that its condition names (R13, R127, R131). -/
theorem maskOf_getLsbD (f : Pos → Bool) (p : Pos) : (maskOf f).getLsbD p.val = f p := by
  have hterm (q : Pos) : (if f q then 2 ^ q.val else 0) = (f q).toNat * 2 ^ q.val := by cases f q <;> simp
  have hofBits : (allPos.map fun p => if f p then 2 ^ p.val else 0).sum = Nat.ofBits f := by
    rw [ofBits_eq_sum, show allPos = List.finRange 16 from by decide]
    simp only [hterm]
  rw [maskOf, hofBits, BitVec.getLsbD_ofNat, Nat.testBit_ofBits_lt f p.val p.isLt]
  simp

/-! ## What a commit leaves alone -/

section
variable (s : State) (p : Pos)

theorem State.setPos_outcome (r : PosRec) : s.OutcomeFrame (s.setPos p r) p := s.modPos_outcome p fun _ => r

theorem State.resetRecord_outcome : s.OutcomeFrame (s.resetRecord p) p := by
  unfold State.resetRecord
  extract_lets old fresh told belted shown
  have h1 : s.OutcomeFrame fresh p := s.setPos_outcome p _
  have h2 : fresh.OutcomeFrame told p := fresh.postClass_outcome p
  have h3 : told.OutcomeFrame belted p := .ite (State.post_outcome _ p _ _ _ _) (.refl _ p)
  have h4 : belted.OutcomeFrame shown p := .ite (State.post_outcome _ p _ _ _ _) (.refl _ p)
  exact ((h1.trans h2).trans (h3.trans h4)).trans (shown.restartEco_outcome p)

theorem State.keepRecord_outcome (old : MapEntry) : s.OutcomeFrame (s.keepRecord old p) p := by
  unfold State.keepRecord
  extract_lets changed
  have h1 : s.OutcomeFrame changed p := .ite (s.recompute_outcome p) (.refl s p)
  exact .ite (h1.trans (changed.moveReminder_frame p _ _).outcome) h1

theorem State.recordEffects_outcome (old : PerPos MapEntry) : s.OutcomeFrame (s.recordEffects old p) p :=
  .ite (s.resetRecord_outcome p) (s.keepRecord_outcome p _)

/-- The class that a fit decided again asks for (R16). -/
def State.fitClass (s : State) (p : Pos) (leaves : Bool) : FitState → State
  | .misfit => s.applyDirect false (.fault .misfit) p
  | .noSlot => s.applyDirect false (.fault .noSlot) p
  | .fits => if leaves then s.returnUnresolved false p else s
  | .unchecked => s

theorem State.fitClass_outcome (leaves : Bool) (fit : FitState) : s.OutcomeFrame (s.fitClass p leaves fit) p := by
  cases fit with
  | misfit => exact s.applyDirect_outcome false _ p
  | noSlot => exact s.applyDirect_outcome false _ p
  | fits => exact .ite (s.returnUnresolved_outcome false p) (.refl s p)
  | unchecked => exact .refl s p

theorem State.finishFit_eq (old : PerPos MapEntry) : s.finishFit old p =
    if refits (old.get p) (s.entry p) then
      (s.setFit p (s.commitFit p)).fitClass p
        (!(old.get p).moved ((s.setFit p (s.commitFit p)).entry p) && ((s.pos p).fit = .misfit || (s.pos p).fit = .noSlot))
        (s.commitFit p)
    else s.recompute p := by
  unfold State.finishFit
  cases s.commitFit p <;> rfl

theorem State.finishFit_outcome (old : PerPos MapEntry) : s.OutcomeFrame (s.finishFit old p) p := by
  rw [State.finishFit_eq]
  exact .ite ((s.setFit_outcome p _).trans (State.fitClass_outcome _ p _ _)) (s.recompute_outcome p)

theorem State.abortMoved_outcome (old : PerPos MapEntry) (ps : List Pos) : s.OutcomeFrame (s.abortMoved old ps) p := by
  unfold State.abortMoved
  split
  · exact .refl s p
  · exact .ite (s.abortCapture_outcome _ p) (.refl s p)

end

/-! ## The stages of a commit -/

/-- The staged positions in ascending order. -/
def State.stagedPositions (s : State) : List Pos := allPos.filter s.staging.holds

/-- The live map becomes the staged map. -/
def State.mapped (s : State) : State := { s with config := { s.config with map := s.stagedMap } }

/-- The walks of a commit over the staged positions: record effects, fits, evaluations (R14 to R16). -/
def State.walked (s : State) : State :=
  ((s.mapped.forPositions s.stagedPositions (State.recordEffects s.config.map)).forPositions s.stagedPositions
    (State.finishFit s.config.map)).forPositions s.stagedPositions fun p s => s.evaluate p

/-- The abort of a capture and the derivation. -/
def State.settled (s : State) : State := (s.walked.abortMoved s.config.map s.stagedPositions).deriveSuppression

theorem State.applyStaged_eq (s : State) : s.applyStaged =
    { s.settled with staging := { s.settled.staging with entries := Staging.empty.entries } } := rfl

theorem State.walked_rest (s : State) : s.mapped.outcomeBack s.walked = s.mapped := by
  have h1 := State.forPositions_outcome (fun p s => State.recordEffects_outcome s p _) s.stagedPositions s.mapped
    (f := State.recordEffects s.config.map)
  have h2 := State.forPositions_outcome (fun p s => State.finishFit_outcome s p _) s.stagedPositions
    (s.mapped.forPositions s.stagedPositions (State.recordEffects s.config.map)) (f := State.finishFit s.config.map)
  have h3 := State.forPositions_outcome (fun p s => (s.evaluate_frame p).outcome) s.stagedPositions
    ((s.mapped.forPositions s.stagedPositions (State.recordEffects s.config.map)).forPositions s.stagedPositions
      (State.finishFit s.config.map)) (f := fun p s => s.evaluate p)
  exact (congrArg s.mapped.outcomeBack ((congrArg _ h3).trans h2)).trans h1

theorem State.settled_rest (s : State) : s.mapped.outcomeBack s.settled = s.mapped :=
  (congrArg s.mapped.outcomeBack ((s.walked.abortMoved_outcome 0 _ _).trans (State.deriveSuppression_outcome _ 0)).rest).trans
    s.walked_rest

/-- t with what a commit may change put back from s. -/
def State.commitBack (s t : State) : State :=
  { s.outcomeBack t with config := { t.config with map := s.config.map }, staging := s.staging }

theorem State.applyStaged_rest (s : State) : s.commitBack s.applyStaged = s := by
  have h := congrArg s.commitBack s.settled_rest
  exact h

/-- A deferred commit that is not applied changes nothing. -/
theorem State.applyDeferred_waits {s : State} (h : s.staging.deferred = false ∨ ¬ s.gateOpen) : s.applyDeferred = s := by
  refine if_neg fun hall => ?_
  simp only [Bool.and_eq_true, Bool.not_eq_true'] at hall
  rcases h with h | h
  · rw [hall.1.1.1] at h; cases h
  · exact h ⟨hall.1.1.2, hall.1.2, hall.2⟩

/-- A deferred commit that is applied: the staged entries take effect, and COMMIT_APPLIED is posted (R13). -/
theorem State.applyDeferred_applies {s : State} (hd : s.staging.deferred = true) (h : s.gateOpen) : s.applyDeferred =
    ({ s.applyStaged with staging := { s.applyStaged.staging with deferred := false } } : State).post
      .service .commitApplied 0 (maskOf s.staging.holds) := by
  obtain ⟨hstill, hhold, hsave⟩ := h
  exact if_pos (by simp [hd, hstill, hhold, hsave])

theorem State.applyDeferred_rest (s : State) : s.commitBack s.applyDeferred = s := by
  by_cases h : s.staging.deferred = false ∨ ¬ s.gateOpen
  · rw [State.applyDeferred_waits h]; rfl
  · obtain ⟨hd, hopen⟩ := not_or.1 h
    rw [State.applyDeferred_applies (by simpa using hd) (by simpa using hopen)]
    have h := s.applyStaged_rest
    generalize s.applyStaged = u at h ⊢
    exact h

/-! ## HOLD ends (R114 to R116) -/

theorem State.applyDeferred_restraint (s : State) : s.applyDeferred.restraint.hold = s.restraint.hold ∧
    s.applyDeferred.restraint.lastExpired = s.restraint.lastExpired ∧
    s.applyDeferred.restraint.snapshots = s.restraint.snapshots :=
  have h := s.applyDeferred_rest
  ⟨(congrArg (fun u : State => u.restraint.hold) h :), (congrArg (fun u : State => u.restraint.lastExpired) h :),
    (congrArg (fun u : State => u.restraint.snapshots) h :)⟩

/-- HOLD ended, before the deferred commit is thought of. -/
def State.unheld (s : State) : State := { s with restraint := { s.restraint with hold := none } }

/-- HOLD expired and told, before the deferred commit is thought of. -/
def State.holdLapsed (s : State) : State :=
  ({ s with restraint := { s.restraint with hold := none, lastExpired := true } } : State).post .safety .holdExpired 0
    (oneByte s.restraint.holdCount ++ oneByte s.restraint.snapshots.length)

theorem State.endHold_eq (s : State) : s.endHold = s.unheld.applyDeferred := rfl

theorem State.expireHold_eq (s : State) : s.expireHold = s.holdLapsed.applyDeferred := rfl

theorem State.releaseAnswer_held {s : State} (h : s.holdActive = true) : s.releaseAnswer = s.endHold.answer .ok := if_pos h

theorem State.releaseAnswer_late {s : State} (h : s.holdActive = false) (hl : s.restraint.lastExpired = true) :
    s.releaseAnswer = ({ s with restraint := { s.restraint with lastExpired := false } } : State).answer .tooLate := by
  rw [State.releaseAnswer, if_neg (by rw [h]; exact Bool.false_ne_true), if_pos hl]

theorem State.releaseAnswer_idle {s : State} (h : s.holdActive = false) (hl : s.restraint.lastExpired = false) :
    s.releaseAnswer = s.answer .ok := by
  rw [State.releaseAnswer, if_neg (by rw [h]; exact Bool.false_ne_true), if_neg (by rw [hl]; exact Bool.false_ne_true)]

@[simp] theorem State.received_holdActive (s : State) (p : Port) : (s.received p).holdActive = s.holdActive := by
  rw [State.holdActive, State.received_restraint, State.holdActive]

/-- Settles O35. -/
theorem holdEndsByReleaseOrExpiry : Obligations.HoldEndsByReleaseOrExpiry := by
  unfold Obligations.HoldEndsByReleaseOrExpiry
  refine ⟨fun s chk hr hs => ⟨fun hh hd => ?_, fun hh => ?_, fun hh hl => ?_, fun hh hl => ?_⟩, fun s hrun => ⟨fun hh hd => ?_,
    fun hh => ?_, fun hh => ?_⟩⟩
  · refine State.answers_restraint rfl hr hs rfl rfl ?_
    have hwaits : (s.received .safety).endHold = (s.received .safety).unheld := by
      exact State.applyDeferred_waits (s := (s.received .safety).unheld)
        (.inl ((congrArg Staging.deferred (s.received_staging .safety)).trans hd))
    rw [State.releaseAnswer_held ((s.received_holdActive .safety).trans hh), hwaits, State.unheld, State.received_restraint]
    rfl
  · have hrest := (s.received .safety).unheld.applyDeferred_restraint
    have htake := State.takeFrame_ready (act := State.releaseAnswer) hr hs rfl rfl
    rw [State.releaseAnswer_held ((s.received_holdActive .safety).trans hh), State.answer_state, State.endHold_eq] at htake
    refine ⟨_, congrArg Host.Outcome.next htake, ?_, hrest.1, hrest.2.2.trans ?_⟩
    · rw [State.replied, State.port_answered, if_pos rfl]
      rfl
    · rw [State.unheld, State.received_restraint]
  · refine State.answers_restraint rfl hr hs rfl rfl ?_
    rw [State.releaseAnswer_late ((s.received_holdActive .safety).trans hh) (by rwa [State.received_restraint]),
      State.received_restraint]
    rfl
  · refine State.answers_unchanged rfl hr hs rfl rfl ?_
    rw [State.releaseAnswer_idle ((s.received_holdActive .safety).trans hh) (by rwa [State.received_restraint])]
    rfl
  · have hwaits : s.expireHold = s.holdLapsed := State.applyDeferred_waits (s := s.holdLapsed) (.inl hd)
    obtain ⟨t, hexec, hback, hjudged⟩ := State.event_leaves (i := .holdTimerExpiry) hrun rfl
      ((if_pos hh).trans hwaits) rfl
    exact ⟨t, hexec, hjudged, hback⟩
  · have hrest := s.holdLapsed.applyDeferred_restraint
    refine ⟨s.expireHold.judgeEco, ?_, hrest.1, hrest.2.1, hrest.2.2⟩
    show Host.Outcome.next (s.event _) = _
    rw [State.event_running hrun, if_pos hh]
  · exact State.passes_of_id hrun rfl (if_neg (by rw [hh]; exact Bool.false_ne_true))

end Sys2Proof.Machine

/-! The loss of standstill (R124), the left-behind watch (R125 to R128), the eco countdown (R129) and the age limit (R145). -/

namespace Sys2Proof.Machine

/-! ## The loss of standstill (R124 step 2) -/

section
variable (s : State)

/-- Test mode and its injections end, with the notice of their mask. -/
def State.testModeEnded (s : State) : State := s.endTestMode.post .service .testModeEnded 0 s.injectionMask

theorem State.loseStandstill_on {s : State} (h : s.vehicle.testMode = true) :
    s.loseStandstill = (s.abortCapture .locked).testModeEnded := by
  have hmode : (s.abortCapture .locked).vehicle = s.vehicle := (congrArg State.vehicle (s.abortCapture_rest .locked) :)
  exact if_pos (by rw [hmode, h])

theorem State.loseStandstill_off {s : State} (h : s.vehicle.testMode = false) : s.loseStandstill = s.abortCapture .locked := by
  have hmode : (s.abortCapture .locked).vehicle = s.vehicle := (congrArg State.vehicle (s.abortCapture_rest .locked) :)
  exact if_neg (by rw [hmode, h]; exact Bool.false_ne_true)

/-- A loss of standstill changes the capture, the injections, test mode with the reminder tick, and the service port. -/
theorem State.loseStandstill_rest : { s.loseStandstill with
    positions := s.positions, capture := s.capture, ports := s.ports, reminderTimer := s.reminderTimer
    vehicle := s.vehicle } = s := by
  have h := congrArg (fun u : State => { u with
    positions := s.positions, reminderTimer := s.reminderTimer, vehicle := s.vehicle }) (s.abortCapture_rest .locked)
  cases hmode : s.vehicle.testMode with
  | false => rw [State.loseStandstill_off hmode]; exact h
  | true => rw [State.loseStandstill_on hmode]; exact h

theorem State.loseStandstill_vehicle : s.loseStandstill.vehicle = { s.vehicle with testMode := false } := by
  have h : (s.abortCapture .locked).vehicle = s.vehicle := (congrArg State.vehicle (s.abortCapture_rest .locked) :)
  cases hmode : s.vehicle.testMode with
  | false => rw [State.loseStandstill_off hmode, h, ← hmode]
  | true => rw [State.loseStandstill_on hmode, ← h]; rfl

theorem State.loseStandstill_capture : s.loseStandstill.capture = none := by
  cases hmode : s.vehicle.testMode with
  | false => rw [State.loseStandstill_off hmode, State.abortCapture_capture]
  | true => rw [State.loseStandstill_on hmode]; exact s.abortCapture_capture .locked

theorem State.abortCapture_pos (r : CaptureResult) (p : Pos) : (s.abortCapture r).pos p = s.pos p :=
  (congrArg (fun u : State => u.pos p) (s.abortCapture_rest r) :)

theorem State.loseStandstill_pos (p : Pos) : s.loseStandstill.pos p =
    if s.vehicle.testMode then { s.pos p with injection := none } else s.pos p := by
  cases hmode : s.vehicle.testMode with
  | false => rw [State.loseStandstill_off hmode, State.abortCapture_pos]; rfl
  | true =>
    have hpos : (s.abortCapture .locked).testModeEnded.pos p =
        { (s.abortCapture .locked).pos p with injection := none } := PerPos.get_ofFn _ p
    rw [State.loseStandstill_on hmode, hpos, State.abortCapture_pos]
    rfl

/-- The end of a capture. -/
def CaptureNotice (k : NoticeKind) (_ : Nat) : Prop := k = .captureDone

theorem State.abortCapture_received (r : CaptureResult) :
    Received CaptureNotice (s.port .service).queue 1 ((s.abortCapture r).port .service).queue := by
  cases h : s.capture with
  | none => rw [State.abortCapture_idle r h]; exact .refl 1
  | some c =>
    rw [State.abortCapture_inFlight r h]
    exact State.post_received { s with capture := none } .service .captureDone _ _ .service fun _ => rfl

/-- CAPTURE_DONE with LOCKED stands after a loss of standstill, where the queue had room (R51). -/
theorem State.loseStandstill_tellsCapture {s : State} {c : Capture} (h : s.capture = some c) :
    s.TellsCapture s.loseStandstill c.position 15 0x3000 := by
  have haborted := State.abortCapture_tells .locked h
  cases hmode : s.vehicle.testMode with
  | false => rw [State.loseStandstill_off hmode]; exact haborted
  | true =>
    rw [State.loseStandstill_on hmode]
    intro hroom
    obtain ⟨n, hn, hkind, hrest⟩ := haborted hroom
    have hposts := State.post_received (s.abortCapture .locked).endTestMode .service .testModeEnded 0
      (s.abortCapture .locked).injectionMask .service (About := fun k _ => k = .testModeEnded) fun _ => rfl
    exact ⟨n, hposts.mem hn (by rw [hkind]; decide), hkind, hrest⟩

/-- TEST_MODE_ENDED with the mask of the ended injections stands after a loss of standstill in test mode (R131). -/
theorem State.loseStandstill_tellsTest {s : State} (hmode : s.vehicle.testMode = true) (hroom : s.ports.service.queue.length ≤ 14) :
    ∃ n ∈ s.loseStandstill.ports.service.queue, n.kind = .testModeEnded ∧ n.subject = 0 ∧
      ∀ p : Pos, n.payload.getLsbD p.val = (s.pos p).injection.isSome := by
  have hlength := (s.abortCapture_received .locked).length_le
  obtain ⟨n, hn, hkind, hsubject, hpayload, -⟩ := State.post_mem (s.abortCapture .locked).endTestMode .service .testModeEnded 0
    (s.abortCapture .locked).injectionMask (.inl (hlength.trans_lt (Nat.add_lt_add_right (Nat.lt_succ_of_le hroom) 1)))
  refine ⟨n, ?_, hkind, hsubject, fun p => ?_⟩
  · rw [State.loseStandstill_on hmode]; exact hn
  · rw [hpayload, State.injectionMask, maskOf_getLsbD, State.abortCapture_pos]

end

/-! ## The report turns STALE (R123) -/

/-- The report is STALE, its four values held. -/
def State.stale (s : State) : State := { s with vehicle := { s.vehicle with freshTimer := none } }

/-- Settles O38: the loss of standstill by its steps. -/
theorem freshnessExpiryLosesStandstill : Obligations.FreshnessExpiryLosesStandstill := by
  unfold Obligations.FreshnessExpiryLosesStandstill
  refine fun s hrun => ⟨fun h => ?_, fun hfresh hstill => ?_, fun hstill => ?_⟩
  · exact State.passes_of_id hrun rfl (if_neg (by rw [h]; exact Bool.false_ne_true))
  · have hstale : s.goStale = s.stale := if_neg (by rw [hstill]; exact Bool.false_ne_true)
    obtain ⟨t, hexec, hback, hjudged⟩ := State.event_leaves (i := .freshnessTimerExpiry) hrun rfl
      ((if_pos hfresh).trans hstale) rfl
    exact ⟨t, hexec, hjudged, hback⟩
  · have hfresh : s.vehicle.isFresh = true := (Bool.and_eq_true_iff.1 hstill).1
    have hloses : s.goStale = s.stale.loseStandstill := if_pos hstill
    have hvehicle := s.stale.loseStandstill_vehicle
    have hrest := s.stale.loseStandstill_rest
    obtain ⟨t, hexec, hback, hjudged⟩ := State.event_leaves (i := .freshnessTimerExpiry) hrun rfl
      ((if_pos hfresh).trans hloses) (by rw [hvehicle]; rfl)
    have hport : t.ports = s.stale.loseStandstill.ports := (congrArg State.ports hback :)
    have hnumber : t.scanner = s.scanner := (congrArg State.scanner hback :).trans (congrArg State.scanner hrest :)
    have hstood : { t.vehicle with eco := s.vehicle.eco } = { s.vehicle with freshTimer := none, testMode := false } := by
      have h : { t.vehicle with eco := s.vehicle.eco } = { s.stale.loseStandstill.vehicle with eco := s.vehicle.eco } :=
        (congrArg State.vehicle hback :)
      rw [h, hvehicle]; rfl
    refine ⟨t, hexec, hjudged, ?_, hstood, (congrArg State.capture hback :).trans s.stale.loseStandstill_capture, fun c hc => ?_,
      fun p => ?_, fun hmode hroom => ?_, fun hc hmode => ?_, (congrArg State.config hback :).trans (congrArg State.config hrest :),
      (congrArg State.staging hback :).trans (congrArg State.staging hrest :), hnumber,
      (congrArg State.restraint hback :).trans (congrArg State.restraint hrest :),
      (congrArg State.store hback :).trans (congrArg State.store hrest :),
      (congrArg State.saveImage hback :).trans (congrArg State.saveImage hrest :)⟩
    · exact (congrArg Vehicle.standstill hstood :)
    · have h := State.loseStandstill_tellsCapture (s := s.stale) hc
      have hservice : s.stale.loseStandstill.port .service = t.port .service := by rw [State.port, ← hport, State.port]
      rwa [State.TellsCapture, hservice] at h
    · exact (congrArg (fun u : State => u.pos p) hback :).trans (s.stale.loseStandstill_pos p)
    · rw [hport]; exact State.loseStandstill_tellsTest (s := s.stale) hmode hroom
    · rw [hport, State.loseStandstill_off (s := s.stale) hmode, State.abortCapture_idle (s := s.stale) _ hc]
      rfl

/-! ## The left-behind watch (R127, R128) -/

section
variable (s : State)

theorem State.setWatched_pos (f : Pos → Bool) (p : Pos) : (s.setWatched f).pos p = { s.pos p with watched := f p } :=
  PerPos.get_ofFn _ p

theorem State.endWatch_pos (p : Pos) : s.endWatch.pos p = { s.pos p with watched := false } :=
  State.setWatched_pos { s with vehicle := { s.vehicle with watch := none } } _ p

/-- Whether a position's mark stays at an expiry of the watch (R127). -/
def State.keepsWatch (s : State) (p : Pos) : Bool := (s.pos p).watched && (s.pos p).cls.stable.keepsMark

theorem any_allPos (f : Pos → Bool) : allPos.any f = true ↔ ∃ p, f p = true :=
  List.any_eq_true.trans ⟨fun ⟨p, _, h⟩ => ⟨p, h⟩, fun ⟨p, h⟩ => ⟨p, mem_allPos p, h⟩⟩

/-- The marks that stay, told, with the timer loaded again. -/
def State.watchRepeated (s : State) : State :=
  let t := (s.setWatched s.keepsWatch).post .cabin .leftBehind 0 (maskOf s.keepsWatch)
  { t with vehicle := { t.vehicle with watch := some (seconds s.config.settings.repeatTime) } }

theorem State.judgeWatch_repeats {s : State} (h : ∃ p, s.keepsWatch p = true) : s.judgeWatch = s.watchRepeated :=
  if_pos ((any_allPos _).2 h)

theorem State.judgeWatch_ends {s : State} (h : ∀ p, s.keepsWatch p = false) : s.judgeWatch = s.endWatch :=
  if_neg fun hany => by
    obtain ⟨p, hp⟩ := (any_allPos _).1 hany
    exact Bool.false_ne_true ((h p).symm.trans hp)

/-- The watch writes the watched flags, its timer and the cabin port alone. -/
theorem State.judgeWatch_rest : { s.judgeWatch with
    positions := s.positions, ports := { s.judgeWatch.ports with cabin := s.ports.cabin }
    vehicle := { s.judgeWatch.vehicle with watch := s.vehicle.watch } } = s := by
  by_cases h : ∃ p, s.keepsWatch p = true
  · rw [State.judgeWatch_repeats h]; rfl
  · rw [State.judgeWatch_ends (by simpa using h)]; rfl

theorem State.judgeWatch_pos (p : Pos) : s.judgeWatch.pos p = { s.pos p with watched := s.keepsWatch p } := by
  by_cases h : ∃ p, s.keepsWatch p = true
  · rw [State.judgeWatch_repeats h]; exact s.setWatched_pos _ p
  · have hnone : ∀ p, s.keepsWatch p = false := by simpa using h
    rw [State.judgeWatch_ends hnone, State.endWatch_pos, hnone p]

theorem State.watchRepeated_tells (hroom : s.ports.cabin.queue.length ≤ 15) :
    ∃ n ∈ s.watchRepeated.ports.cabin.queue, n.kind = .leftBehind ∧ n.subject = 0 ∧ n.scan = s.scanner.number ∧
      ∀ p : Pos, n.payload.getLsbD p.val = s.keepsWatch p := by
  obtain ⟨n, hn, hkind, hsubject, hpayload, hscan⟩ := State.post_mem (s.setWatched s.keepsWatch) .cabin .leftBehind 0
    (maskOf s.keepsWatch) (.inl (Nat.lt_succ_of_le hroom))
  exact ⟨n, hn, hkind, hsubject, hscan, fun p => by rw [hpayload, maskOf_getLsbD]⟩

theorem State.received_watching (p : Port) : (s.received p).watching = s.watching := by rw [s.received_form p]; rfl

end

/-- Settles O39. -/
theorem watchExpiryRepeatsOrEnds : Obligations.WatchExpiryRepeatsOrEnds := by
  unfold Obligations.WatchExpiryRepeatsOrEnds
  constructor
  · intro s hrun keeps
    refine ⟨fun h => State.passes_of_id hrun rfl (if_neg (by rw [h]; exact Bool.false_ne_true)), fun h => ?_⟩
    have hrest := s.judgeWatch_rest
    have heco : s.judgeWatch.vehicle.eco = s.vehicle.eco := (congrArg (fun u : State => u.vehicle.eco) hrest :)
    obtain ⟨t, hexec, hback, hjudged⟩ := State.event_leaves (i := .watchTimerExpiry) hrun rfl (if_pos h) heco
    have hports : t.ports = s.judgeWatch.ports := (congrArg State.ports hback :)
    have hwatch : t.vehicle.watch = s.judgeWatch.vehicle.watch := (congrArg (fun u : State => u.vehicle.watch) hback :)
    refine ⟨t, hexec, hjudged, fun p => (congrArg (fun u : State => u.pos p) hback :).trans (s.judgeWatch_pos p),
      fun hany => ⟨?_, fun hroom => ?_⟩, fun hnone => ⟨?_, ?_⟩, ?_, ?_, ?_⟩
    · rw [hwatch, State.judgeWatch_repeats hany, ← seconds_eq]; rfl
    · rw [hports, State.judgeWatch_repeats hany]; exact s.watchRepeated_tells hroom
    · rw [hwatch, State.judgeWatch_ends hnone]; rfl
    · rw [hports, State.judgeWatch_ends hnone]; rfl
    · rw [hports]; exact (congrArg (fun u : State => u.ports.safety) hrest :)
    · rw [hports]; exact (congrArg (fun u : State => u.ports.service) hrest :)
    · rw [hback]; exact congrArg (fun u : State => { u with
        ports := s.ports, vehicle := { u.vehicle with eco := s.vehicle.eco } }) hrest
  · intro s chk hr hs
    refine ⟨fun h => State.answers_unchanged rfl hr hs rfl rfl ?_, fun h => ?_⟩
    · rw [State.received_watching, if_neg (by rw [h]; exact Bool.false_ne_true)]
      rfl
    have hact : (if (s.received .cabin).watching = true then (s.received .cabin).endWatch.answer .ok
        else (s.received .cabin).answer .tooLate) = { state := (s.received .cabin).endWatch, status := .ok, data := [] } :=
      (if_pos ((s.received_watching .cabin).trans h)).trans rfl
    obtain ⟨t, hexec, hanswered, hput⟩ := State.answers_of (i := .dismissLeftBehind .cabin chk)
      (act := fun s => if s.watching then s.endWatch.answer .ok else s.answer .tooLate) rfl hr hs rfl rfl hact rfl
      (s.received_mode .cabin) rfl rfl (congrArg LiveConfig.settings (s.received_config .cabin))
    refine ⟨t, hexec, hanswered, (congrArg (fun u : State => u.vehicle.watch) hput :), fun p => ?_, ?_⟩
    · have hpos : t.pos p = (s.received .cabin).endWatch.pos p := (congrArg (fun u : State => u.pos p) hput :)
      rw [hpos, State.endWatch_pos, State.received_pos]
    · rw [hput]
      exact congrArg (fun u : State => { u with
        positions := s.positions, vehicle := { u.vehicle with watch := s.vehicle.watch } }) (s.putBack_received .cabin)

/-! ## The eco countdown and the age limit (R129, R145) -/

theorem ageOldest_waited (limit : Nat) (q : List Notice) :
    (ageOldest limit q).map (fun n => { n with waited := 0 }) = q.map fun n => { n with waited := 0 } := by
  cases q <;> rfl

/-- A line whose oldest notice has waited the age limit is wanted, and one with no notice is not (R145). -/
theorem State.lineFor_ageOldest {s : State} (p : Port) (hvalid : s.config.settings.valid = true) (q : List Notice) :
    s.lineFor p (ageOldest (s.ageLimit p) q) = !q.isEmpty := by
  cases q with
  | nil =>
    have htrigger : 1 ≤ s.config.settings.trigger.get p := by
      simp only [Settings.valid, Bool.and_eq_true, within, decide_eq_true_eq] at hvalid
      cases p <;> simp only [PerPort.get] <;> omega
    refine Bool.eq_false_iff.2 fun hline => ?_
    rcases (s.lineFor_iff p _).1 hline with h | ⟨n, rest, h, -⟩
    · exact absurd (htrigger.trans h) (by simp [ageOldest])
    · cases h
  | cons n rest => exact (s.lineFor_iff p _).2 (.inr ⟨_, rest, rfl, le_max_right _ _⟩)

/-- Settles O40. -/
theorem ecoCountdownAndAgeLimitTakeEffect : Obligations.EcoCountdownAndAgeLimitTakeEffect := by
  unfold Obligations.EcoCountdownAndAgeLimitTakeEffect
  refine ⟨fun s hrun => ⟨fun h => ?_, fun h => ?_⟩, fun s p hrun hvalid => ?_⟩
  · have hnext : exec .ecoCountdownExpiry s = .next (s.setMode .eco).judgeEco := by
      show Host.Outcome.next (s.event _) = _
      rw [State.event_running hrun, if_pos h]
    exact hnext
  · exact State.passes_of_id hrun rfl (if_neg (by rw [h]; exact Bool.false_ne_true))
  · have haged := s.judgeAttention_setQueue p (ageOldest (s.ageLimit p) (s.port p).queue)
    obtain ⟨t, hexec, hback, hjudged⟩ := State.event_leaves (i := .ageLimitReached p) hrun rfl haged rfl
    have hport (q : Port) : t.port q = _ := (congrArg (fun u : State => u.port q) hback :).trans (s.port_setPort p q _)
    refine ⟨t, hexec, hjudged, ?_, ?_, fun q hq => (hport q).trans (if_neg hq), ?_⟩
    · rw [hport, if_pos rfl]
      exact State.lineFor_ageOldest p hvalid _
    · rw [hport, if_pos rfl]
      exact ageOldest_waited _ _
    · rw [hback]; rfl

end Sys2Proof.Machine

/-! Frames on the ports: the command that a complete frame spells, its judgement, and one frame at a time on a port (R134 to R139). -/

namespace Sys2Proof.Machine

/-! ## Complete frames (R134, spec 11.2) -/

/-- Bytes by their indices, the last apart. -/
theorem bytes_by_index {rest : List Byte} {n : Nat} (h : rest.length = n + 1) :
    rest = List.ofFn (fun i : Fin n => rest.getD i.val 0) ++ [rest.getLastD 0] := by
  have hne : rest ≠ [] := fun e => by rw [e] at h; cases h
  have hlast : rest.getLastD 0 = rest.getLast hne := by rw [List.getLastD_eq_getLast?, List.getLast?_eq_getLast_of_ne_nil hne]; rfl
  have hinit : rest.dropLast = List.ofFn fun i : Fin n => rest.getD i.val 0 := by
    apply List.ext_getElem
    · simp [h]
    · intro i hi hi'
      have : i < rest.length := by simp [h] at hi; omega
      simp [List.getElem_dropLast, List.getD_eq_getElem?_getD, this]
  rw [← hinit, hlast, List.dropLast_concat_getLast]

/-- Operands as bytes by their indices. -/
theorem operandVector_bytes (n : Nat) (rest : List Byte) (i : Nat) :
    (operandVector n rest i).toList = List.ofFn fun j : Fin n => rest.getD (i + j.val) 0 := by
  apply List.ext_getElem <;> simp [operandVector]

/-- A byte, a vector of operands and the check byte. -/
theorem bytes_of_operands {rest : List Byte} {n : Nat} (h : rest.length = n + 2) :
    rest.getD 0 0 :: (operandVector n rest 1).toList ++ [rest.getLastD 0] = rest := by
  have hrest := bytes_by_index (n := n + 1) h
  rw [List.ofFn_succ] at hrest
  rw [operandVector_bytes]
  refine Eq.trans ?_ hrest.symm
  simp [Nat.add_comm]

/-- A complete frame spells a well-formed command of its port whose frame it is (R134). -/
theorem decodeFrame_complete (p : Port) {cmd : Byte} {rest : List Byte} (h : (cmd :: rest).length = frameLength cmd) :
    ∃ i : Instr, decodeFrame p (cmd :: rest) = some i ∧ i.wellFormed = true ∧ i.sentOn = some p ∧
      i.frame = some (cmd :: rest) := by
  have hd : decodeFrame p (cmd :: rest) = _ := if_pos h
  cases hk : operandLength cmd with
  | none =>
    rw [frameLength, hk] at h
    have hlast := bytes_by_index (n := 0) (Nat.succ.inj h)
    rw [hlast]
    refine ⟨_, decodeFrame_unknown p _ hk, Option.isNone_iff_eq_none.2 hk, rfl, rfl⟩
  | some k =>
    rw [frameLength, hk] at h
    have hrest := bytes_by_index (Nat.succ.inj h)
    rw [hd]
    unfold operandLength at hk
    split at hk
    case h_33 => cases hk
    all_goals
      rename_i hcmd
      have hc : cmd = BitVec.ofNat 8 cmd.toNat := by simp
      rw [hcmd] at hc
      subst hc
      cases hk
    case h_17 | h_23 | h_29 => exact ⟨_, rfl, rfl, rfl, congrArg some (congrArg (List.cons _) (bytes_of_operands (Nat.succ.inj h)))⟩
    case h_25 =>
      have hvector : (operandVector 24 rest 0).toList ++ [rest.getLastD 0] = rest := by
        rw [operandVector_bytes]
        simpa using hrest.symm
      exact ⟨_, rfl, rfl, rfl, congrArg some (congrArg (List.cons _) hvector)⟩
    case h_28 =>
      by_cases hzero : rest.getD 0 0 = 0
      · refine ⟨.testModeOff p (rest.getLastD 0), congrArg some (if_pos hzero), rfl, rfl, congrArg some (congrArg (List.cons _) ?_)⟩
        exact (congrArg (fun x => [x, rest.getLastD 0]) hzero.symm).trans hrest.symm
      · exact ⟨.testModeOn p (rest.getD 0 0) (rest.getLastD 0), congrArg some (if_neg hzero), decide_eq_true hzero, rfl,
          congrArg some (congrArg (List.cons _) hrest.symm)⟩
    all_goals exact ⟨_, rfl, rfl, rfl, congrArg some (congrArg (List.cons _) hrest.symm)⟩

/-! ## A frame as its row takes it -/

/-- The row of a frame takes the frame on its port with the command byte, the operands and the check byte of that frame. -/
theorem Instr.exec_frame {i : Instr} {p : Port} {cmd : Byte} {rest : List Byte} (hwell : i.wellFormed = true)
    (hport : i.sentOn = some p) (hframe : i.frame = some (cmd :: rest)) :
    ∃ ops chk, rest = ops ++ [chk] ∧ ∀ s, ∃ act, exec i s = .next (s.takeFrame p cmd ops chk act) := by
  cases i with
  | unknownCommand q cmd chk =>
    cases hport; cases hframe
    have hnone : ¬ (operandLength cmd).isSome = true := by simpa [Instr.wellFormed] using hwell
    exact ⟨[], chk, rfl, fun s => ⟨_, if_neg hnone⟩⟩
  | _ =>
    cases hport <;> cases hframe
    all_goals
      refine ⟨_, _, ?_, fun s => ⟨_, rfl⟩⟩
      rfl

/-- A command has a frame, which begins with its command byte. -/
theorem Instr.frame_of_sentOn {i : Instr} {p : Port} (h : i.sentOn = some p) : ∃ cmd rest, i.frame = some (cmd :: rest) := by
  cases i with
  | _ => cases h <;> exact ⟨_, _, rfl⟩

/-- A frame that its judgement answers without running the command changes nothing but what every frame may (R137). -/
theorem State.answers_judged {s : State} {i : Instr} {p : Port} {cmd : Byte} {ops : List Byte} {chk : Byte} {act : State → Answer}
    {st : Status} (hi : exec i s = .next (s.takeFrame p cmd ops chk act)) (hr : s.ready p)
    (hjudge : (s.received p).judgeFrame p cmd ops chk act = (s.received p).answer st) : s.Answers i p cmd st [] s := by
  have hset : (s.received p).config.settings = s.config.settings := congrArg LiveConfig.settings (s.received_config p)
  have h := State.answered_of (s := s) (p := p) (cmd := cmd) (st := st) (data := []) rfl (s.received_mode p) rfl rfl hset
  rw [s.putBack_received p] at h
  refine ⟨_, hi, ?_⟩
  rw [State.takeFrame_taken hr, hjudge]
  exact h

/-- The rights of the ports by the ranges of the command codes (R138). -/
theorem permitted_of_notPermitted {p : Port} {cmd : Byte} (hk : (operandLength cmd).isSome = true)
    (h : ¬ (cmd.toNat ≤ 5 ∨ (p = .safety ∧ 0x20 ≤ cmd.toNat ∧ cmd.toNat ≤ 0x24) ∨
      (p = .cabin ∧ 0x40 ≤ cmd.toNat ∧ cmd.toNat ≤ 0x43) ∨ (p = .service ∧ 0x60 ≤ cmd.toNat ∧ cmd.toNat ≤ 0x71))) :
    permitted p cmd = false := by
  have hzero : cmd.toNat ≠ 0 := by
    intro hzero
    rw [operandLength, hzero] at hk
    cases hk
  cases p <;> simp_all [permitted]

/-- Settles O49: the judgement of a frame by its first case. -/
theorem unsoundFramesAreRefusedInOrder : Obligations.UnsoundFramesAreRefusedInOrder := by
  unfold Obligations.UnsoundFramesAreRefusedInOrder
  intro i p cmd rest s hwell hport hframe hr
  obtain ⟨ops, chk, rfl, hexec⟩ := Instr.exec_frame hwell hport hframe
  obtain ⟨act, hi⟩ := hexec s
  refine ⟨fun hsum => State.answers_judged hi hr (if_pos hsum), fun hsum hk => ?_, fun hsum hk hnot => ?_⟩
  · refine State.answers_judged hi hr ?_
    rw [State.judgeFrame, if_neg (fun h => h hsum), if_pos (by rw [hk]; rfl)]
  · refine State.answers_judged hi hr ?_
    have hknown : ¬ (operandLength cmd).isNone = true := by rw [Option.isNone_iff_eq_none]; intro h; rw [h] at hk; cases hk
    rw [State.judgeFrame, if_neg (fun h => h hsum), if_neg hknown, if_pos (by rw [permitted_of_notPermitted hk hnot]; rfl)]

/-! ## A port takes one frame at a time (R134 to R136) -/

section
variable {s : State} {p : Port}

theorem State.listening_running (h : s.phase = .running) (p : Port) : s.listening p = true := by
  rw [State.listening, h]; rfl

/-- A frame discarded during a reply (R136). -/
theorem State.discardFrame_heard (s : State) (p : Port) : s.Heard (s.discardFrame p).judgeEco := by
  have heco := State.frameReported_eco (s.setPort p { (s.port p).countDrop with assembler := .discarding })
  have hfull : (s.discardFrame p).ecoFull = s.ecoFull := by
    unfold State.discardFrame State.frameReported State.wake
    split <;> rfl
  refine ⟨State.frameReported_mode _, State.frameReported_timer _, ?_⟩
  rw [State.judgeEco_eco, State.judgeEco_ecoConditions, State.judgeEco_ecoFull, hfull]
  refine if_congr Iff.rfl (congrArg some ?_) rfl
  show (State.frameReported _).vehicle.eco.getD s.ecoFull = s.ecoFull
  rcases heco with h | h <;> rw [h] <;> rfl

theorem State.discardFrame_port (s : State) (p q : Port) : (s.discardFrame p).judgeEco.port q =
    if q = p then { (s.port p).countDrop with assembler := .discarding } else s.port q := by
  show (State.frameReported _).port q = _
  rw [State.port, State.frameReported_ports, ← State.port, State.port_setPort]

theorem State.frameDiscarded_begins (hl : s.listening p = true) (hd : (s.port p).assembler ≠ .discarding)
    (hreply : (s.port p).reply.isSome = true) : exec (.frameDiscarded p) s = .next (s.discardFrame p).judgeEco :=
  congrArg Host.Outcome.next (if_pos (by simp [hl, hd, hreply]))

/-- A frame that arrives during a reply is discarded as by its first character (R136). -/
theorem State.takeFrame_during_reply (hreply : (s.port p).reply.isSome = true) (cmd : Byte) (ops : List Byte) (chk : Byte)
    (act : State → Answer) : Host.Outcome.next (s.takeFrame p cmd ops chk act) = exec (.frameDiscarded p) s := by
  show _ = Host.Outcome.next (if _ then _ else _)
  unfold State.takeFrame
  by_cases hl : s.listening p = true <;> by_cases hd : (s.port p).assembler = .discarding <;> simp [hl, hd, hreply]

theorem State.stepChar_of {c : Byte} {t : State} (h : s.receiveChar p c = (t, none)) : s.stepChar p c = .next t := by
  unfold State.stepChar
  rw [h]

theorem State.stepChar_runs {c : Byte} {t : State} {i : Instr} (h : s.receiveChar p c = (t, some i)) :
    s.stepChar p c = exec i t := by
  unfold State.stepChar
  rw [h]

/-- A character of a frame that a ready port takes (R134). -/
theorem State.stepChar_ready (hr : s.ready p) (c : Byte) :
    let bytes := (s.port p).assembler.received ++ [c]
    (bytes.length < frameLength (byteAt bytes 0) →
      s.stepChar p c = .next (s.setPort p { s.port p with assembler := .assembling bytes })) ∧
    (bytes.length = frameLength (byteAt bytes 0) → ∃ i : Instr,
      i.wellFormed = true ∧ i.sentOn = some p ∧ i.frame = some bytes ∧
      s.stepChar p c = exec i (s.setPort p { s.port p with assembler := .idle })) := by
  intro bytes
  obtain ⟨hrun, hd, hreply⟩ := hr
  rcases s.receiveChar_cases p c with ⟨hl | hd', -⟩ | ⟨-, -, ⟨hreply', -⟩ | ⟨-, hshort, h⟩ | ⟨-, hwhole, h⟩⟩
  · rw [State.listening_running hrun] at hl; cases hl
  · exact absurd hd' hd
  · rw [hreply] at hreply'; cases hreply'
  · exact ⟨fun _ => State.stepChar_of h, fun heq => absurd heq (Nat.ne_of_lt hshort)⟩
  · refine ⟨fun hlt => absurd hlt (Nat.not_lt.2 hwhole), fun heq => ?_⟩
    cases hbytes : bytes with
    | nil => exact absurd hbytes (List.append_ne_nil_of_right_ne_nil _ (List.cons_ne_nil _ _))
    | cons cmd rest =>
      rw [hbytes] at heq
      obtain ⟨i, hdecode, hwell, hport, hframe⟩ := decodeFrame_complete p heq
      refine ⟨i, hwell, hport, hframe, State.stepChar_runs (h.trans ?_)⟩
      exact congrArg (Prod.mk _) ((congrArg (decodeFrame p) hbytes).trans hdecode)

/-- A character that is not taken (R136, R147, R153). -/
theorem State.stepChar_ignored (c : Byte) (h : s.listening p = false ∨ (s.port p).assembler = .discarding) :
    s.stepChar p c = .next s := by
  rcases s.receiveChar_cases p c with ⟨-, hc⟩ | ⟨hl, hd, -⟩
  · exact State.stepChar_of hc
  · exact absurd h (not_or.2 ⟨by rw [hl]; exact Bool.noConfusion, hd⟩)

/-- A character that begins a frame during a reply (R136). -/
theorem State.stepChar_during_reply (c : Byte) (hrun : s.phase = .running) (hreply : (s.port p).reply.isSome = true)
    (hd : (s.port p).assembler ≠ .discarding) : s.stepChar p c = exec (.frameDiscarded p) s := by
  rcases s.receiveChar_cases p c with ⟨hl | hd', -⟩ | ⟨-, -, ⟨-, h⟩ | ⟨hnone, -, -⟩ | ⟨hnone, -, -⟩⟩
  · rw [State.listening_running hrun] at hl; cases hl
  · exact absurd hd' hd
  · exact State.stepChar_runs h
  · rw [hnone] at hreply; cases hreply
  · rw [hnone] at hreply; cases hreply

end

/-- Settles O48: the rows of a port's frames, and its characters by the cases of the assembler. -/
theorem portTakesOneFrameAtATime : Obligations.PortTakesOneFrameAtATime := by
  unfold Obligations.PortTakesOneFrameAtATime
  refine ⟨fun s p hr => ?_, fun s p hrun hd hreply => ?_, fun s p hd => congrArg Host.Outcome.next (if_pos hd),
    fun s p hrun => congrArg Host.Outcome.next (if_neg fun h => by rw [hrun] at h; cases h.1), fun i p s hwell hport hreply => ?_,
    fun s p c rest hpending hincoming => ?_, fun s p c hr => ?_, fun s p c => ⟨fun hd => ?_, fun hrun hreply hd => ?_, fun h => ?_⟩,
    by decide⟩
  · obtain ⟨hrun, hd, hreply⟩ := hr
    refine (congrArg Host.Outcome.next (if_pos (by simp [State.listening_running hrun, hd, hreply]))).trans ?_
    have hmin : min ((s.port p).drops + 1) countLimit = if (s.port p).drops < 65535 then (s.port p).drops + 1 else 65535 := by
      rw [countLimit]; split <;> omega
    rw [← hmin]
    rfl
  · refine ⟨_, State.frameDiscarded_begins (State.listening_running hrun p) hd hreply, s.discardFrame_heard p, ?_, ?_, fun q hq => ?_⟩
    · exact State.putBack_frameReported s _
    · rw [State.discardFrame_port, if_pos rfl]; rfl
    · rw [State.discardFrame_port, if_neg hq]
  · obtain ⟨cmd, rest, hframe⟩ := Instr.frame_of_sentOn hport
    obtain ⟨ops, chk, -, hexec⟩ := Instr.exec_frame hwell hport hframe
    obtain ⟨act, hi⟩ := hexec s
    rw [hi, State.takeFrame_during_reply hreply]
  · unfold step
    rw [hpending, hincoming]
  · intro bytes
    have hbytes : bytes = (s.port p).assembler.received ++ [c] := by
      simp only [bytes]
      cases (s.port p).assembler <;> rfl
    rw [hbytes]
    exact State.stepChar_ready hr c
  · exact State.stepChar_ignored c (.inr hd)
  · exact State.stepChar_during_reply c hrun hreply hd
  · refine State.stepChar_ignored c (.inl ?_)
    rcases h with h | h | ⟨h, hp⟩ <;> simp [State.listening, h] 
    exact hp

end Sys2Proof.Machine

/-! Test mode and injection (R92, R131, R132). -/

namespace Sys2Proof.Machine

section
variable (s : State)

@[simp] theorem State.received_vehicle_testMode (p : Port) : (s.received p).vehicle.testMode = s.vehicle.testMode := by
  rw [s.received_form p]

/-! ## The answers -/

theorem State.testModeAnswer_badArg {operand : Byte} (h : 1 < operand.toNat) : s.testModeAnswer operand = s.answer .badArg := by
  rw [State.testModeAnswer, if_neg (fun e => by rw [e] at h; exact absurd h (by decide)),
    if_neg (fun e => by rw [e] at h; exact absurd h (by decide))]

theorem State.testModeAnswer_off : s.testModeAnswer 0 = s.testOff.answer .ok := rfl

theorem State.testOn_on {s : State} (h : s.vehicle.testMode = true) : s.testOn = s := if_pos h

theorem State.testOn_off {s : State} (h : s.vehicle.testMode = false) :
    s.testOn = { s with vehicle := { s.vehicle with testMode := true }, reminderTimer := some 25 } :=
  if_neg (by rw [h]; exact Bool.false_ne_true)

theorem State.testOff_off {s : State} (h : s.vehicle.testMode = false) : s.testOff = s :=
  if_neg (by rw [h]; exact Bool.false_ne_true)

theorem State.testOff_on {s : State} (h : s.vehicle.testMode = true) : s.testOff = s.endTestMode := if_pos h

theorem State.endTestMode_pos (p : Pos) : s.endTestMode.pos p = { s.pos p with injection := none } :=
  PerPos.get_ofFn _ p

/-- INJECT SAMPLE with an operand outside its set. -/
theorem State.injectAnswer_badArg {n : Byte} {bytes : List Byte} (h : positionOf n = none ∨ injectedSample bytes = none) :
    s.injectAnswer n bytes = s.answer .badArg := by
  unfold State.injectAnswer
  rcases h with h | h
  · rw [h]
  · rw [h]
    cases positionOf n <;> rfl

/-- What INJECT SAMPLE asks once its operands and the gate are passed. -/
def State.injected (s : State) (p : Pos) (x : SlotSample) : Answer :=
  if !s.vehicle.testMode then s.answer .badArg
  else if !s.serves p then s.answer .badArg
  else (s.setInjection p (some x)).answer .ok

theorem State.injectAnswer_eq {n : Byte} {bytes : List Byte} {p : Pos} {x : SlotSample} (hn : positionOf n = some p)
    (hx : injectedSample bytes = some x) : s.injectAnswer n bytes = s.gated (s.injected p x) := by
  unfold State.injectAnswer
  rw [hn, hx]
  rfl

end

/-! ## The operands of INJECT SAMPLE -/

theorem byteAt_toList {n : Nat} (v : Vector Byte n) (i : Fin n) : byteAt v.toList i.val = v.get i := by
  rw [byteAt, List.getD_eq_getElem?_getD, List.getElem?_eq_getElem (by simp)]
  simp [Vector.get]

/-- The sample that the operands carry, with as many tags as the tag count says. -/
def operandSample (v : Vector Byte 20) : SlotSample :=
  { statusFault := decide (v.get 5 = 1)
    buckle := BitVec.ofNat 2 (v.get 6).toNat
    load := (v.get 0).toNat * 256 + (v.get 1).toNat
    cells := (v.get 2).toNat
    peak := (v.get 3).toNat * 256 + (v.get 4).toNat
    tags := [tagAt v.toList 8, tagAt v.toList 14].take (v.get 7).toNat }

theorem toNat_eq_one (b : Byte) : b.toNat = 1 ↔ b = 1 := ⟨fun h => BitVec.eq_of_toNat_eq h, fun h => by rw [h]; rfl⟩

theorem injectedSample_eq {v : Vector Byte 20} (hmat : (v.get 5).toNat ≤ 1) (hbuckle : (v.get 6).toNat ≤ 3)
    (htags : (v.get 7).toNat ≤ 2) : injectedSample v.toList = some (operandSample v) := by
  have h (i : Fin 20) := byteAt_toList v i
  have htake : (if (v.get 7).toNat = 0 then [] else if (v.get 7).toNat = 1 then [tagAt v.toList 8]
      else [tagAt v.toList 8, tagAt v.toList 14]) = [tagAt v.toList 8, tagAt v.toList 14].take (v.get 7).toNat := by
    generalize (v.get 7).toNat = k at htags
    interval_cases k <;> rfl
  have hread : byteAt v.toList 5 = v.get 5 ∧ byteAt v.toList 6 = v.get 6 ∧ byteAt v.toList 7 = v.get 7 := ⟨h 5, h 6, h 7⟩
  have hload : numberAt v.toList 0 = (v.get 0).toNat * 256 + (v.get 1).toNat := by
    rw [numberAt, show byteAt v.toList 0 = v.get 0 from h 0, show byteAt v.toList (0 + 1) = v.get 1 from h 1, fromBytes]
  have hpeak : numberAt v.toList 3 = (v.get 3).toNat * 256 + (v.get 4).toNat := by
    rw [numberAt, show byteAt v.toList 3 = v.get 3 from h 3, show byteAt v.toList (3 + 1) = v.get 4 from h 4, fromBytes]
  have hcells : byteAt v.toList 2 = v.get 2 := h 2
  unfold injectedSample operandSample
  simp only [hread, hload, hpeak, hcells, toNat_eq_one] at htake ⊢
  rw [if_pos ⟨hmat, hbuckle, htags⟩, htake]

theorem injectedSample_none {v : Vector Byte 20} (h : 1 < (v.get 5).toNat ∨ 3 < (v.get 6).toNat ∨ 2 < (v.get 7).toNat) :
    injectedSample v.toList = none := by
  have hread (i : Fin 20) := byteAt_toList v i
  unfold injectedSample
  simp only [show byteAt v.toList 5 = v.get 5 from hread 5, show byteAt v.toList 6 = v.get 6 from hread 6,
    show byteAt v.toList 7 = v.get 7 from hread 7]
  exact if_neg (by omega)

/-- Settles O47. -/
theorem testModeAndInjectionFollowTheirChecks : Obligations.TestModeAndInjectionFollowTheirChecks := by
  unfold Obligations.TestModeAndInjectionFollowTheirChecks
  refine ⟨?on, ?off, ?inject, ?ends⟩
  case on =>
    intro s operand chk hr hs i
    refine ⟨fun h => State.answers_unchanged rfl hr hs rfl rfl (State.testModeAnswer_badArg _ h), fun h => ?_⟩
    subst h
    refine ⟨State.gateRefuses_of _ rfl hr hs rfl rfl rfl, fun hopen hmode => ?_, fun hopen hmode => ?_⟩
    · refine State.answers_unchanged rfl hr hs rfl rfl ((State.gated_open hopen .service _).trans ?_)
      rw [State.testOn_on (by rwa [State.received_vehicle_testMode])]
      rfl
    · have hact : (s.received .service).testModeAnswer 1 = { state := _, status := .ok, data := [] } :=
        (State.gated_open hopen .service _).trans
          (congrArg (State.answer · .ok) (State.testOn_off (by rwa [State.received_vehicle_testMode])))
      have h := State.answers_of (i := i) rfl hr hs rfl rfl hact rfl (s.received_mode .service) rfl rfl
        (congrArg LiveConfig.settings (s.received_config .service))
      have hput := congrArg (fun t : State => { t with vehicle := { t.vehicle with testMode := true }, reminderTimer := some 25 })
        (s.putBack_received .service)
      exact hput ▸ h
  case off =>
    intro s chk hr hs i
    refine ⟨fun hmode => State.answers_unchanged rfl hr hs rfl rfl ?_, fun hmode => ?_⟩
    · rw [State.testModeAnswer_off, State.testOff_off (by rwa [State.received_vehicle_testMode])]
      rfl
    · have hact : (s.received .service).testModeAnswer 0 = { state := (s.received .service).endTestMode, status := .ok, data := [] } :=
        congrArg (State.answer · .ok) (State.testOff_on (by rwa [State.received_vehicle_testMode]))
      obtain ⟨t, hexec, hanswered, hput⟩ := State.answers_of (i := i) rfl hr hs rfl rfl hact rfl (s.received_mode .service) rfl rfl
        (congrArg LiveConfig.settings (s.received_config .service))
      refine ⟨t, hexec, hanswered, fun p => ?_, ?_⟩
      · have hpos : t.pos p = (s.received .service).endTestMode.pos p := (congrArg (fun u : State => u.pos p) hput :)
        rw [hpos, State.endTestMode_pos, State.received_pos]
      · rw [hput]
        exact congrArg (fun u : State => { u with
          positions := s.positions, vehicle := { u.vehicle with testMode := false }, reminderTimer := some 800 })
          (s.putBack_received .service)
  case inject =>
    intro s n chk v hr hs i
    refine ⟨fun h => State.answers_unchanged rfl hr hs rfl rfl (State.injectAnswer_badArg _ ?_),
      fun p hn hmat hbuckle htags => ?_⟩
    · rcases h with h | h | h
      · exact .inl (positionOf_none (.inl h))
      · exact .inl (positionOf_none (.inr h))
      · exact .inr (injectedSample_none h)
    · have hact (u : State) : u.injectAnswer n v.toList = u.gated (u.injected p (operandSample v)) :=
        State.injectAnswer_eq u (positionOf_eq hn) (injectedSample_eq hmat hbuckle htags)
      have hopened (hopen : s.gateOpen) : (s.received .service).injectAnswer n v.toList =
          (s.received .service).injected p (operandSample v) := (hact _).trans (State.gated_open hopen .service _)
      refine ⟨State.gateRefuses_of _ rfl hr hs rfl rfl (hact _), fun hopen h => ?_, fun hopen hmode hserves => ?_⟩
      · refine State.answers_unchanged rfl hr hs rfl rfl ((hopened hopen).trans ?_)
        rw [State.injected, State.received_vehicle_testMode, State.received_serves]
        rcases h with h | h
        · rw [h]; rfl
        · rw [h]; cases s.vehicle.testMode <;> rfl
      · have hset : (s.received .service).injectAnswer n v.toList =
            { state := (s.received .service).modPos p fun r => { r with injection := some (operandSample v) }, status := .ok
              data := [] } := by
          rw [hopened hopen, State.injected, State.received_vehicle_testMode, State.received_serves, hmode, hserves]
          rfl
        have h := State.answers_of (i := i) rfl hr hs rfl rfl hset rfl (s.received_mode .service) rfl rfl
          (congrArg LiveConfig.settings (s.received_config .service))
        rw [State.putBack_received_modPos] at h
        refine ⟨operandSample v, rfl, ?_, rfl, rfl, rfl, rfl, h⟩
        exact Nat.mod_eq_of_lt (Nat.lt_succ_of_le hbuckle)
  case ends =>
    intro s n chk hr hs
    refine ⟨fun h => State.answers_unchanged rfl hr hs rfl rfl (State.onPosition_badArg h _ _), fun p hn => ?_⟩
    have hact : ((s.received .service).onPosition n fun q => ((s.received .service).setInjection q none).answer .ok) =
        { state := (s.received .service).modPos p fun r => { r with injection := none }, status := .ok, data := [] } :=
      (State.onPosition_eq hn _ _).trans rfl
    have h := State.answers_of (act := fun s => s.onPosition n fun q => (s.setInjection q none).answer .ok)
      (i := .endInject .service n chk) rfl hr hs rfl rfl hact rfl (s.received_mode .service) rfl rfl
      (congrArg LiveConfig.settings (s.received_config .service))
    rwa [State.putBack_received_modPos] at h

end Sys2Proof.Machine

/-! The reads: their records byte by byte, and that a read changes nothing (R17, R37, R53, R69, R87, R105, R110, R140). -/

namespace Sys2Proof.Machine

/-! ## The airbag position (R107) -/

theorem getElem_allPos {i : Nat} (h : i < allPos.length) (p : Pos) : allPos[i] = p ↔ i = p.val := by
  have hall : allPos = List.finRange 16 := by decide
  simp only [hall, List.getElem_finRange, Fin.ext_iff]
  rfl

/-- An airbag entry, as the map's fields say. -/
theorem MapEntry.isAirbag_iff (e : MapEntry) : e.isAirbag = true ↔ e.enabled = true ∧ e.airbagZone = true := by
  simp [MapEntry.isAirbag]

/-- The airbag position is the first that is enabled with airbag zone YES. -/
theorem State.airbag_eq_some {s : State} {p : Pos} : s.airbag = some p ↔
    (s.entry p).enabled = true ∧ (s.entry p).airbagZone = true ∧
      ∀ q : Pos, q < p → ¬ ((s.entry q).enabled = true ∧ (s.entry q).airbagZone = true) := by
  rw [State.airbag, List.find?_eq_some_iff_getElem, MapEntry.isAirbag_iff, and_assoc]
  refine and_congr_right fun _ => and_congr_right fun _ => ⟨fun ⟨i, hi, hp, hfirst⟩ q hq => ?_, fun hfirst => ?_⟩
  · have h := hfirst q.val (((getElem_allPos hi p).1 hp).symm ▸ hq)
    rw [(getElem_allPos _ q).2 rfl] at h
    rw [← MapEntry.isAirbag_iff]
    simpa using h
  · refine ⟨p.val, p.isLt, (getElem_allPos _ p).2 rfl, fun j hj => ?_⟩
    have h := hfirst ⟨j, hj.trans p.isLt⟩ hj
    rw [← MapEntry.isAirbag_iff] at h
    rw [(getElem_allPos (hj.trans p.isLt) ⟨j, hj.trans p.isLt⟩).2 rfl]
    simpa using h

theorem State.airbag_eq_none {s : State} : s.airbag = none ↔
    ∀ p : Pos, ¬ ((s.entry p).enabled = true ∧ (s.entry p).airbagZone = true) := by
  rw [State.airbag, List.find?_eq_none]
  exact ⟨fun h p => by rw [← MapEntry.isAirbag_iff]; exact h p (mem_allPos p), fun h p _ => by
    rw [MapEntry.isAirbag_iff]; exact h p⟩

/-! ## Records as numbers -/

section
variable (s : State)

theorem toNat_twoBytes (n : Nat) : (twoBytes n).map (·.toNat) = [n / 256 % 256, n % 256] := by simp [twoBytes]

theorem toNat_flagByte (b : Bool) : (flagByte b).toNat = b.toNat := by cases b <;> rfl

theorem Bool.toNat_mod (b : Bool) : b.toNat % 256 = b.toNat := by cases b <;> rfl

theorem toNat_byte_mod (b : Byte) : b.toNat % 256 = b.toNat := Nat.mod_eq_of_lt b.isLt

/-- A stored tag as numbers (spec 11.4). -/
def tagNumbers : Option TagRecord → List Nat
  | none => [0, 0, 0, 0, 0, 0]
  | some t => [t.id.toNat / 2 ^ 24, t.id.toNat / 2 ^ 16, t.id.toNat / 2 ^ 8, t.id.toNat,
      t.orientation.toNat + 128 * t.weak.toNat, t.mass.toNat]

theorem toNat_tagOrZero (t : Option TagRecord) : (tagOrZero t).map (·.toNat) = (tagNumbers t).map (· % 256) := by
  cases t with
  | none => rfl
  | some t => cases h : t.weak <;> simp [tagOrZero, tagNumbers, TagRecord.bytes, BitVec.extractLsb'_toNat, Nat.shiftRight_eq_div_pow, h, toNat_byte_mod]

/-- READ POSITION (R53, R69, R87, R105). -/
theorem State.positionData_numbers (q : Pos) : (s.positionData q).map (·.toNat) =
    let r := s.pos q
    ([q.val + 1, r.cls.stable.code, r.cls.cause.code, r.cls.candidate.code, r.cls.agreement, r.cls.lastInstant.code,
      r.cls.sequence.toNat,
      r.cls.resolveMark.toNat + 2 * r.load.seeded.toNat + 4 * r.child.loadFlag.toNat + 8 * r.reminder.confirmed.toNat +
        16 * r.watched.toNat + 32 * r.injection.isSome.toNat,
      r.load.w / 256, r.load.w, r.load.f16 / 16 / 256, r.load.f16 / 16, r.load.band, r.load.n, r.load.k,
      r.child.accepted.code, r.child.pending.code, r.child.pendingCount, r.child.dropout, r.child.tags.length] ++
      tagNumbers r.child.tags[0]? ++ tagNumbers r.child.tags[1]? ++
      [r.buckle.belt.code, r.buckle.pending.code, r.buckle.count, r.reminder.step.code, r.reminder.timer / 256,
        r.reminder.timer, r.reminder.reissues, r.reminder.scans]).map (· % 256) := by
  have hflags (a b c d e f : Bool) : (flagsByte [a, b, c, d, e, f]).toNat =
      (a.toNat + 2 * b.toNat + 4 * c.toNat + 8 * d.toNat + 16 * e.toNat + 32 * f.toNat) % 256 := by
    simp only [flagsByte, List.foldr, toNat_oneByte]
    omega
  simp only [State.positionData, List.map_append, toNat_tagOrZero, toNat_twoBytes, List.map_cons, List.map_nil, toNat_oneByte,
    hflags, posNumber, toNat_byte_mod, LoadRec.f, List.cons_append, List.nil_append, List.append_assoc]

/-- READ SUMMARY (R87). -/
theorem State.summaryData_numbers : s.summaryData.map (·.toNat) =
    (((List.finRange 16).flatMap fun p =>
        [(s.pos p).cls.stable.code, (s.pos p).cls.cause.code, (s.pos p).cls.sequence.toNat]) ++
      [s.holdActive.toNat, s.scanner.number.toNat / 256, s.scanner.number.toNat]).map (· % 256) := by
  have hall : allPos = List.finRange 16 := by decide
  simp only [State.summaryData, hall, List.map_append, List.map_flatMap, List.map_cons, List.map_nil, toNat_oneByte, toNat_byte_mod,
    toNat_flagByte, Bool.toNat_mod, halfBytes, toNat_twoBytes, List.append_assoc, List.cons_append, List.nil_append]

/-- The class part of READ SUPPRESSION as numbers (R110). -/
def State.airbagNumbers (s : State) : List Nat :=
  match s.airbag with
  | none => [0, 1, 0]
  | some p => [p.val + 1, (s.pos p).cls.stable.code, (s.pos p).cls.cause.code]

/-- READ SUPPRESSION (R110). -/
theorem State.suppressionData_numbers : s.suppressionData.map (·.toNat) =
    ([s.restraint.suppression.code, s.restraint.sequence.toNat] ++ s.airbagNumbers ++
      [s.holdActive.toNat, s.restraint.lastExpired.toNat, s.restraint.holdCount,
        s.restraint.snapshots.length]).map (· % 256) := by
  have hairbag : s.airbagData.map (·.toNat) = s.airbagNumbers.map (· % 256) := by
    unfold State.airbagData State.airbagNumbers
    cases s.airbag with
    | none => rfl
    | some p => simp only [List.map_cons, List.map_nil, toNat_oneByte, posNumber]
  simp only [State.suppressionData, List.map_append, hairbag, List.map_cons, List.map_nil, toNat_oneByte, toNat_byte_mod,
    toNat_flagByte, Bool.toNat_mod]

/-- A reported capability pair as a number, with none as zero (R155). -/
def capNumber : Option (Bool × Bool) → Nat
  | none => 0
  | some c => c.1.toNat + 2 * c.2.toNat

/-- The identity part of READ NODE as numbers (R37). -/
def NodeRec.identityNumbers (n : NodeRec) : List Nat :=
  match n.identity with
  | none => [0, 0, 0, 0, 0, 0, 0, 0, 0]
  | some id => [1, id.id.toNat / 65536, id.id.toNat / 256, id.id.toNat, id.slots] ++
      [0, 1, 2, 3].map fun k => (id.caps.getD k (false, false)).1.toNat + 2 * (id.caps.getD k (false, false)).2.toNat

theorem NodeRec.identityData_numbers (n : NodeRec) : n.identityData.map (·.toNat) = n.identityNumbers.map (· % 256) := by
  have hcap (c : Bool × Bool) : (capByte c).toNat = (c.1.toNat + 2 * c.2.toNat) % 256 := by
    simp only [capByte, flagsByte, List.foldr, toNat_oneByte]
    omega
  unfold NodeRec.identityData NodeRec.identityNumbers
  cases n.identity with
  | none => rfl
  | some id =>
    simp only [identityBytes_eq, List.map_append, List.map_cons, List.map_nil, toNat_oneByte, toNat_flagByte, hcap]
    rfl

/-- READ NODE (R37). -/
theorem State.nodeData_numbers (l : Line) (a : Fin 6) : (s.nodeData l a).map (·.toNat) =
    let n := s.node l a
    ([lineCode l, a.val + 1, n.state.code, n.misses, n.verdict.code] ++ n.identityNumbers ++
      [n.timeouts / 256, n.timeouts, n.crcErrors / 256, n.crcErrors, n.formatErrors / 256, n.formatErrors,
        s.scanner.number.toNat / 256, s.scanner.number.toNat]).map (· % 256) := by
  simp only [State.nodeData, List.map_append, NodeRec.identityData_numbers, List.map_cons, List.map_nil, toNat_oneByte, halfBytes,
    toNat_twoBytes, List.append_assoc, List.cons_append, List.nil_append]

/-- READ MAP ENTRY (R17). -/
theorem State.mapEntryData_bytes (q : Pos) : s.mapEntryData q = (s.entry q).bytes ++
    [BitVec.ofNat 8 (s.pos q).fit.code, BitVec.ofNat 8 ((s.pos q).childCap.toNat + 2 * (s.pos q).beltCap.toNat),
      BitVec.ofNat 8 (s.staging.entries.get q).isSome.toNat,
      BitVec.ofNat 8 ((List.finRange 16).filter fun p => (s.staging.entries.get p).isSome).length,
      BitVec.ofNat 8 s.staging.deferred.toNat] := by
  have hflags (a b : Bool) : flagsByte [a, b] = BitVec.ofNat 8 (a.toNat + 2 * b.toNat) := by revert a b; decide
  have hflag (a : Bool) : flagByte a = BitVec.ofNat 8 a.toNat := by revert a; decide
  have hall : allPos = List.finRange 16 := by decide
  simp only [State.mapEntryData, hflags, hflag, Staging.count, hall]
  rfl

end

/-! ## A read changes nothing -/

/-- A command that answers with a record changes nothing but what every frame may. -/
theorem State.answers_data {s : State} {i : Instr} {p : Port} {cmd : Byte} {ops : List Byte} {chk : Byte}
    {act : State → Answer} (data : State → List Byte) (hi : exec i s = .next (s.takeFrame p cmd ops chk act)) (hr : s.ready p)
    (hs : soundFrame cmd ops chk) (hk : (operandLength cmd).isSome = true) (hp : permitted p cmd = true)
    (hact : act (s.received p) = (s.received p).answerData (data (s.received p))) (hdata : data (s.received p) = data s) :
    s.Answers i p cmd .ok (data s) s :=
  State.answers_unchanged hi hr hs hk hp (by rw [hact, hdata]; rfl)

section
variable {s : State} {p : Port}

theorem State.received_positionData (q : Pos) : (s.received p).positionData q = s.positionData q := by
  rw [s.received_form p]; rfl

theorem State.received_summaryData : (s.received p).summaryData = s.summaryData := by rw [s.received_form p]; rfl

theorem State.received_suppressionData : (s.received p).suppressionData = s.suppressionData := by rw [s.received_form p]; rfl

theorem State.received_mapEntryData (q : Pos) : (s.received p).mapEntryData q = s.mapEntryData q := by
  rw [s.received_form p]; rfl

theorem State.received_stagedData (q : Pos) : (s.received p).stagedData q = s.stagedData q := by
  rw [s.received_form p]; rfl

theorem State.received_nodeData (l : Line) (a : Fin 6) : (s.received p).nodeData l a = s.nodeData l a := by
  rw [s.received_form p]; rfl

theorem State.received_identifyData : (s.received p).identifyData p = s.identifyData p := by rw [s.received_form p]; rfl

/-- READ NODE by its two operands (R37). -/
def State.nodeAnswer (s : State) (line a : Byte) : Answer :=
  match lineOfCode line.toNat, indexFromOne 6 a with
  | some l, some a => s.answerData (s.nodeData l a)
  | _, _ => s.answer .badArg

theorem execReadNode_eq (p : Port) (line a chk : Byte) (s : State) :
    exec (.readNode p line a chk) s = .next (s.takeFrame p 0x6C [line, a] chk fun s => s.nodeAnswer line a) := rfl

theorem State.nodeAnswer_badArg {line a : Byte} (h : 1 < line.toNat ∨ a = 0 ∨ 6 < a.toNat) (s : State) :
    s.nodeAnswer line a = s.answer .badArg := by
  unfold State.nodeAnswer
  split
  next l k hl hk =>
    have hline := lineOfCode_eq_some.1 hl
    have haddress := indexFromOne_eq_some.1 hk
    have hcode : lineCode l ≤ 1 := by cases l <;> decide
    rcases h with h | h | h
    · omega
    · rw [h] at haddress; cases haddress
    · omega
  · rfl

theorem State.nodeAnswer_eq {line a : Byte} {l : Line} {k : Fin 6} (hl : line.toNat = lineCode l) (ha : a.toNat = k.val + 1)
    (s : State) : s.nodeAnswer line a = s.answerData (s.nodeData l k) := by
  rw [State.nodeAnswer, lineOfCode_eq_some.2 hl, indexFromOne_eq_some.2 ha]

end

/-- Settles O52. -/
theorem readsReturnTheirRecordsAndChangeNothing : Obligations.ReadsReturnTheirRecordsAndChangeNothing := by
  unfold Obligations.ReadsReturnTheirRecordsAndChangeNothing
  have hcommon (p : Port) {cmd : Byte} (hfirst : 1 ≤ cmd.toNat) (hlast : cmd.toNat ≤ 5) := permitted_common hfirst hlast p
  refine ⟨fun s p chk hr hs => ?_, fun s p chk hr hs => ?_, fun s p n chk hr hs => ⟨fun h => ?_, fun q hq => ?_⟩, fun s chk hr hs => ?_,
    fun s n chk hr => ⟨fun hs => ⟨fun h => ?_, fun q hq => ?_⟩, fun hs => ⟨fun h => ?_, fun q hq => ?_⟩⟩,
    fun s line a chk hr hs => ⟨fun h => ?_, fun l k hl hk => ?_⟩, ?_, fun s => ⟨s.summaryData_numbers, ?_, fun p => State.airbag_eq_some⟩,
    ?_, by decide⟩
  · exact State.answers_data (fun s => s.identifyData p) rfl hr hs rfl (hcommon p (by decide) (by decide)) rfl
      State.received_identifyData
  · exact State.answers_data State.summaryData rfl hr hs rfl (hcommon p (by decide) (by decide)) rfl State.received_summaryData
  · exact State.answers_unchanged rfl hr hs rfl (hcommon p (by decide) (by decide)) (State.onPosition_badArg h _ _)
  · exact State.answers_data (fun s => s.positionData q) rfl hr hs rfl (hcommon p (by decide) (by decide))
      (State.onPosition_eq hq _ _) (State.received_positionData q)
  · exact State.answers_data State.suppressionData rfl hr hs rfl rfl rfl State.received_suppressionData
  · exact State.answers_unchanged rfl hr hs rfl rfl (State.onPosition_badArg h _ _)
  · exact State.answers_data (fun s => s.mapEntryData q) rfl hr hs rfl rfl (State.onPosition_eq hq _ _) (State.received_mapEntryData q)
  · exact State.answers_unchanged rfl hr hs rfl rfl (State.onPosition_badArg h _ _)
  · exact State.answers_data (fun s => s.stagedData q) rfl hr hs rfl rfl (State.onPosition_eq hq _ _) (State.received_stagedData q)
  · exact State.answers_unchanged (execReadNode_eq _ _ _ _ _) hr hs rfl rfl (State.nodeAnswer_badArg h _)
  · exact State.answers_data (fun s => s.nodeData l k) (execReadNode_eq _ _ _ _ _) hr hs rfl rfl (State.nodeAnswer_eq hl hk _)
      (State.received_nodeData l k)
  · intro s q r tag
    have htag (t : Option TagRecord) : tag t = tagNumbers t := by cases t <;> rfl
    refine ⟨?_, s.mapEntryData_bytes q, ?_⟩
    · rw [htag, htag]; exact s.positionData_numbers q
    · unfold State.stagedData
      cases s.staging.entries.get q <;> rfl
  · rw [s.suppressionData_numbers]
    unfold State.airbagNumbers
    cases s.airbag <;> rfl
  · intro s l a n
    rw [s.nodeData_numbers l a]
    simp only [NodeRec.identityNumbers]
    cases (s.node l a).identity with
    | none => simp only [n]
    | some id =>
      have hcap (k : Nat) : (id.caps.getD k (false, false)).1.toNat + 2 * (id.caps.getD k (false, false)).2.toNat =
          capNumber id.caps[k]? := by
        rw [List.getD_eq_getElem?_getD]
        cases id.caps[k]? <;> rfl
      simp only [n, hcap]
      rfl

end Sys2Proof.Machine

/-! The replies of the seat nodes: judging what an exchange received by the cases of R25, and reading a reply back (R23 to R25, R154,
spec 11.1). -/

namespace Sys2Proof.Machine

/-! ## Bytes of a concatenation -/

theorem byteAt_append_right (a b : List Byte) {o n : Nat} (h : o = a.length + n) : byteAt (a ++ b) o = byteAt b n := by
  subst h
  simp [byteAt, List.getD_eq_getElem?_getD, List.getElem?_append_right]

theorem byteAt_slice (b : List Byte) {o n i : Nat} (h : i < n) : byteAt (slice b o n) i = byteAt b (o + i) := by
  simp [byteAt, slice, List.getD_eq_getElem?_getD, h]

theorem byteAt_of_length_le {b : List Byte} {i : Nat} (h : b.length ≤ i) : byteAt b i = 0 := by
  simp [byteAt, List.getD_eq_getElem?_getD, List.getElem?_eq_none h]

theorem halfBytes_append (x : Half) : byteAt (halfBytes x) 0 ++ byteAt (halfBytes x) 1 = x := by
  have h := x.isLt
  apply BitVec.eq_of_toNat_eq
  rw [toNat_append_byte]
  show (oneByte (x.toNat / 256)).toNat * 256 + (oneByte x.toNat).toNat = x.toNat
  rw [toNat_oneByte, toNat_oneByte]
  omega

/-! ## Judging by the first case (R25) -/

section
variable (x : Exchange) (slots : Nat) (chars : List Byte)

/-- The characters of a reply hold as many bytes as its length field says, and the CRC agrees (R24, R25). -/
def ReplyWhole (chars : List Byte) : Prop :=
  let len := (byteAt chars 3).toNat
  byteAt chars 0 = 0xC3 ∧ len ≤ 73 ∧ len + 6 ≤ chars.length

/-- The CRC of a reply agrees with its last two bytes (R24). -/
abbrev ReplySound (chars : List Byte) : Prop :=
  let len := (byteAt chars 3).toNat
  crc16 ((chars.drop 1).take (len + 3)) = byteAt chars (len + 4) ++ byteAt chars (len + 5)

theorem ne_nil_of_sync {chars : List Byte} (h : byteAt chars 0 = 0xC3) : chars ≠ [] := by
  rintro rfl
  cases h

theorem judgeReply_nothing : judgeReply x slots [] = .miss .timeout := rfl

theorem judgeReply_unsynced (hne : chars ≠ []) (h : byteAt chars 0 ≠ 0xC3) : judgeReply x slots chars = .miss .format := by
  unfold judgeReply
  simp only
  rw [if_neg (by simpa using hne), if_pos (show byteAt chars 0 ≠ Config.syncByte from h)]

theorem judgeReply_headCut (hsync : byteAt chars 0 = 0xC3) (h : chars.length < 4) :
    judgeReply x slots chars = .miss .timeout := by
  unfold judgeReply
  simp only
  rw [if_neg (by simpa using ne_nil_of_sync hsync), if_neg (fun k => k hsync), if_pos h]

theorem judgeReply_tooLong (hsync : byteAt chars 0 = 0xC3) (hhead : 4 ≤ chars.length) (h : 73 < (byteAt chars 3).toNat) :
    judgeReply x slots chars = .miss .format := by
  unfold judgeReply
  simp only
  rw [if_neg (by simpa using ne_nil_of_sync hsync), if_neg (fun k => k hsync), if_neg (by omega), if_pos h]

theorem judgeReply_cut (hsync : byteAt chars 0 = 0xC3) (hhead : 4 ≤ chars.length) (hlen : (byteAt chars 3).toNat ≤ 73)
    (h : chars.length < (byteAt chars 3).toNat + 6) : judgeReply x slots chars = .miss .timeout := by
  unfold judgeReply
  simp only
  rw [if_neg (by simpa using ne_nil_of_sync hsync), if_neg (fun k => k hsync), if_neg (by omega), if_neg (by omega), if_pos h]

/-- A whole reply is judged by its CRC, its address, its kind and its contents. -/
theorem judgeReply_whole (h : ReplyWhole chars) : judgeReply x slots chars =
    if ¬ ReplySound chars then .miss .crc
    else if byteAt chars 1 ≠ oneByte (x.address.val + 1 + 0x80) then .miss .format
    else if byteAt chars 2 ≠ x.command.replyKind then .miss .format
    else readPayload x.command slots (slice chars 4 (byteAt chars 3).toNat) := by
  obtain ⟨hsync, hlen, hwhole⟩ := h
  unfold judgeReply
  simp only
  rw [if_neg (by simpa using ne_nil_of_sync hsync), if_neg (fun k => k hsync), if_neg (by omega), if_neg (by omega),
    if_neg (by omega)]
  rfl

end

/-! ## The contents of a reply (R25 case 9, R154) -/

/-- The address byte of a reply (R23). -/
theorem replyAddress_iff (b : Byte) (a : Fin 6) : b = oneByte (a.val + 1 + 0x80) ↔ b.toNat = a.val + 1 + 128 := by
  have ha := a.isLt
  rw [← BitVec.toNat_inj, toNat_oneByte_of_lt (by omega)]

theorem readPayload_sample_empty (slots : Nat) : readPayload .sample slots [] = .miss .format := rfl

theorem readPayload_sample {slots : Nat} {payload : List Byte} (hne : payload ≠ []) {xs : List SlotSample}
    (h : takeSlotBlocks slots (payload.drop 1) = some xs) : readPayload .sample slots payload = .sample (byteAt payload 0) xs := by
  unfold readPayload
  simp only
  rw [if_neg (by simpa using hne), h]

theorem readPayload_sample_unread {slots : Nat} {payload : List Byte} (h : takeSlotBlocks slots (payload.drop 1) = none) :
    readPayload .sample slots payload = .miss .format := by
  unfold readPayload
  simp only
  split
  · rfl
  · rw [h]

theorem readPayload_identify {payload : List Byte} (slots : Nat) {id : NodeIdentity} (h : identityPayload payload = some id) :
    readPayload .identify slots payload = .identity id := by
  unfold readPayload
  simp only
  rw [h]

theorem readPayload_identify_unread {payload : List Byte} (slots : Nat) (h : identityPayload payload = none) :
    readPayload .identify slots payload = .miss .format := by
  unfold readPayload
  simp only
  rw [h]

/-- The tag count of a slot block. -/
def blockTags (b : List Byte) : Nat := (byteAt b 0).toNat / 16 % 4

/-- The sample that a slot block carries. -/
def blockSample (b : List Byte) : SlotSample :=
  { statusFault := (byteAt b 0).getLsbD 0, buckle := (byteAt b 0).extractLsb' 1 2, load := numberAt b 1,
    cells := (byteAt b 3).toNat, peak := numberAt b 4, tags := [tagAt b 6, tagAt b 12].take (blockTags b) }

theorem take_pair {α : Type} (x y : α) {n : Nat} (h : n ≤ 2) :
    (if n = 0 then [] else if n = 1 then [x] else [x, y]) = [x, y].take n := by
  interval_cases n <;> rfl

theorem takeSlotBlock_eq (b : List Byte) : takeSlotBlock b =
    if blockTags b ≤ 2 ∧ 6 + 6 * blockTags b ≤ b.length then some (blockSample b, b.drop (6 + 6 * blockTags b)) else none := by
  have htags : ((byteAt b 0).extractLsb' 4 2).toNat = blockTags b := by
    rw [BitVec.extractLsb'_toNat, Nat.shiftRight_eq_div_pow]; rfl
  unfold takeSlotBlock
  simp only [htags]
  split
  next h => rw [take_pair _ _ h.1]; rfl
  · rfl

/-- Slot blocks are read exactly where they fill the payload. -/
theorem takeSlotBlocks_isSome (n : Nat) (b : List Byte) : (takeSlotBlocks n b).isSome = blocksFill n b := by
  induction n generalizing b with
  | zero => cases b <;> rfl
  | succ n ih =>
    unfold takeSlotBlocks blocksFill
    rw [takeSlotBlock_eq]
    show _ = (decide (blockTags b ≤ 2) && decide (6 + 6 * blockTags b ≤ b.length) && blocksFill n (b.drop (6 + 6 * blockTags b)))
    by_cases h : blockTags b ≤ 2 ∧ 6 + 6 * blockTags b ≤ b.length
    · rw [if_pos h]
      simp [ih, h.1, h.2]
    · rw [if_neg h]
      rcases not_and_or.1 h with h | h <;> simp [h]

theorem takeSlotBlocks_length {n : Nat} {b : List Byte} {xs : List SlotSample} (h : takeSlotBlocks n b = some xs) : xs.length = n := by
  induction n generalizing b xs with
  | zero =>
    unfold takeSlotBlocks at h
    split at h <;> cases h
    rfl
  | succ n ih =>
    unfold takeSlotBlocks at h
    split at h
    · cases h
    · obtain ⟨ys, hys, rfl⟩ := Option.map_eq_some_iff.1 h
      rw [List.length_cons, ih hys]

/-- The identity payload that is read. -/
theorem identityPayload_eq (b : List Byte) : identityPayload b =
    if (1 ≤ (byteAt b 3).toNat ∧ (byteAt b 3).toNat ≤ 4) ∧ b.length = 4 + (byteAt b 3).toNat then
      some { id := identityAt b 0, slots := (byteAt b 3).toNat, caps := (b.drop 4).map fun c => (c.getLsbD 0, c.getLsbD 1) }
    else none := by
  unfold identityPayload
  simp only [within, Bool.and_eq_true, decide_eq_true_eq]

theorem getLsbD_eq_decide (b : Byte) : b.getLsbD 0 = decide (b.toNat % 2 = 1) ∧ b.getLsbD 1 = decide (b.toNat / 2 % 2 = 1) ∧
    b.getLsbD 7 = decide (128 ≤ b.toNat) := by
  revert b
  decide

/-! ## A reply that a node forms -/

section
variable (a : Fin 6) (kind : Byte) (payload : List Byte)

/-- The bytes of a reply before its CRC. -/
def replySpan : List Byte := [oneByte (a.val + 1 + 0x80), kind, oneByte payload.length] ++ payload

theorem replyFrame_eq : replyFrame a kind payload =
    Config.syncByte :: replySpan a kind payload ++ halfBytes (crc16 (replySpan a kind payload)) := rfl

theorem replySpan_length : (replySpan a kind payload).length = 3 + payload.length := by
  simp only [replySpan, List.length_append, List.length_cons, List.length_nil]

theorem replyFrame_length : (replyFrame a kind payload).length = payload.length + 6 := by
  rw [replyFrame_eq, List.cons_append, List.length_cons, List.length_append, replySpan_length]
  show 3 + payload.length + 2 + 1 = _
  omega

variable {payload} (h : payload.length ≤ 73)
include h

theorem replyFrame_field : (byteAt (replyFrame a kind payload) 3).toNat = payload.length :=
  toNat_oneByte_of_lt (by omega)

theorem replyFrame_whole : ReplyWhole (replyFrame a kind payload) := by
  refine ⟨rfl, ?_, ?_⟩
  · rw [replyFrame_field a kind h]; exact h
  · rw [replyFrame_field a kind h, replyFrame_length]

theorem replyFrame_sound : ReplySound (replyFrame a kind payload) := by
  have hbefore : (Config.syncByte :: replySpan a kind payload).length = payload.length + 4 := by
    rw [List.length_cons, replySpan_length]; omega
  have hspan : ((replyFrame a kind payload).drop 1).take (payload.length + 3) = replySpan a kind payload := by
    rw [replyFrame_eq]
    show (replySpan a kind payload ++ _).take _ = _
    rw [List.take_append_of_le_length (by rw [replySpan_length]; omega), List.take_of_length_le (by rw [replySpan_length]; omega)]
  unfold ReplySound
  simp only [replyFrame_field a kind h, hspan]
  rw [replyFrame_eq, byteAt_append_right _ _ (n := 0) (by omega), byteAt_append_right _ _ (n := 1) (by omega), halfBytes_append]

omit h in
theorem replyFrame_payload : slice (replyFrame a kind payload) 4 payload.length = payload := by
  rw [replyFrame_eq]
  show ((payload ++ _) : List Byte).take payload.length = payload
  exact List.take_left

/-- A reply that a node forms has arrived whole (R25). -/
theorem completeReply_replyFrame : completeReply (replyFrame a kind payload) = true := by
  have hlength := replyFrame_length a kind payload
  have hfour : ¬ payload.length + 6 < 4 := by omega
  simp only [completeReply, replyLength, replyFrame_field a kind h, hlength, if_neg hfour, exchangeChars, Bool.and_eq_true,
    decide_eq_true_eq]
  omega

/-- A reply of the kind that was asked, from the address that was asked, is judged by its contents. -/
theorem judgeReply_replyFrame (c : PollCommand) (f : List Byte) (slots : Nat) :
    judgeReply { address := a, command := c, frame := f } slots (replyFrame a c.replyKind payload) =
      readPayload c slots payload := by
  rw [judgeReply_whole _ _ _ (replyFrame_whole a c.replyKind h), if_neg (not_not.2 (replyFrame_sound a c.replyKind h)),
    if_neg (fun k => k rfl), if_neg (fun k => k rfl), replyFrame_field a c.replyKind h, replyFrame_payload a c.replyKind]

end

/-! ## The fields read back -/

theorem word_of_bytes (x : BitVec 32) :
    x.extractLsb' 24 8 ++ x.extractLsb' 16 8 ++ x.extractLsb' 8 8 ++ x.extractLsb' 0 8 = x := by
  have h := x.isLt
  apply BitVec.eq_of_toNat_eq
  simp only [toNat_append_byte, BitVec.extractLsb'_toNat, Nat.shiftRight_eq_div_pow]
  omega

theorem tagFlags_read (o : BitVec 2) (w : Bool) : (oneByte (o.toNat + if w then 128 else 0)).extractLsb' 0 2 = o ∧
    (oneByte (o.toNat + if w then 128 else 0)).getLsbD 7 = w := by
  revert o w
  decide

theorem tagAt_append_right (a b : List Byte) {o n : Nat} (h : o = a.length + n) : tagAt (a ++ b) o = tagAt b n := by
  unfold tagAt
  rw [byteAt_append_right a b h, byteAt_append_right a b (n := n + 1) (by omega), byteAt_append_right a b (n := n + 2) (by omega),
    byteAt_append_right a b (n := n + 3) (by omega), byteAt_append_right a b (n := n + 4) (by omega),
    byteAt_append_right a b (n := n + 5) (by omega)]

/-- A tag record read back from its six bytes. -/
theorem tagAt_bytes (t : TagRecord) (rest : List Byte) : tagAt (t.bytes ++ rest) 0 = t := by
  obtain ⟨horientation, hweak⟩ := tagFlags_read t.orientation t.weak
  calc tagAt (t.bytes ++ rest) 0
      = { id := t.id.extractLsb' 24 8 ++ t.id.extractLsb' 16 8 ++ t.id.extractLsb' 8 8 ++ t.id.extractLsb' 0 8
          orientation := (oneByte (t.orientation.toNat + if t.weak then 128 else 0)).extractLsb' 0 2
          weak := (oneByte (t.orientation.toNat + if t.weak then 128 else 0)).getLsbD 7
          mass := t.mass } := rfl
    _ = t := by rw [word_of_bytes, horientation, hweak]

/-- The tag records of a slot block, read back. -/
theorem tagsAt_bytes {tags : List TagRecord} (h : tags.length ≤ 2) (pre rest : List Byte) (hpre : pre.length = 6) :
    [tagAt (pre ++ tags.flatMap TagRecord.bytes ++ rest) 6, tagAt (pre ++ tags.flatMap TagRecord.bytes ++ rest) 12].take
      tags.length = tags := by
  rw [List.append_assoc, tagAt_append_right pre _ (n := 0) (by omega), tagAt_append_right pre _ (n := 6) (by omega)]
  match tags, h with
  | [], _ => rfl
  | [t], _ =>
    rw [List.flatMap_singleton, tagAt_bytes]
    rfl
  | [t, u], _ =>
    rw [List.flatMap_cons, List.flatMap_singleton, List.append_assoc, tagAt_bytes,
      tagAt_append_right t.bytes _ (n := 0) (by rfl), tagAt_bytes]
    rfl

theorem slotStatus_read (f : Bool) (k : BitVec 2) {n : Nat} (h : n ≤ 2) : (oneByte (f.toNat + 2 * k.toNat + 16 * n)).getLsbD 0 = f ∧
    (oneByte (f.toNat + 2 * k.toNat + 16 * n)).extractLsb' 1 2 = k ∧
    (oneByte (f.toNat + 2 * k.toNat + 16 * n)).toNat / 16 % 4 = n := by
  interval_cases n <;> revert f k <;> decide

theorem SlotSample.sendable_iff (x : SlotSample) :
    x.sendable = true ↔ x.load < 65536 ∧ x.cells < 256 ∧ x.peak < 65536 ∧ x.tags.length ≤ 2 := by
  simp [SlotSample.sendable, and_assoc]

theorem SlotSample.bytes_length (x : SlotSample) : x.bytes.length = 6 + 6 * x.tags.length := by
  have htags : (x.tags.flatMap TagRecord.bytes).length = 6 * x.tags.length := length_flatMap_const (f := TagRecord.bytes) (fun _ => rfl) _
  simp only [SlotSample.bytes, twoBytes, List.length_append, List.length_cons, List.length_nil, htags]

/-- A slot block is read back from the head of the bytes. -/
theorem takeSlotBlock_bytes {x : SlotSample} (h : x.sendable = true) (rest : List Byte) :
    takeSlotBlock (x.bytes ++ rest) = some (x, rest) := by
  obtain ⟨hload, hcells, hpeak, htags⟩ := x.sendable_iff.1 h
  obtain ⟨hfault, hbuckle, hcount⟩ := slotStatus_read x.statusFault x.buckle htags
  have hread : blockTags (x.bytes ++ rest) = x.tags.length := hcount
  have hlength : 6 + 6 * x.tags.length = x.bytes.length := x.bytes_length.symm
  rw [takeSlotBlock_eq, hread, if_pos ⟨htags, by rw [List.length_append]; omega⟩, hlength, List.drop_left]
  have hsample : blockSample (x.bytes ++ rest) = x := by
    calc blockSample (x.bytes ++ rest)
        = { statusFault := (oneByte (x.statusFault.toNat + 2 * x.buckle.toNat + 16 * x.tags.length)).getLsbD 0
            buckle := (oneByte (x.statusFault.toNat + 2 * x.buckle.toNat + 16 * x.tags.length)).extractLsb' 1 2
            load := fromBytes (oneByte (x.load / 256)) (oneByte x.load), cells := (oneByte x.cells).toNat
            peak := fromBytes (oneByte (x.peak / 256)) (oneByte x.peak)
            tags := [tagAt (x.bytes ++ rest) 6, tagAt (x.bytes ++ rest) 12].take (blockTags (x.bytes ++ rest)) } := rfl
      _ = x := by
        rw [hfault, hbuckle, fromBytes_oneByte hload, toNat_oneByte_of_lt hcells, fromBytes_oneByte hpeak, hread,
          SlotSample.bytes, tagsAt_bytes htags _ _ rfl]
  rw [hsample]

theorem takeSlotBlocks_bytes {xs : List SlotSample} (h : ∀ x ∈ xs, x.sendable = true) :
    takeSlotBlocks xs.length (xs.flatMap SlotSample.bytes) = some xs := by
  induction xs with
  | nil => rfl
  | cons x xs ih =>
    rw [List.flatMap_cons, List.length_cons, takeSlotBlocks, takeSlotBlock_bytes (h x (by simp)) _]
    simp only
    rw [ih fun y hy => h y (by simp [hy])]
    rfl

/-- At most four slot blocks leave a payload that a reply can carry. -/
theorem flatMap_bytes_length_le {xs : List SlotSample} (h : ∀ x ∈ xs, x.sendable = true) :
    (xs.flatMap SlotSample.bytes).length ≤ 18 * xs.length := by
  induction xs with
  | nil => exact Nat.le_refl _
  | cons x xs ih =>
    have htags := (x.sendable_iff.1 (h x (by simp))).2.2.2
    have hrest := ih fun y hy => h y (by simp [hy])
    rw [List.flatMap_cons, List.length_append, List.length_cons, x.bytes_length]
    omega

theorem NodeIdentity.bytes_length (id : NodeIdentity) : id.bytes.length = 4 + id.caps.length := by
  simp [NodeIdentity.bytes, identityBytes]
  omega

theorem capsByte_read (c : Bool × Bool) : ((flagsByte [c.1, c.2]).getLsbD 0, (flagsByte [c.1, c.2]).getLsbD 1) = c := by
  revert c
  decide

theorem identityPayload_bytes {id : NodeIdentity} (h : id.sendable = true) : identityPayload id.bytes = some id := by
  obtain ⟨hslots, hcaps⟩ : (1 ≤ id.slots ∧ id.slots ≤ 4) ∧ id.caps.length = id.slots := by
    simpa [NodeIdentity.sendable, within] using h
  have hcount : (byteAt id.bytes 3).toNat = id.slots := toNat_oneByte_of_lt (by omega)
  have hid : identityAt id.bytes 0 = id.id := identityAt_of_bytes rfl
  have hflags : (id.bytes.drop 4).map (fun c => (c.getLsbD 0, c.getLsbD 1)) = id.caps := by
    show (id.caps.map fun c => flagsByte [c.1, c.2]).map _ = _
    rw [List.map_map]
    exact List.map_id'' capsByte_read _
  rw [identityPayload_eq, hcount, if_pos ⟨hslots, by rw [id.bytes_length, hcaps]⟩, hid, hflags]

/-- The IDENTITY reply that a node forms is whole and valid (R23 to R25). -/
theorem identityReply_read (a : Fin 6) (f : List Byte) (slots : Nat) {id : NodeIdentity} (h : id.sendable = true) :
    completeReply (identityReply a id) = true ∧
    judgeReply { address := a, command := .identify, frame := f } slots (identityReply a id) = .identity id := by
  have hlength : id.bytes.length ≤ 73 := by
    have hcaps : within 1 4 id.slots = true ∧ id.caps.length = id.slots := by simpa [NodeIdentity.sendable] using h
    have hslots : id.slots ≤ 4 := by
      have hbetween := hcaps.1
      simp only [within, Bool.and_eq_true, decide_eq_true_eq] at hbetween
      exact hbetween.2
    rw [id.bytes_length, hcaps.2]
    omega
  exact ⟨completeReply_replyFrame a _ hlength,
    (judgeReply_replyFrame a hlength .identify f slots).trans (readPayload_identify slots (identityPayload_bytes h))⟩

/-- The SAMPLE reply that a node forms is whole and valid (R23 to R25). -/
theorem sampleReply_read (a : Fin 6) (f : List Byte) (serial : Byte) {blocks : List SlotSample}
    (hcount : within 1 4 blocks.length = true) (h : ∀ x ∈ blocks, x.sendable = true) :
    completeReply (sampleReply a serial blocks) = true ∧
    judgeReply { address := a, command := .sample, frame := f } blocks.length (sampleReply a serial blocks) =
      .sample serial blocks := by
  have hlength : (serial :: blocks.flatMap SlotSample.bytes).length ≤ 73 := by
    have hbytes := flatMap_bytes_length_le h
    simp only [within, Bool.and_eq_true, decide_eq_true_eq] at hcount
    rw [List.length_cons]
    omega
  exact ⟨completeReply_replyFrame a _ hlength,
    (judgeReply_replyFrame a hlength .sample f _).trans
      (readPayload_sample (List.cons_ne_nil _ _) (takeSlotBlocks_bytes h))⟩

/-! ## The cases of R25 -/

section
variable {x : Exchange} {slots : Nat} {chars : List Byte}

theorem judgeReply_badCrc (h : ReplyWhole chars) (hcrc : ¬ ReplySound chars) : judgeReply x slots chars = .miss .crc := by
  rw [judgeReply_whole _ _ _ h, if_pos hcrc]

theorem judgeReply_misdirected (h : ReplyWhole chars) (hcrc : ReplySound chars)
    (hwrong : (byteAt chars 1).toNat ≠ x.address.val + 1 + 128 ∨ byteAt chars 2 ≠ x.command.replyKind) :
    judgeReply x slots chars = .miss .format := by
  rw [judgeReply_whole _ _ _ h, if_neg (not_not.2 hcrc)]
  by_cases haddress : byteAt chars 1 = oneByte (x.address.val + 1 + 0x80)
  · rw [if_neg (not_not.2 haddress), if_pos (hwrong.resolve_left (not_not.2 ((replyAddress_iff _ _).1 haddress)))]
  · rw [if_pos haddress]

/-- A sound reply of the node and the kind that were asked is judged by its contents. -/
theorem judgeReply_contents (h : ReplyWhole chars) (hcrc : ReplySound chars)
    (haddress : (byteAt chars 1).toNat = x.address.val + 1 + 128) (hkind : byteAt chars 2 = x.command.replyKind) :
    judgeReply x slots chars = readPayload x.command slots (slice chars 4 (byteAt chars 3).toNat) := by
  rw [judgeReply_whole _ _ _ h, if_neg (not_not.2 hcrc), if_neg (not_not.2 ((replyAddress_iff _ _).2 haddress)),
    if_neg (not_not.2 hkind)]

theorem slice_length {b : List Byte} {o n : Nat} (h : o + n ≤ b.length) : (slice b o n).length = n := by
  rw [slice, List.length_take, List.length_drop]
  omega

theorem slice_drop_one (b : List Byte) (o n : Nat) : (slice b o n).drop 1 = (b.drop (o + 1)).take (n - 1) := by
  rw [slice, List.drop_take, List.drop_drop]

/-- The contents of an IDENTITY reply agree with its length, or do not (R25 case 9). -/
theorem readPayload_identify_cases {len : Nat} (hlen : len + 6 ≤ chars.length) :
    let count := (byteAt chars 7).toNat
    (len < 4 ∨ count = 0 ∨ 4 < count ∨ len ≠ 4 + count → readPayload .identify slots (slice chars 4 len) = .miss .format) ∧
    (4 ≤ len → 1 ≤ count → count ≤ 4 → len = 4 + count → ∃ id : NodeIdentity,
      readPayload .identify slots (slice chars 4 len) = .identity id ∧ id.slots = count ∧
      id.id.toNat = (byteAt chars 4).toNat * 65536 + (byteAt chars 5).toNat * 256 + (byteAt chars 6).toNat ∧
      id.caps = ((chars.drop 8).take count).map fun c => (decide (c.toNat % 2 = 1), decide (c.toNat / 2 % 2 = 1))) := by
  have hlength : (slice chars 4 len).length = len := slice_length (by omega)
  intro count
  have hread := identityPayload_eq (slice chars 4 len)
  by_cases hfour : len < 4
  · have hcount : byteAt (slice chars 4 len) 3 = 0 := byteAt_of_length_le (by omega)
    rw [hcount, if_neg (fun h => absurd h.1.1 (by decide))] at hread
    exact ⟨fun _ => readPayload_identify_unread slots hread, fun h => absurd h (by omega)⟩
  · have hcount : (byteAt (slice chars 4 len) 3).toNat = count := by rw [byteAt_slice chars (by omega)]
    rw [hcount, hlength] at hread
    constructor
    · intro h
      rw [if_neg (by omega)] at hread
      exact readPayload_identify_unread slots hread
    · intro _ h1 h4 hagree
      rw [if_pos ⟨⟨h1, h4⟩, hagree⟩] at hread
      refine ⟨_, readPayload_identify slots hread, rfl, ?_, ?_⟩
      · show (identityAt (slice chars 4 len) 0).toNat = _
        rw [identityAt_toNat, byteAt_slice chars (by omega), byteAt_slice chars (by omega), byteAt_slice chars (by omega)]
      · have hcaps : (slice chars 4 len).drop 4 = (chars.drop 8).take count := by
          rw [slice, List.drop_take, List.drop_drop, hagree, Nat.add_sub_cancel_left]
        show ((slice chars 4 len).drop 4).map (fun c => (c.getLsbD 0, c.getLsbD 1)) = _
        rw [hcaps]
        refine List.map_congr_left fun c _ => ?_
        obtain ⟨hseat, hbelt, _⟩ := getLsbD_eq_decide c
        rw [hseat, hbelt]

/-- The contents of a SAMPLE reply are its serial byte and its slot blocks, or are not (R25 case 9). -/
theorem readPayload_sample_cases {len : Nat} (hlen : len + 6 ≤ chars.length) :
    let blocks := (chars.drop 5).take (len - 1)
    (len = 0 ∨ blocksFill slots blocks = false → readPayload .sample slots (slice chars 4 len) = .miss .format) ∧
    (1 ≤ len → blocksFill slots blocks = true → ∃ xs : List SlotSample,
      readPayload .sample slots (slice chars 4 len) = .sample (byteAt chars 4) xs ∧ xs.length = slots ∧
      takeSlotBlocks slots blocks = some xs) := by
  intro blocks
  have hlength : (slice chars 4 len).length = len := slice_length (by omega)
  have hblocks : (slice chars 4 len).drop 1 = blocks := slice_drop_one chars 4 len
  have hread := takeSlotBlocks_isSome slots blocks
  constructor
  · rintro (rfl | h)
    · exact readPayload_sample_empty slots
    · rw [h, Option.isSome_eq_false_iff, Option.isNone_iff_eq_none, ← hblocks] at hread
      exact readPayload_sample_unread hread
  · intro hone h
    rw [h] at hread
    obtain ⟨xs, hxs⟩ := Option.isSome_iff_exists.1 hread
    have hne : slice chars 4 len ≠ [] := fun e => by rw [e] at hlength; exact absurd hlength (by simp; omega)
    have hserial : byteAt (slice chars 4 len) 0 = byteAt chars 4 := byteAt_slice chars (by omega)
    refine ⟨xs, ?_, takeSlotBlocks_length hxs, hxs⟩
    rw [readPayload_sample hne (hblocks.symm ▸ hxs), hserial]

end

/-- The head of a payload with a tag count of at most 2 and enough bytes is one slot block (spec 11.1). -/
theorem takeSlotBlocks_head {b : List Byte} (htags : blockTags b ≤ 2) (hlen : 6 + 6 * blockTags b ≤ b.length) (n : Nat) :
    takeSlotBlocks (n + 1) b = (takeSlotBlocks n (b.drop (6 + 6 * blockTags b))).map (blockSample b :: ·) := by
  rw [takeSlotBlocks, takeSlotBlock_eq, if_pos ⟨htags, hlen⟩]

/-- Settles O7: what a node forms is read back, the cases of R25 in their order, and the fields of spec 11.1. -/
theorem repliesAreReadBackOrMisses : Obligations.RepliesAreReadBackOrMisses := by
  refine ⟨fun a f slots _ => identityReply_read a f slots, fun a f serial _ => sampleReply_read a f serial, ?_, ?_, ?_⟩
  · intro x slots chars len crcOk
    refine ⟨fun h => h ▸ rfl, judgeReply_unsynced x slots chars, judgeReply_headCut x slots chars, judgeReply_tooLong x slots chars,
      judgeReply_cut x slots chars, fun h0 h1 h2 => judgeReply_badCrc ⟨h0, h1, h2⟩,
      fun h0 h1 h2 => judgeReply_misdirected ⟨h0, h1, h2⟩, ?_⟩
    intro h0 h1 h2 hcrc haddress hkind
    rw [judgeReply_contents ⟨h0, h1, h2⟩ hcrc haddress hkind]
    exact ⟨fun hcommand => hcommand ▸ readPayload_identify_cases h2, fun hcommand => hcommand ▸ readPayload_sample_cases h2⟩
  · intro b
    refine ⟨rfl, fun htags hlen => ⟨blockSample b, takeSlotBlocks_head htags hlen, (getLsbD_eq_decide _).1, ?_, rfl, rfl, rfl, rfl⟩⟩
    show ((byteAt b 0).extractLsb' 1 2).toNat = _
    rw [BitVec.extractLsb'_toNat, Nat.shiftRight_eq_div_pow]
  · intro b i
    refine ⟨rfl, ?_, (getLsbD_eq_decide _).2.2, rfl⟩
    show ((byteAt b (i + 4)).extractLsb' 0 2).toNat = _
    rw [BitVec.extractLsb'_toNat, Nat.shiftRight_zero]

end Sys2Proof.Machine

/-! What the operations at positions touch: the positions, the notices of the ports, the decision, the scan mode and the eco countdown
(the frame of every hand-over and of every stage of a commit), and that no row touches the queue of waiting commands. -/

namespace Sys2Proof.Machine

/-! ## A port that receives notices -/

/-- From x to y a port received notices, and nothing else of it changed but the overflow flag and the attention line (R142, R145). -/
structure PortState.Posts (x y : PortState) : Prop where
  queue : ∃ n, Received (fun _ _ => True) x.queue n y.queue
  assembler : y.assembler = x.assembler
  reply : y.reply = x.reply

theorem PortState.Posts.refl (x : PortState) : x.Posts x := ⟨⟨0, .refl 0⟩, rfl, rfl⟩

theorem PortState.Posts.trans {x y z : PortState} (h : x.Posts y) (k : y.Posts z) : x.Posts z := by
  obtain ⟨n, hn⟩ := h.queue
  obtain ⟨m, hm⟩ := k.queue
  exact ⟨⟨n + m, hn.trans hm⟩, k.assembler.trans h.assembler, k.reply.trans h.reply⟩

theorem PortState.Posts.legal {x y : PortState} (h : x.Posts y) (hq : queueLegal x.queue) : queueLegal y.queue := by
  obtain ⟨n, hn⟩ := h.queue
  exact hn.nodup hq

theorem State.post_posts (s : State) (p : Port) (k : NoticeKind) (n : Nat) (v : Half) (q : Port) :
    (s.port q).Posts ((s.post p k n v).port q) := by
  refine ⟨⟨1, s.post_received p k n v q fun _ => trivial⟩, ?_, ?_⟩
  all_goals
    rw [State.port_post]
    split
    · subst q
      simp
    · rfl

/-! ## What an operation at positions touches -/

/-- t with what the operations at positions may touch put back from s. -/
def State.touchBack (s t : State) : State :=
  { t with
    positions := s.positions
    ports := s.ports
    restraint := { t.restraint with
      suppression := s.restraint.suppression, sequence := s.restraint.sequence, pso := s.restraint.pso }
    vehicle := { t.vehicle with mode := s.vehicle.mode, eco := s.vehicle.eco }
    scanner := { t.scanner with timer := s.scanner.timer } }

/-- From s to t nothing changed but the positions, the notices of the ports, the decision, the scan mode, which does not leave RUN, and
the countdown. -/
structure State.Touches (s t : State) : Prop where
  rest : s.touchBack t = s
  mode : s.vehicle.mode = .run → t.vehicle.mode = .run
  ports : ∀ q, (s.port q).Posts (t.port q)

theorem State.Touches.refl (s : State) : s.Touches s := ⟨rfl, id, fun _ => .refl _⟩

theorem State.Touches.trans {s t u : State} (h : s.Touches t) (k : t.Touches u) : s.Touches u :=
  ⟨(congrArg s.touchBack k.rest).trans h.rest, k.mode ∘ h.mode, fun q => (h.ports q).trans (k.ports q)⟩

theorem State.Touches.ite {c : Prop} [Decidable c] {s t u : State} (h : s.Touches t) (k : s.Touches u) :
    s.Touches (if c then t else u) := by
  split
  · exact h
  · exact k

/-- An operation after which another is taken or not. -/
theorem State.Touches.ite_trans {c : Prop} [Decidable c] {s t u : State} (h : s.Touches t) (k : t.Touches u) :
    s.Touches (if c then u else t) := .ite (h.trans k) h

theorem State.forPositions_touches {f : Pos → State → State} (h : ∀ (p : Pos) (s : State), s.Touches (f p s)) (ps : List Pos) (s : State) :
    s.Touches (s.forPositions ps f) :=
  State.forPositions_keeps (P := s.Touches) (fun p _ k => k.trans (h p _)) ps s (.refl s)

section
variable {s t : State} (h : s.Touches t)
include h

theorem State.Touches.config : t.config = s.config := (congrArg State.config h.rest :)
theorem State.Touches.staging : t.staging = s.staging := (congrArg State.staging h.rest :)
theorem State.Touches.capture : t.capture = s.capture := (congrArg State.capture h.rest :)
theorem State.Touches.saveImage : t.saveImage = s.saveImage := (congrArg State.saveImage h.rest :)
theorem State.Touches.phase : t.phase = s.phase := (congrArg State.phase h.rest :)
theorem State.Touches.pending : t.pending = s.pending := (congrArg State.pending h.rest :)
theorem State.Touches.hold : t.restraint.hold = s.restraint.hold := (congrArg (fun u : State => u.restraint.hold) h.rest :)
theorem State.Touches.ignition : t.vehicle.ignition = s.vehicle.ignition :=
  (congrArg (fun u : State => u.vehicle.ignition) h.rest :)
theorem State.Touches.watch : t.vehicle.watch = s.vehicle.watch := (congrArg (fun u : State => u.vehicle.watch) h.rest :)

end

section
variable (s : State) (p : Pos)

theorem State.modPos_touches (f : PosRec → PosRec) : s.Touches (s.modPos p f) := ⟨rfl, id, fun _ => .refl _⟩

theorem State.post_touches (q : Port) (k : NoticeKind) (n : Nat) (v : Half) : s.Touches (s.post q k n v) :=
  ⟨rfl, id, s.post_posts q k n v⟩

theorem State.restartEco_touches : s.Touches s.restartEco := ⟨rfl, id, fun _ => .refl _⟩

theorem State.wake_touches : s.Touches s.wake := by
  refine ⟨?_, fun h => ?_, fun q => by rw [s.wake_port]; exact .refl _⟩
  · unfold State.wake; split <;> rfl
  · unfold State.wake; split
    · rfl
    · exact h

theorem State.deriveSuppression_touches : s.Touches s.deriveSuppression := by
  unfold State.deriveSuppression
  simp only
  split
  · exact .refl s
  · refine ⟨rfl, id, fun q => ?_⟩
    exact State.post_posts { s with restraint := _ } .safety _ _ _ q

theorem State.moveReminder_touches (step : ReminderStep) (timer : Nat) : s.Touches (s.moveReminder p step timer) :=
  (s.modPos_touches p _).trans (State.post_touches _ _ _ _ _)

theorem State.enterAudible_touches : s.Touches (s.enterAudible p) :=
  .ite_trans ((s.modPos_touches p _).trans ((State.moveReminder_touches _ p _ _).trans (State.post_touches _ _ _ _ _)))
    (State.moveReminder_touches _ p _ _)

theorem State.enterVisual_touches : s.Touches (s.enterVisual p) :=
  .ite_trans (s.moveReminder_touches p _ _) (State.enterAudible_touches _ p)

theorem State.enterGrace_touches : s.Touches (s.enterGrace p) :=
  .ite_trans (s.moveReminder_touches p _ _) (State.enterVisual_touches _ p)

theorem State.evaluate_touches : s.Touches (s.evaluate p) := by
  rcases s.evaluate_cases p with h | h | ⟨-, -, h⟩ | ⟨-, -, h⟩ <;> rw [h]
  · exact .refl s
  · exact s.moveReminder_touches p _ _
  · exact s.enterGrace_touches p
  · exact s.enterAudible_touches p

theorem State.countScan_touches : s.Touches (s.countScan p) :=
  .ite (.ite ((s.modPos_touches p _).trans (State.post_touches _ _ _ _ _)) (s.modPos_touches p _)) (.refl s)

theorem State.muteOne_touches : s.Touches (s.muteOne p) := .ite (s.moveReminder_touches p _ _) (.refl s)

theorem State.postClass_touches : s.Touches (s.postClass p) :=
  (s.post_touches _ _ _ _).trans (State.post_touches _ _ _ _ _)

theorem State.markWatched_touches : s.Touches (s.markWatched p) := .ite (s.modPos_touches p _) (.refl s)

theorem State.changeClass_touches (d : Bool) (cls : OccClass) (cause : FaultCause) : s.Touches (s.changeClass d cls cause p) := by
  rw [State.changeClass_eq]
  have hraised : s.Touches (s.classRaised p cls cause) :=
    (s.modPos_touches p _).trans ((State.postClass_touches _ p).trans (State.evaluate_touches _ p))
  have hderived : s.Touches ((s.classRaised p cls cause).derivedAt d p) :=
    .ite_trans hraised (State.deriveSuppression_touches _)
  exact (hderived.trans (State.markWatched_touches _ p)).trans (State.restartEco_touches _)

theorem State.applyDirect_touches (d : Bool) (x : Direct) : s.Touches (s.applyDirect d x p) := by
  rw [State.applyDirect_eq]
  exact .ite (s.modPos_touches p _) ((s.modPos_touches p _).trans (State.changeClass_touches _ p d _ _))

theorem State.returnUnresolved_touches (d : Bool) : s.Touches (s.returnUnresolved d p) := by
  rw [State.returnUnresolved_eq]
  exact .ite ((s.modPos_touches p _).trans (State.modPos_touches _ p _))
    ((s.modPos_touches p _).trans (State.changeClass_touches _ p d _ _))

theorem State.loseBelt_touches : s.Touches (s.loseBelt p) :=
  .ite ((s.modPos_touches p _).trans ((State.post_touches _ _ _ _ _).trans (State.evaluate_touches _ p)))
    (s.modPos_touches p _)

theorem State.recompute_touches : s.Touches (s.recompute p) :=
  .ite_trans (s.modPos_touches p _) (State.loseBelt_touches _ p)

theorem State.setFit_touches (fit : FitState) : s.Touches (s.setFit p fit) :=
  (s.modPos_touches p _).trans (State.recompute_touches _ p)

theorem State.takeBuckle_touches (x : SlotSample) : s.Touches (s.takeBuckle p x) := by
  rw [State.takeBuckle_eq]
  exact (State.Touches.ite ((s.modPos_touches p _).trans (State.post_touches _ _ _ _ _)) (s.modPos_touches p _)).trans
    (State.evaluate_touches _ p)

/-! ## The stages of a commit -/

theorem State.resetRecord_touches : s.Touches (s.resetRecord p) := by
  unfold State.resetRecord
  extract_lets old fresh told belted shown
  have h1 : s.Touches told := (s.modPos_touches p fun _ => _).trans (fresh.postClass_touches p)
  have h2 : s.Touches belted := .ite_trans h1 (State.post_touches _ _ _ _ _)
  have h3 : s.Touches shown := .ite_trans h2 (State.post_touches _ _ _ _ _)
  exact h3.trans shown.restartEco_touches

theorem State.keepRecord_touches (old : MapEntry) : s.Touches (s.keepRecord old p) := by
  unfold State.keepRecord
  extract_lets changed
  exact .ite_trans (.ite (s.recompute_touches p) (.refl s)) (State.moveReminder_touches _ p _ _)

theorem State.recordEffects_touches (old : PerPos MapEntry) : s.Touches (s.recordEffects old p) :=
  .ite (s.resetRecord_touches p) (s.keepRecord_touches p _)

theorem State.fitClass_touches (leaves : Bool) (fit : FitState) : s.Touches (s.fitClass p leaves fit) := by
  cases fit with
  | misfit => exact s.applyDirect_touches p false _
  | noSlot => exact s.applyDirect_touches p false _
  | fits => exact .ite (s.returnUnresolved_touches p false) (.refl s)
  | unchecked => exact .refl s

theorem State.finishFit_touches (old : PerPos MapEntry) : s.Touches (s.finishFit old p) := by
  rw [State.finishFit_eq]
  exact .ite ((s.setFit_touches p _).trans (State.fitClass_touches _ p _ _)) (s.recompute_touches p)

theorem State.walked_touches : s.mapped.Touches s.walked :=
  ((State.forPositions_touches (fun p s => s.recordEffects_touches p _) _ _).trans
    (State.forPositions_touches (fun p s => s.finishFit_touches p _) _ _)).trans
    (State.forPositions_touches (fun p s => s.evaluate_touches p) _ _)

end

/-! ## Waiting commands -/

theorem State.abortCapture_pending (s : State) (r : CaptureResult) : (s.abortCapture r).pending = s.pending :=
  (congrArg State.pending (s.abortCapture_rest r) :)

theorem State.applyDeferred_pending (s : State) : s.applyDeferred.pending = s.pending :=
  (congrArg State.pending s.applyDeferred_rest :)

theorem State.loseStandstill_pending (s : State) : s.loseStandstill.pending = s.pending :=
  (congrArg State.pending s.loseStandstill_rest :)

/-- The watch at a taken report changes the watch and the watched flags alone (R125, R128). -/
theorem State.watchReport_rest (s : State) (before : Ignition) :
    { s.watchReport before with positions := s.positions, vehicle := { (s.watchReport before).vehicle with watch := s.vehicle.watch } } =
      s := by
  unfold State.watchReport
  split
  · split
    · unfold State.startWatch
      split <;> rfl
    · rfl
  · rfl
  · rfl
  · rfl

/-- A taken report before a deferred commit is thought of: stored, a lost standstill and the watch taken, every reminder evaluated. -/
def State.reportTaken (s : State) (i : Ignition) (speed : Nat) (g : Gear) (d : Door) : State :=
  let stored := s.storeReport i speed g d
  ((if s.standstill && !stored.standstill then stored.loseStandstill else stored).watchReport s.vehicle.ignition).forAll
    fun p s => s.evaluate p

theorem State.takeReport_eq (s : State) (i : Ignition) (speed : Nat) (g : Gear) (d : Door) :
    s.takeReport i speed g d = (s.reportTaken i speed g d).applyDeferred := rfl

theorem State.reportTaken_pending (s : State) (i : Ignition) (speed : Nat) (g : Gear) (d : Door) :
    (s.reportTaken i speed g d).pending = s.pending := by
  unfold State.reportTaken
  extract_lets stored
  have hlost : (if s.standstill && !stored.standstill then stored.loseStandstill else stored).pending = s.pending := by
    split
    · exact stored.loseStandstill_pending
    · rfl
  exact (State.forPositions_touches (fun p s => s.evaluate_touches p) _ _).pending.trans
    ((congrArg State.pending (State.watchReport_rest _ _) :).trans hlost)

theorem State.CommandEffect.pending {s t : State} (h : s.CommandEffect t) : t.pending = s.pending := by
  cases h with
  | none => rfl
  | clearOverflow p => rfl
  | readNotice p n rest h => rfl
  | hold => exact State.abortCapture_pending _ _
  | endHold h => exact State.applyDeferred_pending _
  | restraint g h => rfl
  | report i speed g d => exact (State.applyDeferred_pending _).trans (s.reportTaken_pending i speed g d)
  | confirm p => rfl
  | mute ps => exact (State.forPositions_touches (fun p s => s.muteOne_touches p) ps s).pending
  | dismiss => rfl
  | stage p e he hd => rfl
  | swap p q hd => rfl
  | discard => rfl
  | commit hh hm => exact (congrArg State.pending s.applyStaged_rest :)
  | defer hm => rfl
  | capture p => rfl
  | profile i x h => rfl
  | settings x h => rfl
  | save => rfl
  | testOn => unfold State.testOn; split <;> rfl
  | testOff => unfold State.testOff; split <;> rfl
  | inject p x h => rfl
  | reset => rfl

theorem State.takeNodeOutcome_pending (l : Line) (a : Fin 6) (o : PollOutcome) (s : State) :
    (s.takeNodeOutcome l a o).pending = s.pending := (congrArg State.pending (State.takeNodeOutcome_rest l a o s) :)

theorem State.visit_pending (l : Line) (as : List (Fin 6)) (s : State) : (s.visit l as).pending = s.pending :=
  (congrArg State.pending (State.visit_rest l as s) :)

theorem State.beginRounds_pending (s : State) : s.beginRounds.pending = s.pending := by
  unfold State.beginRounds
  split
  · rw [State.visit_pending, State.visit_pending]
  · split
    · rw [State.visit_pending, State.visit_pending]
    · rw [State.visit_pending, State.visit_pending]

/-- A scan tick before its counts and rounds: the number, the timer and the probe decision (R20, R22). -/
def State.scanStarted (s : State) : State :=
  let c : Scanner := { s.scanner with number := s.scanner.number + 1, timer := some s.vehicle.mode.period }
  { s with scanner := c.decideProbe s.vehicle.mode }

/-- The counted scan at every position, before the rounds (R101). -/
def State.scanCounted (s : State) : State := s.scanStarted.forPositions allPos fun p s => s.countScan p

theorem State.beginScan_eq (s : State) : s.beginScan = s.scanCounted.beginRounds := rfl

theorem State.scanCounted_touches (s : State) : s.scanStarted.Touches s.scanCounted :=
  State.forPositions_touches (fun p s => s.countScan_touches p) _ _

theorem State.EventEffect.pending {s t : State} (h : s.EventEffect t) : t.pending = s.pending := by
  cases h with
  | none => rfl
  | scan =>
    rw [State.beginScan_eq, State.beginRounds_pending]
    exact s.scanCounted_touches.pending
  | exchange l chars =>
    unfold State.endExchange
    split
    · rfl
    · exact (State.visit_pending _ _ _).trans (State.takeNodeOutcome_pending _ _ _ _)
  | tick => rfl
  | grace p h => exact (s.enterVisual_touches p).pending
  | visual p h => exact (s.enterAudible_touches p).pending
  | audible p h => rfl
  | hold h => exact State.applyDeferred_pending _
  | stale =>
    unfold State.goStale
    simp only
    split
    · exact State.loseStandstill_pending _
    · rfl
  | watch h => unfold State.judgeWatch; simp only; split <;> rfl
  | eco h => rfl
  | age p => rfl
  | save readBack =>
    unfold State.endSave
    split
    · rfl
    · exact State.applyDeferred_pending _

theorem State.reportLoad_pending (s : State) (r : Except LoadFailure LiveConfig) : (s.reportLoad r).pending = s.pending := by
  cases r <;> rfl

theorem State.RowEffect.pending {s t : State} (h : s.RowEffect t) : t.pending = s.pending := by
  have hreported (u : State) : u.frameReported.pending = u.pending := (congrArg State.pending (u.putBack_frameReported u) :)
  cases h with
  | none => rfl
  | event h hu => exact hu.pending
  | command p bytes h hl hu => exact hu.pending.trans (hreported _)
  | discarded p => exact hreported _
  | partialFrame p => rfl
  | gap p => rfl
  | replyEnd p => rfl
  | powerOn => rfl
  | resetLow => rfl
  | load => rfl
  | loaded => exact State.reportLoad_pending _ _

/-- Settles O2, by what a row that completes leaves. -/
theorem execKeepsWaitingQueue : Obligations.ExecKeepsWaitingQueue :=
  fun _ _ _ h => (State.exec_effect h).pending

end Sys2Proof.Machine

/-! The work of the positions as a chain of few kinds of operation: what a scan, an exchange, a hand-over and an evaluation do is a
chain of them, so a rule that each of them keeps is kept by all. -/

namespace Sys2Proof.Machine

/-! ## An outcome at an address by its stages (R28 to R36) -/

/-- The outcome is an identification. -/
def PollOutcome.identifies : PollOutcome → Bool
  | .identity _ => true
  | .sample _ _ | .miss _ | .skip => false

/-- What an outcome hands to the Classifier for a position (R34). -/
def State.handover (s : State) (n : NodeRec) (slip : Bool) (o : PollOutcome) (p : Pos) : Handover :=
  { node := n.state, direct := directAsked n (s.pos p).fit, identified := o.identifies
    sample := (s.delivered p slip o).map (·.matFault) }

/-- NODE_CHANGED with a reason, if there is one (R36). -/
def State.tellNode (s : State) (l : Line) (a : Fin 6) (n : NodeRec) : Option NodeReason → State
  | some why => s.post .service .nodeChanged (nodeSubject l a) (payloadOf n.state.code why.code)
  | none => s

/-- The node record and NODE_CHANGED of an outcome, before the fits are decided. -/
def State.nodeTold (s : State) (l : Line) (a : Fin 6) (o : PollOutcome) : State :=
  let r := (s.node l a).after s.standstill o
  (s.setNode l a r.1).tellNode l a r.1 r.2

section
variable (s : State) (n : NodeRec) (slip : Bool) (o : PollOutcome) (p : Pos)

theorem State.handTo_sample {x : SlotSample} (h : s.delivered p slip o = some x) :
    s.handTo n slip o p = (s.pipeline p x).takeOutcome (s.handover n slip o p) p := by
  cases o with
  | sample serial blocks => simp only [State.handTo, State.handover, PollOutcome.identifies, h]
  | identity id => cases h
  | miss k => cases h
  | skip => cases h

theorem State.handTo_nothing (h : s.delivered p slip o = none) :
    s.handTo n slip o p = (s.abortCaptureOf .node p).takeOutcome (s.handover n slip o p) p := by
  cases o <;> simp only [State.handTo, State.handover, PollOutcome.identifies, h]

variable (l : Line) (a : Fin 6)

theorem State.bound_congr {s t : State} (h : t.config = s.config) : t.bound l a = s.bound l a := by
  unfold State.bound State.boundTo State.entry
  rw [h]

theorem State.tellNode_config (r : Option NodeReason) : (s.tellNode l a n r).config = s.config := by
  cases r <;> rfl

theorem State.takeNodeOutcome_eq : s.takeNodeOutcome l a o =
    ((s.nodeTold l a o).forPositions (s.bound l a)
      (State.refit ((s.node l a).after s.standstill o).1 ((s.node l a).after s.standstill o).2)).forPositions (s.bound l a)
      (State.handTo ((s.node l a).after s.standstill o).1 (((s.node l a).after s.standstill o).2 = some .slip) o) := by
  have hbound : (s.nodeTold l a o).bound l a = s.bound l a :=
    State.bound_congr l a ((State.tellNode_config _ _ l a _).trans rfl)
  rw [← hbound]
  unfold State.takeNodeOutcome State.nodeTold
  simp only
  cases ((s.node l a).after s.standstill o).2 <;> rfl

end

/-! ## The kinds of operation -/

/-- A change of a position's record that leaves its class, fit, capabilities, belt, reminder and injection, and the agreement of the
rest; while HOLD is active the cause and the sequence too. -/
structure PosRec.Quiet (held : Bool) (r x : PosRec) : Prop where
  reminder : x.reminder = r.reminder
  buckle : x.buckle = r.buckle
  fit : x.fit = r.fit
  caps : x.childCap = r.childCap ∧ x.beltCap = r.beltCap
  injection : x.injection = r.injection
  stable : x.cls.stable = r.cls.stable
  held : held = true → x.cls.Same r.cls
  load : r.load.Legal → x.load.Legal
  cls : r.cls.Legal → x.cls.Legal
  child : (r.childCap = false → r.child = .cleared) → r.childCap = false → x.child = .cleared

/-- One operation of the scanner, the pipeline or the Classifier. -/
inductive State.Deed (s : State) : State → Prop
  | scan (c : Scanner) (n : Nat) : s.Deed { s with scanner := c, freeCount := n }
  | post (q : Port) (k : NoticeKind) (n : Nat) (v : Half) : s.Deed (s.post q k n v)
  | quiet (p : Pos) (f : PosRec → PosRec) (h : (s.pos p).Quiet s.holdActive (f (s.pos p))) : s.Deed (s.modPos p f)
  | change (p : Pos) (cls : OccClass) (cause : FaultCause) (hh : s.holdActive = false) (he : (s.entry p).enabled = true)
      (hc : cause = .none ↔ cls ≠ .fault) : s.Deed (s.changeClass true cls cause p)
  | buckle (p : Pos) (x : SlotSample) : s.Deed (s.takeBuckle p x)
  | fit (p : Pos) (fit : FitState) (he : (s.entry p).enabled = true) : s.Deed (s.setFit p fit)
  | evaluate (p : Pos) : s.Deed (s.evaluate p)
  | count (p : Pos) : s.Deed (s.countScan p)
  | wake : s.Deed s.wake
  | abort (r : CaptureResult) : s.Deed (s.abortCapture r)
  | take (p : Pos) (x : SlotSample) : s.Deed (s.captureTake p x)

/-- A chain of such operations. -/
abbrev State.Deeds : State → State → Prop := Relation.ReflTransGen State.Deed

theorem State.Deed.frame {s t : State} (h : s.Deed t) : t.config = s.config ∧ t.restraint.hold = s.restraint.hold := by
  have of_touches {t : State} (h : s.Touches t) := And.intro h.config h.hold
  have of_outcome {t : State} (h : s.OutcomeFrame t 0) := And.intro h.config h.hold
  cases h with
  | scan c n => exact ⟨rfl, rfl⟩
  | post q k n v => exact ⟨rfl, rfl⟩
  | quiet p f h => exact ⟨rfl, rfl⟩
  | change p cls cause hh he hc => exact of_touches (s.changeClass_touches p true cls cause)
  | buckle p x => exact of_touches (s.takeBuckle_touches p x)
  | fit p fit he => exact of_touches (s.setFit_touches p fit)
  | evaluate p => exact of_touches (s.evaluate_touches p)
  | count p => exact of_touches (s.countScan_touches p)
  | wake => exact of_touches s.wake_touches
  | abort r => exact of_outcome (s.abortCapture_outcome r 0)
  | take p x =>
    have h := s.captureTake_outcome p x
    exact ⟨h.config, h.hold⟩

/-- A rule that every operation keeps, a chain keeps. -/
theorem State.Deeds.keeps {P : State → Prop} (hP : ∀ s t : State, s.Deed t → P s → P t) {s t : State} (h : s.Deeds t) (hs : P s) :
    P t := by
  induction h with
  | refl => exact hs
  | tail _ hstep ih => exact hP _ _ hstep ih

theorem State.Deeds.config {s t : State} (h : s.Deeds t) : t.config = s.config :=
  State.Deeds.keeps (P := fun u => u.config = s.config) (fun _ _ k hu => k.frame.1.trans hu) h rfl

theorem State.Deeds.hold {s t : State} (h : s.Deeds t) : t.restraint.hold = s.restraint.hold :=
  State.Deeds.keeps (P := fun u => u.restraint.hold = s.restraint.hold) (fun _ _ k hu => k.frame.2.trans hu) h rfl

theorem State.Deeds.enabled {s t : State} (h : s.Deeds t) (p : Pos) : (t.entry p).enabled = (s.entry p).enabled := by
  rw [State.entry, h.config, State.entry]

theorem State.Deeds.holdActive {s t : State} (h : s.Deeds t) : t.holdActive = s.holdActive := by
  rw [State.holdActive, h.hold, State.holdActive]

theorem State.Deed.deeds {s t : State} (h : s.Deed t) : s.Deeds t := .single h

theorem State.Deeds.ite {c : Prop} [Decidable c] {s t u : State} (h : c → s.Deeds t) (k : ¬ c → s.Deeds u) :
    s.Deeds (if c then t else u) := by
  split
  · exact h ‹_›
  · exact k ‹_›

/-- A walk over enabled positions is a chain where every visit is one. -/
theorem State.forPositions_deeds {f : Pos → State → State} (hf : ∀ (p : Pos) (s : State), (s.entry p).enabled = true → s.Deeds (f p s))
    (ps : List Pos) (s : State) (hps : ∀ p ∈ ps, (s.entry p).enabled = true) : s.Deeds (s.forPositions ps f) := by
  induction ps generalizing s with
  | nil => exact .refl
  | cons p ps ih =>
    have hp := hf p s (hps p (by simp))
    exact hp.trans (ih (f p s) fun q hq => (hp.enabled q).trans (hps q (by simp [hq])))

/-- A walk over any positions is a chain where every visit is an operation. -/
theorem State.forPositions_deed {f : Pos → State → State} (hf : ∀ (p : Pos) (s : State), s.Deed (f p s)) (ps : List Pos) (s : State) :
    s.Deeds (s.forPositions ps f) :=
  State.forPositions_keeps (P := s.Deeds) (fun p u k => k.tail (hf p u)) ps s .refl

/-! ## Quiet changes -/

theorem LoadRec.take_legal {r : LoadRec} (h : r.Legal) (e : MapEntry) (pr : Profile) (x : SlotSample) : (r.take e pr x).Legal := by
  obtain ⟨hw, hf, hband, hn, hk⟩ := h
  cases hmat : x.matFault with
  | true => rw [LoadRec.take_of_matFault e pr hmat]; exact ⟨hw, hf, hband, hn, hk⟩
  | false =>
    have hload : correctedLoad x.load e.z e.g ≤ 4000 := Nat.min_le_right _ _
    have hcells : x.cells ≤ 16 := by
      simp only [SlotSample.matFault, Bool.or_eq_false_iff, decide_eq_false_iff_not] at hmat
      omega
    refine ⟨?_, ?_, ?_, ?_, ?_⟩
    · rw [LoadRec.take_w _ _ hmat]; exact hload
    · have hw16 : (r.take e pr x).w * 16 ≤ 64000 := by rw [LoadRec.take_w _ _ hmat]; omega
      rw [LoadRec.take_f16 _ _ hmat]
      split
      · exact stepFilter_le _ hf hw16
      · exact hw16
    · simp only [LoadRec.take, hmat, Bool.false_eq_true, if_false]
      exact updateBand_le _ _ hband
    · rw [LoadRec.take_n _ _ hmat]; exact hcells
    · rw [LoadRec.take_k _ _ hmat]
      unfold concentration
      split
      · exact Nat.min_le_right _ _
      · exact Nat.zero_le _

theorem ClassRec.vote_legal {c : ClassRec} (h : c.Legal) (i : OccClass) : (c.vote i).Legal := by
  obtain ⟨hcount, hagree, hcause⟩ := h
  unfold ClassRec.vote
  split
  · exact ⟨hcount, hagree, hcause⟩
  · split
    · exact ⟨Nat.zero_le _, fun _ => rfl, hcause⟩
    · split
      next hstable hcandidate =>
        exact ⟨Nat.min_le_right _ _, fun h => absurd (hcandidate.trans h) hstable, hcause⟩
      next hstable _ => exact ⟨Nat.succ_le_succ (Nat.zero_le _), fun h => absurd h hstable, hcause⟩

/-- A change of the class record that keeps class, cause and sequence is quiet where it stays legal. -/
theorem PosRec.quiet_cls {held : Bool} (r : PosRec) {c : ClassRec} (hsame : c.Same r.cls) (hlegal : r.cls.Legal → c.Legal) :
    r.Quiet held { r with cls := c } :=
  ⟨rfl, rfl, rfl, ⟨rfl, rfl⟩, rfl, hsame.1, fun _ => hsame, id, hlegal, id⟩

section
variable (s : State) (p : Pos)

theorem State.markCleared_deed : s.Deed (s.markCleared p) :=
  .quiet p _ ((s.pos p).quiet_cls ⟨rfl, rfl, rfl⟩ id)

theorem State.settledUnresolved_deed (hh : s.holdActive = false) (h : (s.pos p).cls.stable = .unresolved) :
    s.Deed (s.settledUnresolved p) :=
  .quiet p _ ⟨rfl, rfl, rfl, ⟨rfl, rfl⟩, rfl, h.symm, fun h => absurd (hh.symm.trans h) Bool.false_ne_true, id,
    fun _ => ⟨Nat.zero_le _, fun _ => rfl, ⟨fun _ => OccClass.noConfusion, fun _ => rfl⟩⟩, id⟩

/-! ## The Classifier -/

section
variable (hh : s.holdActive = false) (he : (s.entry p).enabled = true)
include hh he

theorem State.applyDirect_deeds {d : Direct} (hd : d.cause = .none ↔ d.cls ≠ .fault) : s.Deeds (s.applyDirect true d p) := by
  rw [State.applyDirect_eq]
  exact .ite (fun _ => (s.markCleared_deed p).deeds) fun _ =>
    (s.markCleared_deed p).deeds.tail (.change p _ _ hh he hd)

theorem State.returnUnresolved_deeds : s.Deeds (s.returnUnresolved true p) := by
  rw [State.returnUnresolved_eq]
  refine .ite (fun h => ?_) fun _ => ?_
  · exact (s.markCleared_deed p).deeds.tail (State.settledUnresolved_deed _ p hh (by rw [State.markCleared_cls]; exact h))
  · exact (s.markCleared_deed p).deeds.tail (.change p _ _ hh he (by decide))

theorem State.completeVote_deeds : s.Deeds (s.completeVote p) := by
  unfold State.completeVote
  refine .ite (fun _ => (State.Deed.change p _ _ hh he ?_).deeds) fun _ => .refl
  split
  next h => simp [h]
  next h => simp [h]

theorem State.standing_deeds (identified : Bool) : s.Deeds (s.standing identified p) := by
  unfold State.standing
  extract_lets c
  have hreturn : s.Deeds (if identified || c.resolveMark || c.underDirect then s.returnUnresolved true p else s) :=
    .ite (fun _ => s.returnUnresolved_deeds p hh he) fun _ => .refl
  exact hreturn.trans (State.completeVote_deeds _ p (hreturn.holdActive.trans hh) ((hreturn.enabled p).trans he))

end

theorem State.takeInstant_deeds (m : Bool) : s.Deeds (s.takeInstant m p) := by
  rw [State.takeInstant_eq]
  generalize instantClass (s.profileOf p) (s.pos p) m = i
  have hstored : s.Deeds (s.instantStored i p) := by
    unfold State.instantStored
    extract_lets t
    have ht : s.Deed t := .quiet p _ ((s.pos p).quiet_cls ⟨rfl, rfl, rfl⟩ id)
    exact .ite (fun _ => ht.deeds.tail .wake) fun _ => ht.deeds
  exact hstored.tail (.quiet p _ (PosRec.quiet_cls _ (ClassRec.vote_same _ i) fun h => ClassRec.vote_legal h i))

theorem State.voted_deeds (hh : s.holdActive = false) (he : (s.entry p).enabled = true) (x : Option Bool) : s.Deeds (s.voted p x) := by
  cases x with
  | none => exact .refl
  | some m =>
    have h := s.takeInstant_deeds p m
    exact h.trans (State.completeVote_deeds _ p (h.holdActive.trans hh) ((h.enabled p).trans he))

theorem State.votedHeld_deeds (x : Option Bool) : s.Deeds (s.votedHeld p x) := by
  cases x with
  | none => exact .refl
  | some m => exact s.takeInstant_deeds p m

theorem State.markedHeld_deeds (h : Handover) : s.Deeds (s.markedHeld h p) :=
  .ite (fun _ => (State.Deed.quiet p _ ((s.pos p).quiet_cls (c := { (s.pos p).cls with resolveMark := true })
    ⟨rfl, rfl, rfl⟩ id)).deeds) fun _ => .refl

theorem directAsked_legal {n : NodeRec} {fit : FitState} {d : Direct} (h : directAsked n fit = some d) :
    d.cause = .none ↔ d.cls ≠ .fault := by
  by_cases hstate : n.state = .online ∨ n.state = .silent
  · rw [directAsked_identified fit hstate] at h
    cases fit <;> cases h <;> decide
  · rw [directAsked_lost fit (by cases hs : n.state <;> simp_all)] at h
    cases hv : n.verdict <;> rw [hv] at h <;> cases h <;> decide

theorem State.takeOutcome_deeds (he : (s.entry p).enabled = true) {h : Handover}
    (hd : ∀ d, h.direct = some d → (d.cause = .none ↔ d.cls ≠ .fault)) : s.Deeds (s.takeOutcome h p) := by
  cases hh : s.holdActive with
  | true =>
    rw [State.takeOutcome_held _ _ _ hh]
    exact (s.markedHeld_deeds p h).trans (State.votedHeld_deeds _ p _)
  | false =>
    rw [State.takeOutcome_free _ _ _ hh]
    cases hdirect : h.direct with
    | some d => rw [State.classify_direct _ _ _ hdirect]; exact s.applyDirect_deeds p hh he (hd d hdirect)
    | none =>
      by_cases hnode : h.node = .online
      · rw [State.classify_online _ _ _ hdirect hnode]
        have hstanding := s.standing_deeds p hh he h.identified
        exact hstanding.trans (State.voted_deeds _ p (hstanding.holdActive.trans hh) ((hstanding.enabled p).trans he) _)
      · rw [State.classify_offline _ _ _ hdirect hnode]

/-! ## Outcomes -/

theorem State.pipeline_deeds (x : SlotSample) : s.Deeds (s.pipeline p x) := by
  unfold State.pipeline
  extract_lets taken e pr loaded seated
  have htaken : s.Deeds taken := (State.Deed.take p x).deeds
  have hloaded : taken.Deed loaded := .quiet p _
    ⟨rfl, rfl, rfl, ⟨rfl, rfl⟩, rfl, rfl, fun _ => ⟨rfl, rfl, rfl⟩, fun h => LoadRec.take_legal h e pr x, id, id⟩
  have hseated : loaded.Deed seated := .quiet p _
    ⟨rfl, rfl, rfl, ⟨rfl, rfl⟩, rfl, rfl, fun _ => ⟨rfl, rfl, rfl⟩, id, id, fun _ hcap => by
      show ChildRec.take _ (loaded.pos p).childCap _ _ _ = _
      rw [hcap]
      rfl⟩
  exact ((htaken.tail hloaded).tail hseated).tail (.buckle p x)

theorem State.abortCaptureOf_deeds (r : CaptureResult) : s.Deeds (s.abortCaptureOf r p) :=
  .ite (fun _ => (State.Deed.abort r).deeds) fun _ => .refl

theorem State.handTo_deeds (he : (s.entry p).enabled = true) (n : NodeRec) (slip : Bool) (o : PollOutcome) :
    s.Deeds (s.handTo n slip o p) := by
  have hdirect (d : Direct) (h : (s.handover n slip o p).direct = some d) := directAsked_legal h
  cases h : s.delivered p slip o with
  | some x =>
    rw [State.handTo_sample _ _ _ _ _ h]
    have hpipe := s.pipeline_deeds p x
    exact hpipe.trans (State.takeOutcome_deeds _ p ((hpipe.enabled p).trans he) hdirect)
  | none =>
    rw [State.handTo_nothing _ _ _ _ _ h]
    have habort := s.abortCaptureOf_deeds p .node
    exact habort.trans (State.takeOutcome_deeds _ p ((habort.enabled p).trans he) hdirect)

theorem State.refit_deeds (he : (s.entry p).enabled = true) (n : NodeRec) (reason : Option NodeReason) :
    s.Deeds (s.refit n reason p) := by
  unfold State.refit
  split
  · split
    · exact (State.Deed.fit p _ he).deeds
    · exact .refl
  · exact (State.Deed.fit p _ he).deeds
  · exact (State.Deed.fit p _ he).deeds
  · exact .refl

end

section
variable (l : Line) (s : State)

theorem State.nodeTold_deeds (a : Fin 6) (o : PollOutcome) : s.Deeds (s.nodeTold l a o) := by
  unfold State.nodeTold
  extract_lets r
  have hset : s.Deeds (s.setNode l a r.1) := (State.Deed.scan _ s.freeCount).deeds
  cases r.2 with
  | none => exact hset
  | some why => exact hset.tail (.post _ _ _ _)

theorem State.bound_enabled {a : Fin 6} {p : Pos} (h : p ∈ s.bound l a) : (s.entry p).enabled = true := by
  rw [State.mem_bound, State.boundTo, Bool.and_eq_true, Bool.and_eq_true] at h
  exact h.1.1

theorem State.takeNodeOutcome_deeds (a : Fin 6) (o : PollOutcome) : s.Deeds (s.takeNodeOutcome l a o) := by
  rw [State.takeNodeOutcome_eq]
  have htold := s.nodeTold_deeds l a o
  have hbound (p : Pos) (hp : p ∈ s.bound l a) : (s.entry p).enabled = true := s.bound_enabled l hp
  generalize (s.node l a).after s.standstill o = r
  have hfitted : s.Deeds ((s.nodeTold l a o).forPositions (s.bound l a) (State.refit r.1 r.2)) :=
    htold.trans (State.forPositions_deeds (fun p s h => s.refit_deeds p h r.1 r.2) _ _
      fun p hp => (htold.enabled p).trans (hbound p hp))
  have hhanded := State.forPositions_deeds (f := State.handTo r.1 (r.2 = some .slip) o)
    (fun p s h => s.handTo_deeds p h r.1 _ o) (s.bound l a) _ fun p hp => (hfitted.enabled p).trans (hbound p hp)
  exact hfitted.trans hhanded

theorem State.setExchange_deed (x : Option Exchange) : s.Deed (s.setExchange l x) := .scan _ s.freeCount

theorem State.visit_deeds (as : List (Fin 6)) : s.Deeds (s.visit l as) := by
  induction as generalizing s with
  | nil => exact (s.setExchange_deed l none).deeds
  | cons a as ih =>
    unfold State.visit
    split
    · exact (s.setExchange_deed l _).deeds
    · exact (s.takeNodeOutcome_deeds l a .skip).trans (ih _)

/-- The end of an exchange, and the round that goes on (R19, R25). -/
theorem State.endExchange_deeds (chars : List Byte) : s.Deeds (s.endExchange l chars) := by
  unfold State.endExchange
  split
  · exact .refl
  · exact ((s.setExchange_deed l none).deeds.trans (State.takeNodeOutcome_deeds l _ _ _)).trans (State.visit_deeds l _ _)

theorem State.beginRounds_deeds : s.Deeds s.beginRounds := by
  have hcount : s.Deeds { s with freeCount := s.freeCount + 1 } := (State.Deed.scan s.scanner (s.freeCount + 1)).deeds
  unfold State.beginRounds
  split
  · exact (hcount.trans (State.visit_deeds .b _ _)).trans (State.visit_deeds .a _ _)
  · split
    · exact (hcount.trans (State.visit_deeds .a _ _)).trans (State.visit_deeds .b _ _)
    · exact (State.visit_deeds .a _ _).trans (State.visit_deeds .b _ _)

/-- A scan tick (R20, R22, R101). -/
theorem State.beginScan_deeds : s.Deeds s.beginScan := by
  have hstarted : s.Deeds s.scanStarted := (State.Deed.scan _ s.freeCount).deeds
  exact (hstarted.trans (State.forPositions_deed (fun p s => .count p) _ _)).trans (State.beginRounds_deeds _)

end

end Sys2Proof.Machine

/-! The ports at every step: the notice queues stay legal (R142) and the frame assemblers too (R134, R136). -/

namespace Sys2Proof.Machine

/-! ## What commands and events leave of the ports -/

/-- From x to y a port's queue stayed legal where it was, and its assembler and its reply stayed. -/
structure PortState.Keeps (x y : PortState) : Prop where
  queue : queueLegal x.queue → queueLegal y.queue
  assembler : y.assembler = x.assembler
  reply : y.reply = x.reply

/-- Every port keeps its queue legal, its assembler and its reply. -/
def State.KeepsPorts (s t : State) : Prop := ∀ q, (s.port q).Keeps (t.port q)

theorem PortState.Keeps.refl (x : PortState) : x.Keeps x := ⟨id, rfl, rfl⟩

theorem PortState.Keeps.trans {x y z : PortState} (h : x.Keeps y) (k : y.Keeps z) : x.Keeps z :=
  ⟨k.queue ∘ h.queue, k.assembler.trans h.assembler, k.reply.trans h.reply⟩

theorem PortState.Posts.keeps {x y : PortState} (h : x.Posts y) : x.Keeps y := ⟨h.legal, h.assembler, h.reply⟩

theorem State.KeepsPorts.refl (s : State) : s.KeepsPorts s := fun _ => .refl _

theorem State.KeepsPorts.trans {s t u : State} (h : s.KeepsPorts t) (k : t.KeepsPorts u) : s.KeepsPorts u :=
  fun q => (h q).trans (k q)

/-- An operation that leaves the ports keeps them. -/
theorem State.KeepsPorts.of_eq {s t : State} (h : t.ports = s.ports) : s.KeepsPorts t := fun q => by
  rw [State.port, State.port, h]
  exact .refl _

theorem State.Touches.keepsPorts {s t : State} (h : s.Touches t) : s.KeepsPorts t := fun q => (h.ports q).keeps

section
variable (s : State)

theorem State.post_keepsPorts (p : Port) (k : NoticeKind) (n : Nat) (v : Half) : s.KeepsPorts (s.post p k n v) :=
  fun q => (s.post_posts p k n v q).keeps

/-- A port gets a record that keeps the queue legal, the assembler and the reply. -/
theorem State.setPort_keepsPorts {p : Port} {x : PortState} (h : (s.port p).Keeps x) : s.KeepsPorts (s.setPort p x) := fun q => by
  rw [State.port_setPort]
  split
  · subst q; exact h
  · exact .refl _

theorem State.judgeAttention_keepsPorts (p : Port) : s.KeepsPorts (s.judgeAttention p) :=
  s.setPort_keepsPorts ⟨id, rfl, rfl⟩

theorem State.abortCapture_keepsPorts (r : CaptureResult) : s.KeepsPorts (s.abortCapture r) := by
  unfold State.abortCapture
  split
  · exact .refl s
  · exact State.post_keepsPorts { s with capture := none } _ _ _ _

theorem State.captureTake_keepsPorts (p : Pos) (x : SlotSample) : s.KeepsPorts (s.captureTake p x) := by
  unfold State.captureTake
  split
  · exact .refl s
  · split
    · exact .refl s
    · split
      · exact s.abortCapture_keepsPorts _
      · split
        · exact .of_eq rfl
        · exact State.post_keepsPorts (({ s with capture := none } : State).stageZero p _) _ _ _ _

theorem State.Deed.keepsPorts {s t : State} (h : s.Deed t) : s.KeepsPorts t := by
  cases h with
  | scan c n => exact .of_eq rfl
  | post q k n v => exact s.post_keepsPorts q k n v
  | quiet p f h => exact .of_eq rfl
  | change p cls cause hh he hc => exact (s.changeClass_touches p true cls cause).keepsPorts
  | buckle p x => exact (s.takeBuckle_touches p x).keepsPorts
  | fit p fit he => exact (s.setFit_touches p fit).keepsPorts
  | evaluate p => exact (s.evaluate_touches p).keepsPorts
  | count p => exact (s.countScan_touches p).keepsPorts
  | wake => exact s.wake_touches.keepsPorts
  | abort r => exact s.abortCapture_keepsPorts r
  | take p x => exact s.captureTake_keepsPorts p x

theorem State.Deeds.keepsPorts {s t : State} (h : s.Deeds t) : s.KeepsPorts t :=
  State.Deeds.keeps (P := s.KeepsPorts) (fun _ _ k hu => hu.trans k.keepsPorts) h (.refl s)

theorem State.applyStaged_keepsPorts : s.KeepsPorts s.applyStaged := by
  have hmapped : s.KeepsPorts s.mapped := .of_eq rfl
  have habort : s.walked.KeepsPorts (s.walked.abortMoved s.config.map s.stagedPositions) := by
    unfold State.abortMoved
    split
    · exact .refl _
    · split
      · exact State.abortCapture_keepsPorts _ _
      · exact .refl _
  have hsettled := ((hmapped.trans s.walked_touches.keepsPorts).trans habort).trans
    (State.deriveSuppression_touches _).keepsPorts
  exact hsettled.trans (.of_eq rfl)

theorem State.applyDeferred_keepsPorts : s.KeepsPorts s.applyDeferred := by
  by_cases h : s.staging.deferred = false ∨ ¬ s.gateOpen
  · rw [State.applyDeferred_waits h]; exact .refl s
  · obtain ⟨hd, hopen⟩ := not_or.1 h
    rw [State.applyDeferred_applies (by simpa using hd) (by simpa using hopen)]
    have hstaged : s.KeepsPorts { s.applyStaged with staging := { s.applyStaged.staging with deferred := false } } :=
      s.applyStaged_keepsPorts.trans (.of_eq rfl)
    exact hstaged.trans (State.post_keepsPorts _ _ _ _ _)

theorem State.loseStandstill_keepsPorts : s.KeepsPorts s.loseStandstill := by
  have habort := s.abortCapture_keepsPorts .locked
  cases h : s.vehicle.testMode with
  | false => rw [State.loseStandstill_off h]; exact habort
  | true =>
    rw [State.loseStandstill_on h]
    have hended : (s.abortCapture .locked).KeepsPorts (s.abortCapture .locked).endTestMode := .of_eq rfl
    exact (habort.trans hended).trans (State.post_keepsPorts _ _ _ _ _)

theorem State.reportTaken_keepsPorts (i : Ignition) (speed : Nat) (g : Gear) (d : Door) :
    s.KeepsPorts (s.reportTaken i speed g d) := by
  unfold State.reportTaken
  extract_lets stored
  have hstored : s.KeepsPorts stored := .of_eq rfl
  have hlost : s.KeepsPorts (if s.standstill && !stored.standstill then stored.loseStandstill else stored) := by
    split
    · exact hstored.trans stored.loseStandstill_keepsPorts
    · exact hstored
  have hwatch (u : State) : u.KeepsPorts (u.watchReport s.vehicle.ignition) :=
    .of_eq (congrArg State.ports (u.watchReport_rest s.vehicle.ignition) :)
  exact (hlost.trans (hwatch _)).trans (State.forPositions_touches (fun p s => s.evaluate_touches p) _ _).keepsPorts

theorem State.holdLapsed_keepsPorts : s.KeepsPorts s.holdLapsed :=
  State.KeepsPorts.trans (t := { s with restraint := { s.restraint with hold := none, lastExpired := true } }) (.of_eq rfl)
    (State.post_keepsPorts _ _ _ _ _)

theorem State.judgeWatch_keepsPorts : s.KeepsPorts s.judgeWatch := by
  by_cases h : ∃ p, s.keepsWatch p = true
  · rw [State.judgeWatch_repeats h]
    have hposted := State.post_keepsPorts (s.setWatched s.keepsWatch) .cabin .leftBehind 0 (maskOf s.keepsWatch)
    exact hposted
  · rw [State.judgeWatch_ends (by simpa using h)]
    exact .of_eq rfl

/-- A save ended with the store read back, the mark set where it agrees with the image (R151). -/
def State.saveStored (s : State) (image readBack : StoreImage) : State :=
  { s with saveImage := none, store := { complete := decide (readBack = image), image := readBack } }

/-- A save ended and told, before a deferred commit is thought of. -/
def State.saveJudged (s : State) (image readBack : StoreImage) : State :=
  (s.saveStored image readBack).post .service .saveDone 0 (payloadOf 0 (if decide (readBack = image) then 0 else 1))

theorem State.endSave_idle {s : State} (readBack : StoreImage) (h : s.saveImage = none) : s.endSave readBack = s := by
  rw [State.endSave, h]

theorem State.endSave_inFlight {s : State} (readBack : StoreImage) {image : StoreImage} (h : s.saveImage = some image) :
    s.endSave readBack = (s.saveJudged image readBack).applyDeferred := by
  rw [State.endSave, h]
  rfl

theorem queueLegal_tail {n : Notice} {rest : List Notice} (h : queueLegal (n :: rest)) : queueLegal rest :=
  ⟨(Nat.le_succ _).trans h.1, (List.nodup_cons.1 h.2).2⟩

/-- A queue with the same kinds and subjects. -/
theorem queueLegal_of_keys {q r : List Notice} (hkeys : r.map (fun n => (n.kind, n.subject)) = q.map fun n => (n.kind, n.subject))
    (h : queueLegal q) : queueLegal r := by
  have hlength := congrArg List.length hkeys
  rw [List.length_map, List.length_map] at hlength
  exact ⟨hlength ▸ h.1, hkeys ▸ h.2⟩

theorem ageOldest_keys (limit : Nat) (q : List Notice) :
    (ageOldest limit q).map (fun n => (n.kind, n.subject)) = q.map fun n => (n.kind, n.subject) := by
  cases q <;> rfl

theorem State.CommandEffect.keepsPorts {s t : State} (h : s.CommandEffect t) : s.KeepsPorts t := by
  cases h with
  | none => exact .refl s
  | clearOverflow p => exact s.setPort_keepsPorts ⟨id, rfl, rfl⟩
  | readNotice p n rest h =>
    have hread : s.KeepsPorts (s.setPort p { s.port p with queue := rest }) :=
      s.setPort_keepsPorts ⟨fun hq => queueLegal_tail (h ▸ hq), rfl, rfl⟩
    exact hread.trans (State.judgeAttention_keepsPorts _ p)
  | hold =>
    rw [State.startHold_eq]
    have htaken : s.KeepsPorts { s with restraint := s.heldRestraint } := .of_eq rfl
    exact htaken.trans (State.abortCapture_keepsPorts _ .locked)
  | endHold h => exact State.KeepsPorts.trans (t := s.unheld) (.of_eq rfl) (State.applyDeferred_keepsPorts _)
  | restraint g h => exact .of_eq rfl
  | report i speed g d => exact (s.reportTaken_keepsPorts i speed g d).trans (State.applyDeferred_keepsPorts _)
  | confirm p => exact .of_eq rfl
  | mute ps => exact (State.forPositions_touches (fun p s => s.muteOne_touches p) ps s).keepsPorts
  | dismiss => exact .of_eq rfl
  | stage p e he hd => exact .of_eq rfl
  | swap p q hd => exact .of_eq rfl
  | discard => exact .of_eq rfl
  | commit hh hm => exact s.applyStaged_keepsPorts
  | defer hm => exact .of_eq rfl
  | capture p => exact .of_eq rfl
  | profile i x h => exact .of_eq rfl
  | settings x h =>
    have hset : s.KeepsPorts { s with config := { s.config with settings := x } } := .of_eq rfl
    exact ((hset.trans (State.judgeAttention_keepsPorts _ _)).trans (State.judgeAttention_keepsPorts _ _)).trans
      (State.judgeAttention_keepsPorts _ _)
  | save => exact .of_eq rfl
  | testOn => exact .of_eq (by unfold State.testOn; split <;> rfl)
  | testOff => exact .of_eq (by unfold State.testOff; split <;> rfl)
  | inject p x h => exact .of_eq rfl
  | reset => exact .of_eq rfl

theorem State.EventEffect.keepsPorts {s t : State} (h : s.EventEffect t) : s.KeepsPorts t := by
  cases h with
  | none => exact .refl s
  | scan => exact s.beginScan_deeds.keepsPorts
  | exchange l chars => exact (State.endExchange_deeds l s chars).keepsPorts
  | tick => exact .of_eq rfl
  | grace p h => exact (s.enterVisual_touches p).keepsPorts
  | visual p h => exact (s.enterAudible_touches p).keepsPorts
  | audible p h => exact (s.moveReminder_touches p _ _).keepsPorts
  | hold h => exact s.holdLapsed_keepsPorts.trans (State.applyDeferred_keepsPorts _)
  | stale =>
    unfold State.goStale
    simp only
    split
    · exact State.KeepsPorts.trans (t := s.stale) (.of_eq rfl) (State.loseStandstill_keepsPorts _)
    · exact .of_eq rfl
  | watch h => exact s.judgeWatch_keepsPorts
  | eco h => exact .of_eq rfl
  | age p =>
    have haged : s.KeepsPorts (s.setPort p { s.port p with queue := ageOldest (s.ageLimit p) (s.port p).queue }) :=
      s.setPort_keepsPorts ⟨queueLegal_of_keys (ageOldest_keys _ _), rfl, rfl⟩
    exact haged.trans (State.judgeAttention_keepsPorts _ p)
  | save readBack =>
    cases h : s.saveImage with
    | none => rw [State.endSave_idle _ h]; exact .refl s
    | some image =>
      rw [State.endSave_inFlight _ h]
      exact State.KeepsPorts.trans (t := s.saveJudged image readBack) (State.post_keepsPorts (s.saveStored image readBack) _ _ _ _)
        (State.applyDeferred_keepsPorts _)

end

/-! ## A rule about ports that every step keeps -/

theorem idle_legal (x : PortState) : { x with assembler := .idle }.AssemblerLegal := ⟨by simp, fun h => absurd rfl h⟩

theorem discarding_legal (x : PortState) : { x with assembler := .discarding }.AssemblerLegal := ⟨by simp, fun h => absurd rfl h⟩

theorem State.passTime_keepsPorts (s : State) : s.KeepsPorts s.passTime := by
  intro q
  unfold State.passTime
  simp only
  split
  · rw [State.passTimers_port]
    exact ⟨queueLegal_of_keys (by simp only [PortState.age, List.map_map]; rfl), rfl, rfl⟩
  · exact .refl _

/-- A rule that commands and events keep, and that the characters, the replies and the resets keep. -/
structure PortRule (P : PortState → Prop) : Prop where
  keeps : ∀ x y : PortState, x.Keeps y → P x → P y
  assembles : ∀ (x : PortState) (a : Assembler), { x with assembler := a }.AssemblerLegal → P x → P { x with assembler := a }
  replies : ∀ (x : PortState) (b : List Byte), x.assembler = .idle → P x → P { x with reply := some b }
  ends : ∀ x : PortState, P x → P { x with reply := none }
  fresh : P .fresh

section
variable {P : PortState → Prop} (hP : PortRule P) {s t : State}
include hP

theorem PortRule.of_keeps (h : s.KeepsPorts t) (hs : ∀ q, P (s.port q)) (q : Port) : P (t.port q) := hP.keeps _ _ (h q) (hs q)

omit hP in
theorem PortRule.setPort {p : Port} {x : PortState} (hx : P x) (hs : ∀ q, P (s.port q)) (q : Port) : P ((s.setPort p x).port q) := by
  rw [State.port_setPort]
  split
  · exact hx
  · exact hs q

/-- A row keeps the rule. -/
theorem PortRule.row (h : s.RowEffect t) (hs : ∀ q, P (s.port q)) (q : Port) : P (t.port q) := by
  have hports {u v : State} (h : v.ports = u.ports) (hu : ∀ q, P (u.port q)) (q : Port) : P (v.port q) := by
    rw [State.port, h]; exact hu q
  have hdropped (x : PortState) (hx : P x) : P x.countDrop := hP.keeps x _ ⟨id, rfl, rfl⟩ hx
  have hreset {u : State} (h : u.PortsAtReset) : P (u.port q) := by rw [show u.port q = .fresh from h q]; exact hP.fresh
  cases h with
  | none => exact hs q
  | event h hu => exact hP.of_keeps hu.keepsPorts hs q
  | @command p bytes u h hl hu =>
    have hreceived : ∀ q, P ((s.received p).port q) := hports (State.frameReported_ports _)
      (PortRule.setPort (hP.assembles _ _ (idle_legal _) (hs p)) hs)
    have hjudged := hP.of_keeps hu.keepsPorts hreceived
    have hidle : (u.port p).assembler = .idle := by rw [(hu.keepsPorts p).assembler, State.received_port, if_pos rfl]
    exact PortRule.setPort (s := u) (hP.replies _ bytes hidle (hjudged p)) hjudged q
  | discarded p =>
    exact hports (State.frameReported_ports _)
      (PortRule.setPort (hP.assembles _ _ (discarding_legal _) (hdropped _ (hs p))) hs) q
  | partialFrame p => exact PortRule.setPort (hP.assembles _ _ (idle_legal _) (hdropped _ (hs p))) hs q
  | gap p => exact PortRule.setPort (hP.assembles _ _ (idle_legal _) (hs p)) hs q
  | replyEnd p => exact PortRule.setPort (hP.ends _ (hs p)) hs q
  | powerOn => exact hreset s.clearBlocks_ports
  | resetLow => exact hreset s.clearBlocks_ports
  | load => exact hreset s.clearBlocks_ports
  | loaded =>
    rw [State.endLoad_eq]
    have hblocks (q : Port) : P ((s.loadedBlocks (checkStore s.store)).port q) := by
      rw [State.loadedBlocks_port]; exact hP.fresh
    cases hr : checkStore s.store with
    | ok c => rw [hr] at hblocks; exact hblocks q
    | error e => rw [hr] at hblocks; exact hP.of_keeps (State.post_keepsPorts _ _ _ _ _) hblocks q

/-- A step keeps the rule. -/
theorem PortRule.step (h : step s = .next t) (hs : ∀ q, P (s.port q)) (q : Port) : P (t.port q) := by
  rcases step_cases h with rfl | ⟨n, incoming, pending, u, hu, hrow⟩
  · exact hP.of_keeps s.passTime_keepsPorts hs q
  · rcases hu with rfl | ⟨p, x, hx, rfl⟩
    · exact hP.row hrow hs q
    · exact hP.row hrow (PortRule.setPort (s := { s with freeCount := n, incoming := incoming, pending := pending })
        (hP.assembles (s.port p) x hx (hs p)) hs) q

end

theorem queueRule : PortRule fun x => queueLegal x.queue where
  keeps _ _ h := h.queue
  assembles _ _ _ h := h
  replies _ _ _ h := h
  ends _ h := h
  fresh := ⟨by decide, by decide⟩

theorem assemblerRule : PortRule PortState.AssemblerLegal where
  keeps x y h hx := by
    unfold PortState.AssemblerLegal
    rw [h.assembler, h.reply]
    exact hx
  assembles _ _ h _ := h
  replies x b hidle _ := ⟨by simp [hidle], fun h => absurd (by simp [hidle, Assembler.received]) h⟩
  ends x h := ⟨h.1, fun hb => ⟨rfl, (h.2 hb).2⟩⟩
  fresh := ⟨by decide, fun h => absurd rfl h⟩

theorem State.queuesLegal_iff (s : State) : s.QueuesLegal ↔ ∀ q, queueLegal (s.port q).queue :=
  ⟨fun ⟨hs, hc, hv⟩ q => by cases q; exacts [hs, hc, hv], fun h => ⟨h .safety, h .cabin, h .service⟩⟩

theorem State.assemblersLegal_iff (s : State) : s.AssemblersLegal ↔ ∀ q, (s.port q).AssemblerLegal :=
  ⟨fun ⟨hs, hc, hv⟩ q => by cases q; exacts [hs, hc, hv], fun h => ⟨h .safety, h .cabin, h .service⟩⟩

/-- Settles O53: both rules are rules about ports, which rows and steps keep. -/
theorem everyStepKeepsQueuesLegal : Obligations.EveryStepKeepsQueuesLegal := by
  unfold Obligations.EveryStepKeepsQueuesLegal
  refine ⟨fun s t hs h => ?_, fun s t hs h => ?_⟩
  · exact t.queuesLegal_iff.2 (queueRule.step h (s.queuesLegal_iff.1 hs))
  · exact t.assemblersLegal_iff.2 (assemblerRule.step h (s.assemblersLegal_iff.1 hs))

end Sys2Proof.Machine

/-! The configuration, the staging area and a capture at every step: every field stays in its range and the map consistent (R1, R2, R8,
R49). -/

namespace Sys2Proof.Machine

/-! ## The rule -/

/-- Fields and map are legal. -/
def State.SetupLegal (s : State) : Prop := s.FieldsLegal ∧ s.MapLegal

/-- From s to t configuration and staging stayed, and a capture stayed or ended. -/
structure State.KeepsSetup (s t : State) : Prop where
  config : t.config = s.config
  staging : t.staging = s.staging
  capture : t.capture = s.capture ∨ t.capture = none

theorem State.KeepsSetup.refl (s : State) : s.KeepsSetup s := ⟨rfl, rfl, .inl rfl⟩

theorem State.KeepsSetup.trans {s t u : State} (h : s.KeepsSetup t) (k : t.KeepsSetup u) : s.KeepsSetup u :=
  ⟨k.config.trans h.config, k.staging.trans h.staging, k.capture.elim (fun e => e ▸ h.capture) .inr⟩

theorem State.Touches.keepsSetup {s t : State} (h : s.Touches t) : s.KeepsSetup t := ⟨h.config, h.staging, .inl h.capture⟩

theorem State.stagedMap_congr {s t : State} (hconfig : t.config = s.config) (hstaging : t.staging = s.staging) :
    t.stagedMap = s.stagedMap := by
  unfold State.stagedMap State.swapSource State.entry
  rw [hconfig, hstaging]

theorem State.KeepsSetup.legal {s t : State} (h : s.KeepsSetup t) (hs : s.SetupLegal) : t.SetupLegal := by
  obtain ⟨⟨hentries, hprofiles, hsettings, hstaged, hcapture⟩, hmap, hdeferred⟩ := hs
  have hentry (p : Pos) : t.entry p = s.entry p := by rw [State.entry, h.config, State.entry]
  refine ⟨⟨fun p => hentry p ▸ hentries p, h.config ▸ hprofiles, h.config ▸ hsettings, h.staging ▸ hstaged, ?_⟩,
    h.config ▸ hmap, ?_⟩
  · rcases h.capture with k | k <;> rw [k]
    · exact hcapture
    · exact fun c hc => nomatch hc
  · rw [h.staging, State.stagedMap_congr h.config h.staging]
    exact hdeferred

/-! ## Operations -/

theorem State.stagedMap_get (s : State) (p : Pos) : s.stagedMap.get p = s.swapSource p := PerPos.get_ofFn _ p

/-- What a staged position would become is in range. -/
theorem State.FieldsLegal.swapSource {s : State} (h : s.FieldsLegal) (p : Pos) : (s.swapSource p).inRange = true := by
  obtain ⟨hentries, -, -, hstaged, -⟩ := h
  unfold State.swapSource
  cases hp : s.staging.entries.get p with
  | none => exact hentries p
  | some e => exact hstaged p e hp

/-- The map conditions do not read a zero (R2). -/
theorem mapConsistent_of_zeros {m k : PerPos MapEntry} (z : Pos → Int) (h : ∀ p, k.get p = { m.get p with z := z p }) :
    mapConsistent k = mapConsistent m := by
  simp only [mapConsistent, bindingsDistinct, airbagUnique, driverFirst, driverOnly, rowsAgree, h]
  rfl

section
variable (s : State)

/-- Entries in range are staged where no commit is pending. -/
theorem State.stage_legal (hs : s.SetupLegal) {p : Pos} {e : MapEntry} (he : e.inRange = true) (hd : s.staging.deferred = false) :
    (s.stage p e).SetupLegal := by
  obtain ⟨⟨hentries, hprofiles, hsettings, hstaged, hcapture⟩, hmap, -⟩ := hs
  refine ⟨⟨hentries, hprofiles, hsettings, fun q x hx => ?_, hcapture⟩, hmap, fun h => absurd (hd.symm.trans h) Bool.false_ne_true⟩
  rw [Option.mem_def, State.stage_entries] at hx
  split at hx
  · cases hx; exact he
  · exact hstaged q x hx

theorem MapEntry.withPlacement_inRange {e : MapEntry} (h : e.inRange = true) (f : MapEntry) : (e.withPlacement f).inRange = true := h

/-- A zero in its range, written by a capture that has ended: the map it would give changes in the zero alone (R50). -/
theorem State.stage_zero_legal (hs : s.SetupLegal) (hnone : s.capture = none) (p : Pos) {n : Nat} (hn : n ≤ 511) :
    (s.stage p { s.swapSource p with z := (n : Int) }).SetupLegal := by
  obtain ⟨hfields, hmap, hdeferred⟩ := hs
  obtain ⟨hrow1, hrow5, -, -, hg1, hg2, hk⟩ := (MapEntry.inRange_iff _).1 (hfields.swapSource p)
  obtain ⟨hentries, hprofiles, hsettings, hstaged, -⟩ := hfields
  have hzero : ({ s.swapSource p with z := (n : Int) } : MapEntry).inRange = true :=
    (MapEntry.inRange_iff _).2 ⟨hrow1, hrow5, (by omega : -512 ≤ (n : Int)), (by omega : (n : Int) ≤ 511), hg1, hg2, hk⟩
  refine ⟨⟨hentries, hprofiles, hsettings, fun q x hx => ?_, fun c hc => ?_⟩, hmap, fun hd => ?_⟩
  · rw [Option.mem_def, State.stage_entries] at hx
    split at hx
    · cases hx; exact hzero
    · exact hstaged q x hx
  · exact absurd (hnone.symm.trans hc) (Option.some_ne_none c).symm
  · refine (mapConsistent_of_zeros (fun q => if q = p then (n : Int) else (s.swapSource q).z) fun q => ?_).trans (hdeferred hd)
    rw [State.stagedMap_get, State.stagedMap_get, State.swapSource, State.stage_entries]
    by_cases hq : q = p
    · subst q
      rw [if_pos rfl, if_pos rfl, Option.getD_some]
    · rw [if_neg hq, if_neg hq]
      rfl

theorem State.abortCapture_keepsSetup (r : CaptureResult) : s.KeepsSetup (s.abortCapture r) :=
  have h := s.abortCapture_rest r
  ⟨(congrArg State.config h :), (congrArg State.staging h :), .inr (s.abortCapture_capture r)⟩

theorem State.post_keepsSetup (p : Port) (k : NoticeKind) (n : Nat) (v : Half) : s.KeepsSetup (s.post p k n v) :=
  (s.post_touches p k n v).keepsSetup

/-- A sample taken by a capture: counted below its limit, or the mean of 16 loads below 400 staged (R49, R50). -/
theorem State.captureTake_legal (hs : s.SetupLegal) (p : Pos) (x : SlotSample) : (s.captureTake p x).SetupLegal := by
  cases hc : s.capture with
  | none => simpa only [State.captureTake, hc] using hs
  | some c =>
    have hended : ({ s with capture := none } : State).SetupLegal :=
      State.KeepsSetup.legal (s := s) (t := { s with capture := none }) ⟨rfl, rfl, .inr rfl⟩ hs
    by_cases hp : c.position = p
    · by_cases hbad : x.matFault = true ∨ 400 ≤ x.load
      · rw [State.captureTake_unstable hc hp hbad]
        exact (State.post_keepsSetup _ _ _ _ _).legal hended
      · obtain ⟨hmat, hload⟩ := not_or.1 hbad
        rw [State.captureTake_steady hc hp (by simpa using hmat) (by omega)]
        obtain ⟨⟨hentries, hprofiles, hsettings, hstaged, hcapture⟩, hmap⟩ := hs
        obtain ⟨hcount, hsum⟩ := hcapture c hc
        by_cases hmore : c.count + 1 < captureSamples
        · rw [if_pos hmore]
          refine ⟨⟨hentries, hprofiles, hsettings, hstaged, fun d hd => ?_⟩, hmap⟩
          obtain rfl : _ = d := Option.some.inj hd
          exact ⟨hmore, show c.sum + x.load ≤ (captureLimit - 1) * (c.count + 1) by unfold captureLimit at hsum ⊢; omega⟩
        · have hmean : captureZero (c.sum + x.load) ≤ 511 := by
            unfold captureZero
            unfold captureLimit at hsum
            unfold captureSamples at hcount
            omega
          rw [if_neg hmore]
          exact (State.post_keepsSetup _ _ _ _ _).legal (State.stage_zero_legal _ hended rfl p hmean)
    · rw [State.captureTake_other hc hp]
      exact hs

theorem State.Deed.setupLegal {s t : State} (h : s.Deed t) (hs : s.SetupLegal) : t.SetupLegal := by
  cases h with
  | scan c n => exact hs
  | post q k n v => exact (s.post_keepsSetup q k n v).legal hs
  | quiet p f h => exact hs
  | change p cls cause hh he hc => exact (s.changeClass_touches p true cls cause).keepsSetup.legal hs
  | buckle p x => exact (s.takeBuckle_touches p x).keepsSetup.legal hs
  | fit p fit he => exact (s.setFit_touches p fit).keepsSetup.legal hs
  | evaluate p => exact (s.evaluate_touches p).keepsSetup.legal hs
  | count p => exact (s.countScan_touches p).keepsSetup.legal hs
  | wake => exact s.wake_touches.keepsSetup.legal hs
  | abort r => exact (s.abortCapture_keepsSetup r).legal hs
  | take p x => exact s.captureTake_legal hs p x

/-! ## Commits -/

theorem State.settled_keepsSetup : s.mapped.KeepsSetup s.settled := by
  have habort : s.walked.KeepsSetup (s.walked.abortMoved s.config.map s.stagedPositions) := by
    unfold State.abortMoved
    split
    · exact .refl _
    · split
      · exact State.abortCapture_keepsSetup _ _
      · exact .refl _
  exact (s.walked_touches.keepsSetup.trans habort).trans (State.deriveSuppression_touches _).keepsSetup

/-- A consistent staged map becomes the live map, and nothing stays staged (R12, R14). -/
theorem State.applyStaged_legal (hs : s.SetupLegal) (hm : mapConsistent s.stagedMap = true) : s.applyStaged.SetupLegal := by
  have hkeeps := s.settled_keepsSetup
  rw [State.applyStaged_eq]
  generalize s.settled = t at hkeeps ⊢
  obtain ⟨hfields, -⟩ := hs
  have hentry (p : Pos) : t.entry p = s.swapSource p := by
    rw [State.entry, hkeeps.config]
    exact s.stagedMap_get p
  have hempty (p : Pos) : Staging.empty.entries.get p = none := Staging.empty_entries p
  have hmap : mapConsistent t.config.map = true := by rw [hkeeps.config]; exact hm
  obtain ⟨-, hprofiles, hsettings, -, hcapture⟩ := id hfields
  refine ⟨⟨fun p => (hentry p).symm ▸ hfields.swapSource p, hkeeps.config ▸ hprofiles, hkeeps.config ▸ hsettings,
    fun p e he => ?_, fun c hc => ?_⟩, hmap, fun _ => ?_⟩
  · exact absurd ((hempty p).symm.trans he) (Option.some_ne_none e).symm
  · rcases hkeeps.capture with h | h
    · exact hcapture c (h.symm.trans hc)
    · exact absurd (h.symm.trans hc) (Option.some_ne_none c).symm
  · have hsame : ({ t with staging := { t.staging with entries := Staging.empty.entries } } : State).stagedMap = t.config.map :=
      vector_ext_get fun p => by
        rw [State.stagedMap_get, State.swapSource]
        exact (congrArg (fun e => Option.getD e _) (hempty p)).trans rfl
    rw [hsame]; exact hmap

theorem State.applyDeferred_legal (hs : s.SetupLegal) : s.applyDeferred.SetupLegal := by
  by_cases h : s.staging.deferred = false ∨ ¬ s.gateOpen
  · rw [State.applyDeferred_waits h]; exact hs
  · obtain ⟨hd, hopen⟩ := not_or.1 h
    have hd : s.staging.deferred = true := by simpa using hd
    have happlied := s.applyStaged_legal hs (hs.2.2 hd)
    rw [State.applyDeferred_applies hd (not_not.1 hopen)]
    generalize s.applyStaged = t at happlied ⊢
    have hundeferred : ({ t with staging := { t.staging with deferred := false } } : State).SetupLegal :=
      ⟨happlied.1, happlied.2.1, fun h => nomatch h⟩
    exact (State.post_keepsSetup _ _ _ _ _).legal hundeferred

/-! ## Commands and events -/

theorem State.loseStandstill_keepsSetup : s.KeepsSetup s.loseStandstill :=
  have h := s.loseStandstill_rest
  ⟨(congrArg State.config h :), (congrArg State.staging h :), .inr s.loseStandstill_capture⟩

theorem State.reportTaken_keepsSetup (i : Ignition) (speed : Nat) (g : Gear) (d : Door) :
    s.KeepsSetup (s.reportTaken i speed g d) := by
  unfold State.reportTaken
  extract_lets stored
  have hstored : s.KeepsSetup stored := ⟨rfl, rfl, .inl rfl⟩
  have hlost : s.KeepsSetup (if s.standstill && !stored.standstill then stored.loseStandstill else stored) := by
    split
    · exact hstored.trans stored.loseStandstill_keepsSetup
    · exact hstored
  have hwatch (u : State) : u.KeepsSetup (u.watchReport s.vehicle.ignition) :=
    have h := u.watchReport_rest s.vehicle.ignition
    ⟨(congrArg State.config h :), (congrArg State.staging h :), .inl (congrArg State.capture h :)⟩
  exact (hlost.trans (hwatch _)).trans (State.forPositions_touches (fun p s => s.evaluate_touches p) _ _).keepsSetup

/-- A capture that starts has gathered nothing (R49). -/
theorem State.startCapture_legal (hs : s.SetupLegal) (p : Pos) :
    ({ s with capture := some { position := p, count := 0, sum := 0 } } : State).SetupLegal := by
  obtain ⟨⟨hentries, hprofiles, hsettings, hstaged, -⟩, hmap⟩ := hs
  refine ⟨⟨hentries, hprofiles, hsettings, hstaged, fun c hc => ?_⟩, hmap⟩
  obtain rfl : _ = c := Option.some.inj hc
  exact ⟨(by decide : 0 < captureSamples), Nat.zero_le _⟩

theorem State.setProfile_legal (hs : s.SetupLegal) (i : Fin 4) {x : Profile} (h : x.valid = true) : (s.setProfile i x).SetupLegal := by
  obtain ⟨⟨hentries, hprofiles, hsettings, hrest⟩, hmap⟩ := hs
  refine ⟨⟨hentries, fun j => ?_, hsettings, hrest⟩, hmap⟩
  have hget : (s.setProfile i x).config.profiles.get j = if j = i then x else s.config.profiles.get j :=
    vector_get_set s.config.profiles i j x
  rw [hget]
  split
  · exact h
  · exact hprofiles j

theorem State.setSettings_legal (hs : s.SetupLegal) {x : Settings} (h : x.valid = true) : (s.setSettings x).SetupLegal := by
  obtain ⟨⟨hentries, hprofiles, -, hrest⟩, hmap⟩ := hs
  exact ⟨⟨hentries, hprofiles, h, hrest⟩, hmap⟩

theorem State.discard_legal (hs : s.SetupLegal) : ({ s with staging := .empty } : State).SetupLegal := by
  obtain ⟨⟨hentries, hprofiles, hsettings, -, hcapture⟩, hmap, -⟩ := hs
  exact ⟨⟨hentries, hprofiles, hsettings, fun p e he => absurd ((Staging.empty_entries p).symm.trans he) (Option.some_ne_none e).symm,
    hcapture⟩, hmap, fun h => nomatch h⟩

theorem State.CommandEffect.setupLegal {s t : State} (h : s.CommandEffect t) (hs : s.SetupLegal) : t.SetupLegal := by
  cases h with
  | none => exact hs
  | clearOverflow p => exact hs
  | readNotice p n rest h => exact hs
  | hold => rw [State.startHold_eq]; exact (State.abortCapture_keepsSetup _ _).legal (s := { s with restraint := s.heldRestraint }) hs
  | endHold h => exact State.applyDeferred_legal s.unheld hs
  | restraint g h => exact hs
  | report i speed g d => exact State.applyDeferred_legal _ ((s.reportTaken_keepsSetup i speed g d).legal hs)
  | confirm p => exact hs
  | mute ps => exact (State.forPositions_touches (fun p s => s.muteOne_touches p) ps s).keepsSetup.legal hs
  | dismiss => exact hs
  | stage p e he hd => exact s.stage_legal hs he hd
  | swap p q hd =>
    have hp := s.stage_legal hs (MapEntry.withPlacement_inRange (hs.1.swapSource p) (s.swapSource q)) (p := p) hd
    exact State.stage_legal _ hp (MapEntry.withPlacement_inRange (hs.1.swapSource q) (s.swapSource p)) hd
  | discard => exact s.discard_legal hs
  | commit hh hm => exact s.applyStaged_legal hs hm
  | defer hm => exact ⟨hs.1, hs.2.1, fun _ => hm⟩
  | capture p => exact s.startCapture_legal hs p
  | profile i x h => exact s.setProfile_legal hs i h
  | settings x h => exact s.setSettings_legal hs h
  | save => exact hs
  | testOn => unfold State.testOn; split <;> exact hs
  | testOff => unfold State.testOff; split <;> exact hs
  | inject p x h => exact hs
  | reset => exact hs

theorem State.EventEffect.setupLegal {s t : State} (h : s.EventEffect t) (hs : s.SetupLegal) : t.SetupLegal := by
  cases h with
  | none => exact hs
  | scan => exact State.Deeds.keeps (fun _ _ h => h.setupLegal) s.beginScan_deeds hs
  | exchange l chars => exact State.Deeds.keeps (fun _ _ h => h.setupLegal) (State.endExchange_deeds l s chars) hs
  | tick => exact hs
  | grace p h => exact (s.enterVisual_touches p).keepsSetup.legal hs
  | visual p h => exact (s.enterAudible_touches p).keepsSetup.legal hs
  | audible p h => exact (s.moveReminder_touches p _ _).keepsSetup.legal hs
  | hold h => exact State.applyDeferred_legal s.holdLapsed hs
  | stale =>
    unfold State.goStale
    simp only
    split
    · exact s.stale.loseStandstill_keepsSetup.legal hs
    · exact hs
  | watch h =>
    have hrest := s.judgeWatch_rest
    exact State.KeepsSetup.legal
      ⟨(congrArg State.config hrest :), (congrArg State.staging hrest :), .inl (congrArg State.capture hrest :)⟩ hs
  | eco h => exact hs
  | age p => exact hs
  | save readBack =>
    cases h : s.saveImage with
    | none => rw [State.endSave_idle _ h]; exact hs
    | some image =>
      rw [State.endSave_inFlight _ h]
      exact State.applyDeferred_legal _ ((State.post_keepsSetup (s.saveStored image readBack) _ _ _ _).legal hs)

/-! ## Rows and steps -/

/-- The live configuration alone is left by a reset (R153). -/
theorem State.SetupLegal.cleared {s : State} (hs : s.SetupLegal) : s.clearBlocks.SetupLegal := by
  obtain ⟨⟨hentries, hprofiles, hsettings, -, -⟩, hmap, -⟩ := hs
  exact ⟨⟨hentries, hprofiles, hsettings, fun p e he => absurd ((Staging.empty_entries p).symm.trans he) (Option.some_ne_none e).symm,
    fun c hc => nomatch hc⟩, hmap, fun h => nomatch h⟩

/-- A load gives a legal configuration (R152). -/
theorem loadedConfig_legal (st : Store) : (loadedConfig (checkStore st)).Legal := by
  cases h : checkStore st with
  | error e => exact defaultConfig_legal
  | ok c =>
    obtain ⟨-, -, -, hstored, hmap⟩ := checkStore_eq_ok h
    obtain ⟨hentries, hprofiles, hsettings⟩ := storedConfig_inRange hstored
    exact ⟨hentries, hprofiles, hsettings, hmap⟩

theorem State.endLoad_legal : s.endLoad.SetupLegal := by
  rw [State.endLoad_eq, State.reportLoad_eq]
  obtain ⟨hentries, hprofiles, hsettings, hmap⟩ := loadedConfig_legal s.store
  exact ⟨⟨hentries, hprofiles, hsettings, fun p e he => absurd ((Staging.empty_entries p).symm.trans he) (Option.some_ne_none e).symm,
    fun c hc => nomatch hc⟩, hmap, fun h => nomatch h⟩

theorem State.frameReported_keepsSetup : s.KeepsSetup s.frameReported :=
  have h := s.putBack_frameReported s
  ⟨(congrArg State.config h :), (congrArg State.staging h :), .inl (congrArg State.capture h :)⟩

theorem State.RowEffect.setupLegal {s t : State} (h : s.RowEffect t) (hs : s.SetupLegal) : t.SetupLegal := by
  cases h with
  | none => exact hs
  | event h hu => exact hu.setupLegal hs
  | command p bytes h hl hu =>
    exact hu.setupLegal (State.frameReported_keepsSetup (s.setPort p { s.port p with assembler := .idle }) |>.legal hs)
  | discarded p =>
    exact (State.frameReported_keepsSetup (s.setPort p { (s.port p).countDrop with assembler := .discarding })).legal hs
  | partialFrame p => exact hs
  | gap p => exact hs
  | replyEnd p => exact hs
  | powerOn => exact hs.cleared
  | resetLow => exact hs.cleared
  | load => exact hs.cleared
  | loaded => exact s.endLoad_legal

theorem State.passTime_setupLegal (hs : s.SetupLegal) : s.passTime.SetupLegal := by
  unfold State.passTime
  simp only
  split <;> exact hs

end

/-- Settles O54: each operation keeps fields and map legal. -/
theorem everyStepKeepsConfigurationLegal : Obligations.EveryStepKeepsConfigurationLegal := by
  unfold Obligations.EveryStepKeepsConfigurationLegal
  intro s t hfields hmap h
  have hs : s.SetupLegal := ⟨hfields, hmap⟩
  rcases step_cases h with rfl | ⟨n, incoming, pending, u, hu, hrow⟩
  · exact s.passTime_setupLegal hs
  · rcases hu with rfl | ⟨p, x, -, rfl⟩
    · exact hrow.setupLegal hs
    · exact hrow.setupLegal hs

end Sys2Proof.Machine

/-! The classes, the decision and its line at every step: what keeps them, what changes a class, and what HOLD freezes (R12, R84, R107 to
R109). -/

namespace Sys2Proof.Machine

/-! ## What keeps the classes -/

/-- From s to t every stable class, the suppression state with its sequence and line, the live map and the phase stayed; while HOLD is
active it stays, and the causes and record sequences stay too. -/
structure State.KeepsClasses (s t : State) : Prop where
  stable : ∀ p, (t.pos p).cls.stable = (s.pos p).cls.stable
  same : s.holdActive = true → ∀ p, (t.pos p).cls.Same (s.pos p).cls
  hold : s.holdActive = true → t.holdActive = true
  suppression : t.restraint.suppression = s.restraint.suppression
  sequence : t.restraint.sequence = s.restraint.sequence
  pso : t.restraint.pso = s.restraint.pso
  map : t.config.map = s.config.map
  phase : t.phase = s.phase

theorem ClassRec.Same.refl (c : ClassRec) : c.Same c := ⟨rfl, rfl, rfl⟩

theorem ClassRec.Same.trans {c d e : ClassRec} (h : c.Same d) (k : d.Same e) : c.Same e :=
  ⟨h.1.trans k.1, h.2.1.trans k.2.1, h.2.2.trans k.2.2⟩

theorem ClassRec.Same.of_eq {c d : ClassRec} (h : c = d) : c.Same d := h ▸ .refl c

theorem State.KeepsClasses.trans {s t u : State} (h : s.KeepsClasses t) (k : t.KeepsClasses u) : s.KeepsClasses u where
  stable p := (k.stable p).trans (h.stable p)
  same hh p := (k.same (h.hold hh) p).trans (h.same hh p)
  hold := k.hold ∘ h.hold
  suppression := k.suppression.trans h.suppression
  sequence := k.sequence.trans h.sequence
  pso := k.pso.trans h.pso
  map := k.map.trans h.map
  phase := k.phase.trans h.phase

/-- An operation that leaves the class records, the restraint interface, the live map and the phase. -/
theorem State.KeepsClasses.of_cls {s t : State} (hcls : ∀ p, (t.pos p).cls = (s.pos p).cls) (hrestraint : t.restraint = s.restraint)
    (hmap : t.config.map = s.config.map) (hphase : t.phase = s.phase) : s.KeepsClasses t where
  stable p := by rw [hcls]
  same _ p := .of_eq (hcls p)
  hold := by rw [State.holdActive, State.holdActive, hrestraint]; exact id
  suppression := by rw [hrestraint]
  sequence := by rw [hrestraint]
  pso := by rw [hrestraint]
  map := hmap
  phase := hphase

theorem State.KeepsClasses.refl (s : State) : s.KeepsClasses s := .of_cls (fun _ => rfl) rfl rfl rfl

theorem State.ReminderFrame.keepsClasses {s t : State} {p : Pos} (h : s.ReminderFrame t p) : s.KeepsClasses t :=
  .of_cls h.cls (congrArg State.restraint h.rest :) (congrArg (fun u : State => u.config.map) h.rest :)
    (congrArg State.phase h.rest :)

theorem State.ReminderFrame.restraint {s t : State} {p : Pos} (h : s.ReminderFrame t p) : t.restraint = s.restraint :=
  (congrArg State.restraint h.rest :)

/-- A change of a record that leaves its class record. -/
theorem State.modPos_keepsClasses (s : State) (p : Pos) {f : PosRec → PosRec} (h : (f (s.pos p)).cls = (s.pos p).cls) :
    s.KeepsClasses (s.modPos p f) := by
  refine .of_cls (fun q => ?_) rfl rfl rfl
  rw [State.pos_modPos]
  split
  · subst q; exact h
  · rfl

section
variable (s : State)

theorem State.post_keepsClasses (p : Port) (k : NoticeKind) (n : Nat) (v : Half) : s.KeepsClasses (s.post p k n v) :=
  .of_cls (fun _ => rfl) rfl rfl rfl

theorem State.wake_keepsClasses : s.KeepsClasses s.wake := by
  unfold State.wake
  split
  · exact .of_cls (fun _ => rfl) rfl rfl rfl
  · exact .refl s

theorem State.abortCapture_keepsClasses (r : CaptureResult) : s.KeepsClasses (s.abortCapture r) := by
  unfold State.abortCapture
  split
  · exact .refl s
  · exact .of_cls (fun _ => rfl) rfl rfl rfl

theorem State.captureTake_keepsClasses (p : Pos) (x : SlotSample) : s.KeepsClasses (s.captureTake p x) := by
  unfold State.captureTake
  split
  · exact .refl s
  · split
    · exact .refl s
    · split
      · exact s.abortCapture_keepsClasses _
      · split
        · exact .of_cls (fun _ => rfl) rfl rfl rfl
        · exact .of_cls (fun _ => rfl) rfl rfl rfl

theorem State.evaluate_keepsClasses (p : Pos) : s.KeepsClasses (s.evaluate p) := (s.evaluate_frame p).keepsClasses

theorem State.takeBuckle_keepsClasses (p : Pos) (x : SlotSample) : s.KeepsClasses (s.takeBuckle p x) := by
  rw [State.takeBuckle_eq]
  refine State.KeepsClasses.trans ?_ (State.evaluate_keepsClasses _ p)
  unfold State.buckleTaken
  extract_lets taken
  have htaken : s.KeepsClasses taken := s.modPos_keepsClasses p rfl
  split
  · exact htaken.trans (State.post_keepsClasses _ _ _ _ _)
  · exact htaken

theorem State.loseBelt_keepsClasses (p : Pos) : s.KeepsClasses (s.loseBelt p) := by
  unfold State.loseBelt
  extract_lets r cleared
  have hcleared : s.KeepsClasses cleared := s.modPos_keepsClasses p rfl
  split
  · exact (hcleared.trans (State.post_keepsClasses _ _ _ _ _)).trans (State.evaluate_keepsClasses _ p)
  · exact hcleared

theorem State.recompute_keepsClasses (p : Pos) : s.KeepsClasses (s.recompute p) := by
  unfold State.recompute
  extract_lets r e caps child belt changed
  have hchanged : s.KeepsClasses changed := s.modPos_keepsClasses p rfl
  split
  · exact hchanged.trans (State.loseBelt_keepsClasses _ p)
  · exact hchanged

theorem State.setFit_keepsClasses (p : Pos) (fit : FitState) : s.KeepsClasses (s.setFit p fit) :=
  (s.modPos_keepsClasses p rfl).trans (State.recompute_keepsClasses _ p)

/-- Every operation keeps the classes but a class change, which HOLD does not let happen. -/
theorem State.Deed.keepsClasses {s t : State} (h : s.Deed t) : s.KeepsClasses t ∨
    (s.holdActive = false ∧ ∃ p cls cause, t = s.changeClass true cls cause p) := by
  cases h with
  | scan c n => exact .inl (.of_cls (fun _ => rfl) rfl rfl rfl)
  | post q k n v => exact .inl (s.post_keepsClasses q k n v)
  | quiet p f h =>
    have hpos (q : Pos) : (s.modPos p f).pos q = if q = p then f (s.pos p) else s.pos q := State.pos_modPos s p q f
    refine .inl ⟨fun q => ?_, fun hh q => ?_, id, rfl, rfl, rfl, rfl, rfl⟩
    · rw [hpos]
      split
      · subst q; exact h.stable
      · rfl
    · rw [hpos]
      split
      · subst q; exact h.held hh
      · exact .refl _
  | change p cls cause hh he hc => exact .inr ⟨hh, p, cls, cause, rfl⟩
  | buckle p x => exact .inl (s.takeBuckle_keepsClasses p x)
  | fit p fit he => exact .inl (s.setFit_keepsClasses p fit)
  | evaluate p => exact .inl (s.evaluate_keepsClasses p)
  | count p => exact .inl (s.countScan_frame p).keepsClasses
  | wake => exact .inl s.wake_keepsClasses
  | abort r => exact .inl (s.abortCapture_keepsClasses r)
  | take p x => exact .inl (s.captureTake_keepsClasses p x)

/-- While HOLD is active a chain of operations keeps the classes. -/
theorem State.Deeds.keepsClasses {s t : State} (h : s.Deeds t) (hh : s.holdActive = true) : s.KeepsClasses t := by
  induction h with
  | refl => exact .refl s
  | tail _ hstep ih =>
    rcases hstep.keepsClasses with k | ⟨hfree, -⟩
    · exact ih.trans k
    · exact absurd (hfree.symm.trans (ih.hold hh)) Bool.false_ne_true

/-- Every position evaluated. -/
theorem State.evaluates_keepsClasses (ps : List Pos) : s.KeepsClasses (s.forPositions ps fun p s => s.evaluate p) :=
  State.forPositions_keeps (P := s.KeepsClasses) (fun p u h => h.trans (u.evaluate_keepsClasses p)) ps s (.refl s)

theorem State.loseStandstill_keepsClasses : s.KeepsClasses s.loseStandstill := by
  have h := s.loseStandstill_rest
  refine .of_cls (fun p => ?_) (congrArg State.restraint h :) (congrArg (fun u : State => u.config.map) h :)
    (congrArg State.phase h :)
  rw [s.loseStandstill_pos]
  split <;> rfl

theorem State.endWatch_keepsClasses : s.KeepsClasses s.endWatch :=
  .of_cls (fun p => by rw [s.endWatch_pos]) rfl rfl rfl

/-- The start of the watch marks the watched positions, where it was inactive (R125). -/
theorem State.startWatch_pos (p : Pos) : s.startWatch.pos p =
    { s.pos p with watched := if s.watching then (s.pos p).watched else s.startsWatched p } := by
  unfold State.startWatch
  cases h : s.watching with
  | true => rfl
  | false =>
    simp only [Bool.false_eq_true, if_false]
    exact State.setWatched_pos _ _ p

/-- The watched flag of a position after the watch at a taken report (R125, R128). -/
def State.watchedAfter (s : State) (before : Ignition) (p : Pos) : Bool :=
  match s.vehicle.ignition with
  | .off => if before = .run ∧ s.watching = false then s.startsWatched p else (s.pos p).watched
  | .run | .acc => false
  | .unknown => (s.pos p).watched

theorem State.watchReport_pos (before : Ignition) (p : Pos) : (s.watchReport before).pos p =
    { s.pos p with watched := s.watchedAfter before p } := by
  cases h : s.vehicle.ignition with
  | off =>
    simp only [State.watchReport, State.watchedAfter, h]
    by_cases hrun : before = .run
    · rw [if_pos hrun, s.startWatch_pos]
      cases s.watching <;> simp [hrun]
    · rw [if_neg hrun, if_neg fun k => hrun k.1]
  | run =>
    simp only [State.watchReport, State.watchedAfter, h]
    exact s.endWatch_pos p
  | acc =>
    simp only [State.watchReport, State.watchedAfter, h]
    exact s.endWatch_pos p
  | unknown => simp only [State.watchReport, State.watchedAfter, h]

theorem State.watchReport_keepsClasses (before : Ignition) : s.KeepsClasses (s.watchReport before) :=
  have h := s.watchReport_rest before
  .of_cls (fun p => by rw [s.watchReport_pos]) (congrArg State.restraint h :) (congrArg (fun u : State => u.config.map) h :)
    (congrArg State.phase h :)

theorem State.reportTaken_keepsClasses (i : Ignition) (speed : Nat) (g : Gear) (d : Door) :
    s.KeepsClasses (s.reportTaken i speed g d) := by
  unfold State.reportTaken
  extract_lets stored
  have hstored : s.KeepsClasses stored := .of_cls (fun _ => rfl) rfl rfl rfl
  have hlost : s.KeepsClasses (if s.standstill && !stored.standstill then stored.loseStandstill else stored) := by
    split
    · exact hstored.trans stored.loseStandstill_keepsClasses
    · exact hstored
  exact (hlost.trans (State.watchReport_keepsClasses _ _)).trans (State.evaluates_keepsClasses _ _)

theorem State.startHold_keepsClasses : s.KeepsClasses s.startHold := by
  rw [State.startHold_eq]
  have hheld : s.KeepsClasses { s with restraint := s.heldRestraint } :=
    ⟨fun _ => rfl, fun _ _ => .refl _, fun _ => rfl, rfl, rfl, rfl, rfl, rfl⟩
  exact hheld.trans (State.abortCapture_keepsClasses _ _)

theorem State.tick_keepsClasses : s.KeepsClasses s.lowerReminders := by
  refine .of_cls (fun p => ?_) rfl rfl rfl
  have hpos : s.lowerReminders.pos p = (s.pos p).tick (s.entry p).reminderClass := PerPos.get_ofFn _ p
  rw [hpos, PosRec.tick]
  split <;> rfl

theorem State.goStale_keepsClasses : s.KeepsClasses s.goStale := by
  have hstale : s.KeepsClasses s.stale := .of_cls (fun _ => rfl) rfl rfl rfl
  unfold State.goStale
  simp only
  split
  · exact hstale.trans s.stale.loseStandstill_keepsClasses
  · exact hstale

theorem State.judgeWatch_keepsClasses : s.KeepsClasses s.judgeWatch := by
  have h := s.judgeWatch_rest
  exact .of_cls (fun p => by rw [s.judgeWatch_pos]) (congrArg State.restraint h :)
    (congrArg (fun u : State => u.config.map) h :) (congrArg State.phase h :)

theorem State.testOff_keepsClasses : s.KeepsClasses s.testOff := by
  cases h : s.vehicle.testMode with
  | false => rw [State.testOff_off h]; exact .refl s
  | true =>
    rw [State.testOff_on h]
    exact .of_cls (fun p => by rw [s.endTestMode_pos]) rfl rfl rfl

/-- Every received frame keeps the classes. -/
theorem State.frameReported_keepsClasses : s.KeepsClasses s.frameReported := by
  have h := s.putBack_frameReported s
  exact .of_cls (fun p => (congrArg (fun u : State => (u.pos p).cls) h :)) (congrArg State.restraint h :)
    (congrArg (fun u : State => u.config.map) h :) (congrArg State.phase h :)

theorem State.judgeEco_keepsClasses : s.KeepsClasses s.judgeEco := .of_cls (fun _ => rfl) rfl rfl rfl

theorem State.setPort_keepsClasses (p : Port) (x : PortState) : s.KeepsClasses (s.setPort p x) := .of_cls (fun _ => rfl) rfl rfl rfl

theorem State.received_keepsClasses (p : Port) : s.KeepsClasses (s.received p) :=
  (s.setPort_keepsClasses p { s.port p with assembler := .idle }).trans (State.frameReported_keepsClasses _)

theorem State.discardFrame_keepsClasses (p : Port) : s.KeepsClasses (s.discardFrame p) :=
  (s.setPort_keepsClasses p { (s.port p).countDrop with assembler := .discarding }).trans (State.frameReported_keepsClasses _)

/-- What ends a taken frame keeps the classes. -/
theorem State.replied_keepsClasses (p : Port) (bytes : List Byte) : s.KeepsClasses (s.sendReply p bytes).judgeEco :=
  .of_cls (fun _ => rfl) rfl rfl rfl

/-! ## Commands and events -/

/-- A command keeps the classes, or applies a commit while HOLD is inactive, or ends HOLD, or takes RESET PART. -/
theorem State.CommandEffect.keepsClasses {s t : State} (h : s.CommandEffect t) : s.KeepsClasses t ∨
    (∃ u, s.KeepsClasses u ∧ t = u.applyDeferred) ∨ (s.holdActive = false ∧ t = s.applyStaged) ∨ t = s.endHold ∨
    t = { s with phase := .resetReply } := by
  cases h with
  | none => exact .inl (.refl s)
  | clearOverflow p => exact .inl (.of_cls (fun _ => rfl) rfl rfl rfl)
  | readNotice p n rest h => exact .inl (.of_cls (fun _ => rfl) rfl rfl rfl)
  | hold => exact .inl s.startHold_keepsClasses
  | endHold h => exact .inr (.inr (.inr (.inl rfl)))
  | restraint g h =>
    have hhold : g.hold = s.restraint.hold := (congrArg Restraint.hold h :)
    exact .inl ⟨fun _ => rfl, fun _ _ => .refl _, fun hh => (congrArg Option.isSome hhold).trans hh,
      (congrArg Restraint.suppression h :), (congrArg Restraint.sequence h :), (congrArg Restraint.pso h :), rfl, rfl⟩
  | report i speed g d => exact .inr (.inl ⟨_, s.reportTaken_keepsClasses i speed g d, rfl⟩)
  | confirm p => exact .inl (s.setReminder_frame p _).keepsClasses
  | mute ps =>
    refine .inl (State.forPositions_keeps (P := s.KeepsClasses) (fun p u h => h.trans ?_) ps s (.refl s))
    unfold State.muteOne
    split
    · exact (u.moveReminder_frame p _ _).keepsClasses
    · exact .refl u
  | dismiss => exact .inl s.endWatch_keepsClasses
  | stage p e he hd => exact .inl (.of_cls (fun _ => rfl) rfl rfl rfl)
  | swap p q hd => exact .inl (.of_cls (fun _ => rfl) rfl rfl rfl)
  | discard => exact .inl (.of_cls (fun _ => rfl) rfl rfl rfl)
  | commit hh hm => exact .inr (.inr (.inl ⟨hh, rfl⟩))
  | defer hm => exact .inl (.of_cls (fun _ => rfl) rfl rfl rfl)
  | capture p => exact .inl (.of_cls (fun _ => rfl) rfl rfl rfl)
  | profile i x h => exact .inl (.of_cls (fun _ => rfl) rfl rfl rfl)
  | settings x h => exact .inl (.of_cls (fun _ => rfl) rfl rfl rfl)
  | save => exact .inl (.of_cls (fun _ => rfl) rfl rfl rfl)
  | testOn =>
    unfold State.testOn
    split
    · exact .inl (.refl s)
    · exact .inl (.of_cls (fun _ => rfl) rfl rfl rfl)
  | testOff => exact .inl s.testOff_keepsClasses
  | inject p x h => exact .inl (s.modPos_keepsClasses p rfl)
  | reset => exact .inr (.inr (.inr (.inr rfl)))

/-- An event keeps the classes, or is a chain of operations, or may apply a deferred commit, or is the expiry of HOLD. -/
theorem State.EventEffect.keepsClasses {s t : State} (h : s.EventEffect t) : s.KeepsClasses t ∨ s.Deeds t ∨
    (∃ u, s.KeepsClasses u ∧ t = u.applyDeferred) ∨ t = s.expireHold := by
  cases h with
  | none => exact .inl (.refl s)
  | scan => exact .inr (.inl s.beginScan_deeds)
  | exchange l chars => exact .inr (.inl (State.endExchange_deeds l s chars))
  | tick => exact .inl s.tick_keepsClasses
  | grace p h => exact .inl (s.enterVisual_frame p).keepsClasses
  | visual p h => exact .inl (s.enterAudible_frame p).keepsClasses
  | audible p h => exact .inl (s.moveReminder_frame p _ _).keepsClasses
  | hold h => exact .inr (.inr (.inr rfl))
  | stale => exact .inl s.goStale_keepsClasses
  | watch h => exact .inl s.judgeWatch_keepsClasses
  | eco h => exact .inl (.of_cls (fun _ => rfl) rfl rfl rfl)
  | age p => exact .inl (.of_cls (fun _ => rfl) rfl rfl rfl)
  | save readBack =>
    cases h : s.saveImage with
    | none => rw [State.endSave_idle _ h]; exact .inl (.refl s)
    | some image =>
      have hstored : s.KeepsClasses (s.saveStored image readBack) := .of_cls (fun _ => rfl) rfl rfl rfl
      exact .inr (.inr (.inl ⟨_, hstored.trans (State.post_keepsClasses _ _ _ _ _), State.endSave_inFlight _ h⟩))

end

/-! ## While HOLD stays active -/

theorem State.KeepsClasses.frozen {s t : State} (h : s.KeepsClasses t) (hh : s.holdActive = true) : s.SameFrozen t :=
  ⟨h.same hh, h.suppression, h.sequence, h.map⟩

theorem State.applyDeferred_held {s : State} (h : s.holdActive = true) : s.applyDeferred = s :=
  State.applyDeferred_waits (.inr fun hopen => Bool.false_ne_true (hopen.2.1.symm.trans h))

theorem State.endHold_holdActive (s : State) : s.endHold.holdActive = false := by
  rw [State.holdActive, State.endHold_eq, (State.applyDeferred_restraint _).1]
  rfl

theorem State.expireHold_holdActive (s : State) : s.expireHold.holdActive = false := by
  rw [State.holdActive, State.expireHold_eq, (State.applyDeferred_restraint _).1]
  rfl

/-- The end of a step keeps what HOLD freezes. -/
theorem State.RowEffect.frozen {s t : State} (h : s.RowEffect t) (hs : s.holdActive = true) (ht : t.holdActive = true) :
    s.SameFrozen t := by
  have ended (h : t.holdActive = false) : s.SameFrozen t := absurd (h.symm.trans ht) Bool.false_ne_true
  cases h with
  | none => exact (State.KeepsClasses.refl s).frozen hs
  | @event u hrun hu =>
    rcases hu.keepsClasses with k | k | ⟨v, hv, rfl⟩ | rfl
    · exact (k.trans u.judgeEco_keepsClasses).frozen hs
    · exact ((k.keepsClasses hs).trans u.judgeEco_keepsClasses).frozen hs
    · rw [State.applyDeferred_held (hv.hold hs)]
      exact (hv.trans v.judgeEco_keepsClasses).frozen hs
    · exact ended s.expireHold_holdActive
  | @command p bytes u hreply hl hu =>
    have hreceived := s.received_keepsClasses p
    have hheld := hreceived.hold hs
    rcases hu.keepsClasses with k | ⟨v, hv, rfl⟩ | ⟨hfree, -⟩ | rfl | rfl
    · exact ((hreceived.trans k).trans (u.replied_keepsClasses p bytes)).frozen hs
    · rw [State.applyDeferred_held (hv.hold hheld)]
      exact ((hreceived.trans hv).trans (v.replied_keepsClasses p bytes)).frozen hs
    · exact absurd (hfree.symm.trans hheld) Bool.false_ne_true
    · exact ended (State.endHold_holdActive _)
    · exact hreceived.frozen hs
  | discarded p => exact ((s.discardFrame_keepsClasses p).trans (State.judgeEco_keepsClasses _)).frozen hs
  | partialFrame p => exact (State.KeepsClasses.refl s).frozen hs
  | gap p => exact (State.KeepsClasses.refl s).frozen hs
  | replyEnd p => exact (State.KeepsClasses.refl s).frozen hs
  | powerOn => exact ended rfl
  | resetLow => exact ended rfl
  | load => exact ended rfl
  | loaded => exact ended (by rw [State.endLoad_eq, State.reportLoad_eq]; rfl)

theorem State.passTime_frozen (s : State) : s.SameFrozen s.passTime := by
  unfold State.passTime
  simp only
  split <;> exact ⟨fun _ => ⟨rfl, rfl, rfl⟩, rfl, rfl, rfl⟩

/-- Settles O59: what keeps HOLD active keeps the classes, and every other effect ends HOLD. -/
theorem holdFreezesClassesSuppressionAndMap : Obligations.HoldFreezesClassesSuppressionAndMap := by
  unfold Obligations.HoldFreezesClassesSuppressionAndMap
  intro s t hs h ht
  rcases step_cases h with rfl | ⟨n, incoming, pending, u, hu, hrow⟩
  · exact s.passTime_frozen
  · rcases hu with rfl | ⟨p, x, -, rfl⟩
    · exact hrow.frozen hs ht
    · exact hrow.frozen hs ht

end Sys2Proof.Machine

/-! The suppression state and PSO at every step: they stay true to the decision (R107 to R109). -/

namespace Sys2Proof.Machine

/-! ## The rule -/

/-- The suppression state is the decision, and PSO shows it (R107, R109). -/
structure State.Decided (s : State) : Prop where
  state : s.restraint.suppression = s.decision
  shows : s.restraint.pso.shows s.restraint.suppression = true

/-- The decision reads the live map and the stable classes (R107). -/
theorem State.decision_of_map {s t : State} (hmap : t.config.map = s.config.map)
    (hcls : ∀ p, (t.pos p).cls.stable = (s.pos p).cls.stable) : t.decision = s.decision := by
  have hairbag : t.airbag = s.airbag := by
    unfold State.airbag State.entry
    rw [hmap]
  unfold State.decision
  rw [hairbag]
  cases s.airbag with
  | none => rfl
  | some p => simp only [hcls]

theorem State.Decided.of_restraint {s t : State} (h : s.Decided) (hsuppression : t.restraint.suppression = s.restraint.suppression)
    (hpso : t.restraint.pso = s.restraint.pso) (hdecision : t.decision = s.decision) : t.Decided :=
  ⟨by rw [hsuppression, hdecision, h.state], by rw [hpso, hsuppression, h.shows]⟩

theorem State.KeepsClasses.decided {s t : State} (h : s.KeepsClasses t) (hs : s.Decided) : t.Decided :=
  hs.of_restraint h.suppression h.pso (State.decision_of_map h.map h.stable)

section
variable (s : State)

/-! ## What derives the decision -/

/-- A derivation leaves PSO showing the suppression state. -/
theorem State.deriveSuppression_shows (h : s.restraint.pso.shows s.restraint.suppression = true) :
    s.deriveSuppression.restraint.pso.shows s.deriveSuppression.restraint.suppression = true := by
  by_cases hsame : s.decision = s.restraint.suppression
  · rw [State.deriveSuppression_same hsame]; exact h
  · rw [State.deriveSuppression_differs hsame]
    exact Suppression.line_shows _

theorem State.deriveSuppression_decided (h : s.restraint.pso.shows s.restraint.suppression = true) : s.deriveSuppression.Decided :=
  ⟨by rw [State.deriveSuppression_suppression, State.deriveSuppression_decision], s.deriveSuppression_shows h⟩

theorem State.changeClass_keepsDecided (hs : s.Decided) (p : Pos) (cls : OccClass) (cause : FaultCause) :
    (s.changeClass true cls cause p).Decided := by
  refine ⟨(s.changeClass_classifies true p cls cause).decided rfl hs.state, ?_⟩
  have hraised : (s.classRaised p cls cause).restraint.pso.shows (s.classRaised p cls cause).restraint.suppression = true := by
    rw [State.classRaised_restraint]; exact hs.shows
  by_cases hairbag : s.airbag = some p
  · rw [State.changeClass_airbag _ _ _ _ hairbag, State.classMarked_restraint]
    exact State.deriveSuppression_shows _ hraised
  · rw [State.changeClass_other _ _ _ _ hairbag, State.classMarked_restraint]
    exact hraised

theorem State.Deed.decided {s t : State} (h : s.Deed t) (hs : s.Decided) : t.Decided := by
  rcases h.keepsClasses with k | ⟨-, p, cls, cause, rfl⟩
  · exact k.decided hs
  · exact s.changeClass_keepsDecided hs p cls cause

theorem State.Deeds.phase {s t : State} (h : s.Deeds t) : t.phase = s.phase := by
  refine State.Deeds.keeps (P := fun u => u.phase = s.phase) (fun u v k hu => ?_) h rfl
  rcases k.keepsClasses with k | ⟨-, p, cls, cause, rfl⟩
  · exact k.phase.trans hu
  · exact (u.changeClass_touches p true cls cause).phase.trans hu

/-! ## Commits -/

theorem State.restraint_ite {c : Prop} [Decidable c] {s t u : State} (h : t.restraint = s.restraint) (k : u.restraint = s.restraint) :
    (if c then t else u).restraint = s.restraint := by
  split
  · exact h
  · exact k

theorem State.recompute_restraint (p : Pos) : (s.recompute p).restraint = s.restraint := by
  unfold State.recompute
  extract_lets r e caps child belt changed
  have hlost : (changed.loseBelt p).restraint = s.restraint := by
    unfold State.loseBelt
    extract_lets r cleared
    split
    · exact (State.evaluate_frame _ p).restraint
    · rfl
  split
  · exact hlost
  · rfl

theorem State.setFit_restraint (p : Pos) (fit : FitState) : (s.setFit p fit).restraint = s.restraint :=
  State.recompute_restraint _ p

theorem State.recordEffects_restraint (p : Pos) (old : PerPos MapEntry) : (s.recordEffects old p).restraint = s.restraint := by
  unfold State.recordEffects
  split
  · unfold State.resetRecord
    extract_lets old fresh told belted shown
    have htold : told.restraint = s.restraint := rfl
    have hbelted : belted.restraint = told.restraint := State.restraint_ite rfl rfl
    have hshown : shown.restraint = belted.restraint := State.restraint_ite rfl rfl
    exact hshown.trans (hbelted.trans htold)
  · unfold State.keepRecord
    extract_lets changed
    have hchanged : changed.restraint = s.restraint := by
      simp only [changed]
      split
      · exact s.recompute_restraint p
      · rfl
    split
    · exact (changed.moveReminder_frame p _ _).restraint.trans hchanged
    · exact hchanged

theorem State.fitClass_restraint (p : Pos) (leaves : Bool) (fit : FitState) : (s.fitClass p leaves fit).restraint = s.restraint := by
  cases fit with
  | misfit => exact (s.applyDirect_classifies false p _).undecided rfl
  | noSlot => exact (s.applyDirect_classifies false p _).undecided rfl
  | fits =>
    unfold State.fitClass
    simp only
    split
    · exact (State.returnUnresolved_classifies false s p).undecided rfl
    · rfl
  | unchecked => rfl

theorem State.finishFit_restraint (p : Pos) (old : PerPos MapEntry) : (s.finishFit old p).restraint = s.restraint := by
  rw [State.finishFit_eq]
  split
  · exact (State.fitClass_restraint _ p _ _).trans (s.setFit_restraint p _)
  · exact s.recompute_restraint p

/-- The walks of a commit derive nothing (R80 step (4), R16). -/
theorem State.walked_restraint : s.walked.restraint = s.restraint := by
  have h1 := State.forPositions_reads (g := State.restraint) (f := State.recordEffects s.config.map)
    (fun p s => s.recordEffects_restraint p _) s.stagedPositions s.mapped
  have h2 := State.forPositions_reads (g := State.restraint) (f := State.finishFit s.config.map)
    (fun p s => s.finishFit_restraint p _) s.stagedPositions
    (s.mapped.forPositions s.stagedPositions (State.recordEffects s.config.map))
  have h3 := State.forPositions_reads (g := State.restraint) (f := fun p s => s.evaluate p)
    (fun p s => (s.evaluate_frame p).restraint) s.stagedPositions
    ((s.mapped.forPositions s.stagedPositions (State.recordEffects s.config.map)).forPositions s.stagedPositions
      (State.finishFit s.config.map))
  exact h3.trans (h2.trans h1)

theorem State.abortMoved_restraint (old : PerPos MapEntry) (ps : List Pos) : (s.abortMoved old ps).restraint = s.restraint := by
  unfold State.abortMoved
  split
  · rfl
  · split
    · exact State.abortCapture_restraint _ _
    · rfl

/-- A commit derives the decision at its end (R16). -/
theorem State.applyStaged_decided (h : s.restraint.pso.shows s.restraint.suppression = true) : s.applyStaged.Decided := by
  have hbefore : (s.walked.abortMoved s.config.map s.stagedPositions).restraint = s.restraint :=
    (State.abortMoved_restraint _ _ _).trans s.walked_restraint
  have hsettled : s.settled.Decided := State.deriveSuppression_decided _ (by rw [hbefore]; exact h)
  rw [State.applyStaged_eq]
  generalize s.settled = t at hsettled ⊢
  exact hsettled.of_restraint rfl rfl rfl

theorem State.applyDeferred_decided (hs : s.Decided) : s.applyDeferred.Decided := by
  by_cases h : s.staging.deferred = false ∨ ¬ s.gateOpen
  · rw [State.applyDeferred_waits h]; exact hs
  · obtain ⟨hd, hopen⟩ := not_or.1 h
    rw [State.applyDeferred_applies (by simpa using hd) (not_not.1 hopen)]
    have happlied := s.applyStaged_decided hs.shows
    generalize s.applyStaged = t at happlied ⊢
    exact happlied.of_restraint rfl rfl rfl

theorem State.applyDeferred_phase : s.applyDeferred.phase = s.phase := (congrArg State.phase s.applyDeferred_rest :)

theorem State.applyStaged_phase : s.applyStaged.phase = s.phase := (congrArg State.phase s.applyStaged_rest :)

/-! ## Commands and events -/

theorem State.unheld_decided (hs : s.Decided) : s.unheld.Decided := hs.of_restraint rfl rfl rfl

theorem State.holdLapsed_decided (hs : s.Decided) : s.holdLapsed.Decided := hs.of_restraint rfl rfl rfl

/-- A command keeps the decision true, and the phase unless it is RESET PART. -/
theorem State.CommandEffect.decided {s t : State} (h : s.CommandEffect t) (hs : s.Decided) :
    t.Decided ∧ (t.phase = s.phase ∨ t.phase = .resetReply) := by
  rcases h.keepsClasses with k | ⟨u, hu, rfl⟩ | ⟨-, rfl⟩ | rfl | rfl
  · exact ⟨k.decided hs, .inl k.phase⟩
  · exact ⟨u.applyDeferred_decided (hu.decided hs), .inl (u.applyDeferred_phase.trans hu.phase)⟩
  · exact ⟨s.applyStaged_decided hs.shows, .inl s.applyStaged_phase⟩
  · exact ⟨State.applyDeferred_decided _ (s.unheld_decided hs), .inl (State.applyDeferred_phase s.unheld)⟩
  · exact ⟨hs.of_restraint rfl rfl rfl, .inr rfl⟩

theorem State.EventEffect.decided {s t : State} (h : s.EventEffect t) (hs : s.Decided) : t.Decided ∧ t.phase = s.phase := by
  rcases h.keepsClasses with k | k | ⟨u, hu, rfl⟩ | rfl
  · exact ⟨k.decided hs, k.phase⟩
  · exact ⟨State.Deeds.keeps (fun _ _ h => h.decided) k hs, k.phase⟩
  · exact ⟨u.applyDeferred_decided (hu.decided hs), u.applyDeferred_phase.trans hu.phase⟩
  · exact ⟨State.applyDeferred_decided _ (s.holdLapsed_decided hs), State.applyDeferred_phase s.holdLapsed⟩

/-! ## Rows and steps -/

/-- The part runs, or its last reply is being sent. -/
def State.Works (s : State) : Prop := s.phase = .running ∨ s.phase = .resetReply

theorem State.lineLegal_working {s : State} (h : s.Works) : s.LineLegal ↔ s.Decided := by
  have hlow : s.phase ≠ .resetLow := by rcases h with h | h <;> rw [h] <;> decide
  have hload : s.phase ≠ .loading := by rcases h with h | h <;> rw [h] <;> decide
  refine ⟨fun hs => ?_, fun hs => ⟨fun _ => ⟨hs.state, hs.state ▸ hs.shows⟩, fun k => absurd k hlow, fun k => absurd k hload⟩⟩
  obtain ⟨hstate, hshows⟩ := hs.1 h
  exact ⟨hstate, hstate ▸ hshows⟩

/-- An operation that keeps the classes keeps the line legal in every phase. -/
theorem State.KeepsClasses.lineLegal {s t : State} (h : s.KeepsClasses t) (hs : s.LineLegal) : t.LineLegal := by
  have hdecision := State.decision_of_map h.map h.stable
  unfold State.LineLegal
  rw [h.phase, h.suppression, h.pso, hdecision]
  exact hs

theorem Pso.pass_shows (x : Pso) (d : Suppression) (h : x.shows d = true) : x.pass.shows d = true := by
  cases x with
  | low => exact h
  | high => exact h
  | alternating level left =>
    cases d with
    | enable => cases h
    | suppress => cases h
    | indeterminate =>
      have hpass : Pso.pass (.alternating level left) =
        if left ≤ 1 then .alternating (!level) Config.psoHalf else .alternating level (left - 1) := rfl
      rw [hpass]
      split <;> rfl

/-- A quantum leaves a steady PSO and runs an alternating one (R109). -/
theorem State.passTime_lineLegal (hs : s.LineLegal) : s.passTime.LineLegal := by
  have hrest : s.passTime.restraint.suppression = s.restraint.suppression ∧ s.passTime.decision = s.decision ∧
      s.passTime.phase = s.phase := by
    unfold State.passTime
    simp only
    split <;> exact ⟨rfl, rfl, rfl⟩
  obtain ⟨hsuppression, hdecision, hphase⟩ := hrest
  unfold State.LineLegal
  rw [hphase, hsuppression, hdecision, State.passTime_pso]
  obtain ⟨hworks, hlow, hload⟩ := hs
  refine ⟨fun h => ?_, fun h => by rw [hlow h, Pso.pass], fun h => Pso.pass_shows _ _ (hload h)⟩
  obtain ⟨hstate, hshows⟩ := hworks h
  exact ⟨hstate, Pso.pass_shows _ _ hshows⟩

theorem State.listening_works {s : State} {p : Port} (h : s.listening p = true) : s.Works := by
  simp only [State.listening, Bool.or_eq_true, Bool.and_eq_true, decide_eq_true_eq] at h
  exact h.imp_right And.left

theorem State.RowEffect.lineLegal {s t : State} (h : s.RowEffect t) (hs : s.LineLegal) : t.LineLegal := by
  cases h with
  | none => exact hs
  | @event u hrun hu =>
    have hworks : s.Works := .inl hrun
    obtain ⟨hdecided, hphase⟩ := hu.decided ((State.lineLegal_working hworks).1 hs)
    exact u.judgeEco_keepsClasses.lineLegal ((State.lineLegal_working (.inl (hphase.trans hrun))).2 hdecided)
  | @command p bytes u hreply hl hu =>
    have hreceived := s.received_keepsClasses p
    have hworks : (s.received p).Works := by
      unfold State.Works
      rw [hreceived.phase]
      exact State.listening_works hl
    obtain ⟨hdecided, hphase⟩ := hu.decided ((State.lineLegal_working hworks).1 (hreceived.lineLegal hs))
    have hstill : u.Works := by
      rcases hphase with h | h
      · unfold State.Works; rw [h]; exact hworks
      · exact .inr h
    exact (u.replied_keepsClasses p bytes).lineLegal ((State.lineLegal_working hstill).2 hdecided)
  | discarded p => exact ((s.discardFrame_keepsClasses p).trans (State.judgeEco_keepsClasses _)).lineLegal hs
  | partialFrame p => exact hs
  | gap p => exact hs
  | replyEnd p => exact hs
  | powerOn => exact ⟨fun h => h.elim (nomatch ·) (nomatch ·), (nomatch ·), fun _ => rfl⟩
  | resetLow => exact ⟨fun h => h.elim (nomatch ·) (nomatch ·), fun _ => rfl, (nomatch ·)⟩
  | load => exact ⟨fun h => h.elim (nomatch ·) (nomatch ·), (nomatch ·), fun _ => rfl⟩
  | loaded =>
    have hdecided : (s.loadedBlocks (checkStore s.store)).Decided := ⟨rfl, Suppression.line_shows _⟩
    rw [State.endLoad_eq, State.reportLoad_eq]
    exact (State.lineLegal_working (.inl rfl)).2 (hdecided.of_restraint rfl rfl rfl)

/-- The decision as the class of the airbag position gives it (R107). -/
theorem State.decision_of_airbag {s : State} {p : Pos} (h : s.airbag = some p) : s.decision =
    if (s.pos p).cls.stable = .adult then .enable
    else if (s.pos p).cls.stable = .unresolved ∨ (s.pos p).cls.stable = .fault then .indeterminate
    else .suppress := by
  unfold State.decision
  rw [h]
  simp only
  cases (s.pos p).cls.stable <;> rfl

theorem State.decision_of_none {s : State} (h : s.airbag = none) : s.decision = .suppress := by
  unfold State.decision
  rw [h]

end

/-- Settles O57: the classes and the line stay where nothing derives, and what changes a class or the map derives. -/
theorem everyStepKeepsDecisionLineTrue : Obligations.EveryStepKeepsDecisionLineTrue := by
  unfold Obligations.EveryStepKeepsDecisionLineTrue
  constructor
  · intro s t hs h
    rcases step_cases h with rfl | ⟨n, incoming, pending, u, hu, hrow⟩
    · exact s.passTime_lineLegal hs
    · rcases hu with rfl | ⟨p, x, -, rfl⟩
      · exact hrow.lineLegal hs
      · exact hrow.lineLegal hs
  · intro s airbag
    refine ⟨fun hnone => State.decision_of_none (State.airbag_eq_none.2 hnone), fun p hp hfirst => ?_⟩
    exact State.decision_of_airbag (State.airbag_eq_some.2 ⟨hp.1, hp.2, hfirst⟩)

end Sys2Proof.Machine

/-! The reminders at every step: a reminder that is not IDLE stays under its causes, and a stopped one at timer 0 (R92, R94, R95, R98). -/

namespace Sys2Proof.Machine

/-! ## The two rules of a reminder -/

/-- A position's reminder is IDLE, or belt, class, ignition and reminder class ask for it (R94, R95, R98). -/
def State.AskedFor (s : State) (p : Pos) : Prop :=
  (s.pos p).reminder.step ≠ .idle →
    (s.pos p).buckle.belt.unfastened = true ∧ ((s.pos p).cls.stable.eligible = true ∨ (s.pos p).cls.stable = .fault) ∧
    s.vehicle.ignition = .run ∧ (s.entry p).reminderClass ≠ .none

/-- A reminder in IDLE, MUTED or LAPSED stands at timer 0 (R92). -/
def ReminderRec.AtRest (r : ReminderRec) : Prop := r.step = .idle ∨ r.step = .muted ∨ r.step = .lapsed → r.timer = 0

theorem State.reminderLegal_iff (s : State) (p : Pos) : s.ReminderLegal p ↔ s.AskedFor p ∧ (s.pos p).reminder.AtRest := Iff.rfl

/-- The first rule reads the reminder's step, belt, class, ignition and reminder class alone. -/
theorem State.AskedFor.congr {s t : State} {p : Pos} (h : s.AskedFor p) (hstep : (t.pos p).reminder.step = (s.pos p).reminder.step)
    (hbelt : (t.pos p).buckle.belt = (s.pos p).buckle.belt) (hcls : (t.pos p).cls.stable = (s.pos p).cls.stable)
    (hignition : t.vehicle.ignition = s.vehicle.ignition) (hentry : t.entry p = s.entry p) : t.AskedFor p := by
  unfold State.AskedFor
  rw [hstep, hbelt, hcls, hignition, hentry]
  exact h

/-! ## Evaluations -/

theorem ReminderRec.sounded_atRest (t : Settings) : (ReminderRec.sounded t).AtRest := by
  unfold ReminderRec.AtRest ReminderRec.sounded ReminderRec.sounding
  intro h
  by_cases h0 : t.audibleTime = 0
  · exact h0
  · simp only [if_neg h0] at h
    rcases h with h | h | h <;> cases h

theorem ReminderRec.shown_atRest (r : ReminderRec) (rc : ReminderClass) (t : Settings) : (r.shown rc t).AtRest := by
  unfold ReminderRec.shown
  split
  · exact ReminderRec.sounded_atRest t
  · intro h
    rcases h with h | h | h <;> cases h

section
variable (s : State) (p : Pos)

/-- The causes of return are the negation of what asks for a reminder (R95, R98). -/
theorem State.asked_of_not_returns {s : State} {p : Pos} (h : ¬ s.ReminderReturns p) : s.AskedFor p := by
  rw [State.reminderReturns_iff] at h
  simp only [State.reminderEnds, Bool.or_eq_true, not_or, Bool.not_eq_true', Bool.and_eq_true, not_and, decide_eq_true_eq,
    Bool.not_eq_false, not_not] at h
  obtain ⟨⟨⟨hbelt, hcls⟩, hignition⟩, hclass⟩ := h
  refine fun _ => ⟨hbelt, ?_, hignition, hclass⟩
  by_cases heligible : (s.pos p).cls.stable.eligible = true
  · exact .inl heligible
  · exact .inr (hcls (by simpa using heligible))

theorem State.evaluate_belt_cls : ((s.evaluate p).pos p).buckle = (s.pos p).buckle ∧ ((s.evaluate p).pos p).cls = (s.pos p).cls :=
  ⟨s.evaluate_buckle p, (s.evaluate_frame p).cls p⟩

theorem State.ReminderFrame.vehicle {s t : State} {p : Pos} (h : s.ReminderFrame t p) : t.vehicle = s.vehicle :=
  (congrArg State.vehicle h.rest :)

theorem State.ReminderFrame.entry {s t : State} {p : Pos} (h : s.ReminderFrame t p) (q : Pos) : t.entry q = s.entry q :=
  (congrArg (fun u : State => u.entry q) h.rest :)

/-- An evaluation leaves a reminder that is asked for, whatever it was before. -/
theorem State.evaluate_askedFor : (s.evaluate p).AskedFor p := by
  have hframe := s.evaluate_frame p
  obtain ⟨hbuckle, hcls⟩ := s.evaluate_belt_cls p
  have asked (h : (s.pos p).buckle.belt.unfastened = true ∧
      ((s.pos p).cls.stable.eligible = true ∨ (s.pos p).cls.stable = .fault) ∧ s.vehicle.ignition = .run ∧
      (s.entry p).reminderClass ≠ .none) : (s.evaluate p).AskedFor p := by
    unfold State.AskedFor
    rw [hbuckle, hcls, hframe.vehicle, hframe.entry]
    exact fun _ => h
  by_cases hidle : (s.pos p).reminder.step = .idle
  · by_cases hstarts : s.ReminderStarts p
    · obtain ⟨hcls, hbelt, hclass, hignition, -⟩ := id hstarts
      refine asked ⟨(Belt.unfastened_iff _).2 hbelt, .inl ((OccClass.eligible_iff _).2 hcls), hignition, ?_⟩
      rcases hclass with h | h <;> rw [h] <;> decide
    · rw [State.evaluate_stays_idle hidle hstarts]
      exact fun h => absurd hidle h
  · by_cases hreturns : s.ReminderReturns p
    · rw [State.evaluate_returns hidle (.inl hreturns)]
      intro h
      exact absurd (congrArg ReminderRec.step (s.moveReminder_reminder p .idle 0)) h
    · exact asked (State.asked_of_not_returns hreturns hidle)

theorem State.evaluate_atRest (h : (s.pos p).reminder.AtRest) : ((s.evaluate p).pos p).reminder.AtRest := by
  rcases s.evaluate_cases p with k | k | ⟨-, -, k⟩ | ⟨-, -, k⟩ <;> rw [k]
  · exact h
  · rw [State.toIdle, State.moveReminder_reminder]
    exact fun _ => rfl
  · rw [State.enterGrace_reminder]
    split
    · exact ReminderRec.shown_atRest _ _ _
    · intro h
      rcases h with h | h | h <;> cases h
  · rw [State.enterAudible_reminder]
    exact ReminderRec.sounded_atRest _

end

/-! ## Operations at one position -/

/-- An operation at a position that keeps the rules of its reminder. -/
structure State.Reminds (s t : State) (p : Pos) : Prop where
  frame : s.OutcomeFrame t p
  asks : s.AskedFor p → t.AskedFor p
  rest : (s.pos p).reminder.AtRest → (t.pos p).reminder.AtRest

theorem State.OutcomeFrame.ignition {s t : State} {p : Pos} (h : s.OutcomeFrame t p) : t.vehicle.ignition = s.vehicle.ignition :=
  (congrArg (fun u : State => u.vehicle.ignition) h.rest :)

theorem State.OutcomeFrame.entry {s t : State} {p : Pos} (h : s.OutcomeFrame t p) (q : Pos) : t.entry q = s.entry q := by
  rw [State.entry, h.config, State.entry]

theorem State.Reminds.trans {s t u : State} {p : Pos} (h : s.Reminds t p) (k : t.Reminds u p) : s.Reminds u p :=
  ⟨h.frame.trans k.frame, k.asks ∘ h.asks, k.rest ∘ h.rest⟩

/-- An operation that leaves the reminder, the belt and the class. -/
theorem State.Reminds.of_same {s t : State} {p : Pos} (h : s.OutcomeFrame t p) (hreminder : (t.pos p).reminder = (s.pos p).reminder)
    (hbelt : (t.pos p).buckle.belt = (s.pos p).buckle.belt) (hcls : (t.pos p).cls.stable = (s.pos p).cls.stable) : s.Reminds t p :=
  ⟨h, fun k => k.congr (congrArg ReminderRec.step hreminder) hbelt hcls h.ignition (h.entry p), fun k => by rwa [hreminder]⟩

theorem State.Reminds.refl (s : State) (p : Pos) : s.Reminds s p := .of_same (.refl s p) rfl rfl rfl

/-- An operation that leaves every record. -/
theorem State.Reminds.of_pos {s t : State} {p : Pos} (h : s.OutcomeFrame t p) (hpos : t.pos p = s.pos p) : s.Reminds t p :=
  .of_same h (by rw [hpos]) (by rw [hpos]) (by rw [hpos])

theorem State.Reminds.ite {c : Prop} [Decidable c] {s t u : State} {p : Pos} (h : s.Reminds t p) (k : s.Reminds u p) :
    s.Reminds (if c then t else u) p := by
  split
  · exact h
  · exact k

/-- An operation that leaves the reminder, and an evaluation after it. -/
theorem State.Reminds.evaluated {s t : State} {p : Pos} (h : s.OutcomeFrame t p) (hreminder : (t.pos p).reminder = (s.pos p).reminder) :
    s.Reminds (t.evaluate p) p :=
  ⟨h.trans (t.evaluate_frame p).outcome, fun _ => t.evaluate_askedFor p, fun k => t.evaluate_atRest p (by rwa [hreminder])⟩

/-- Kept at its position, the rules are kept at all. -/
theorem State.Reminds.askedFor {s t : State} {p : Pos} (h : s.Reminds t p) (hs : ∀ q, s.AskedFor q) (q : Pos) : t.AskedFor q := by
  by_cases hq : q = p
  · subst q; exact h.asks (hs p)
  · have hpos := h.frame.others q hq
    exact (hs q).congr (by rw [hpos]) (by rw [hpos]) (by rw [hpos]) h.frame.ignition (h.frame.entry q)

theorem State.Reminds.atRest {s t : State} {p : Pos} (h : s.Reminds t p) (hs : ∀ q, (s.pos q).reminder.AtRest) (q : Pos) :
    (t.pos q).reminder.AtRest := by
  by_cases hq : q = p
  · subst q; exact h.rest (hs p)
  · rw [h.frame.others q hq]; exact hs q

section
variable (s : State) (p : Pos)

theorem State.changeClass_reminds (d : Bool) (cls : OccClass) (cause : FaultCause) : s.Reminds (s.changeClass d cls cause p) p := by
  rw [State.changeClass_marked]
  have hposted : s.OutcomeFrame (s.classPosted p cls cause) p := (s.modPos_outcome p _).trans (State.postClass_outcome _ p)
  have hkept : ((s.classPosted p cls cause).pos p).reminder = (s.pos p).reminder := by rw [State.classPosted_pos]
  have hraised : s.Reminds (s.classRaised p cls cause) p := .evaluated hposted hkept
  have hderived : (s.classRaised p cls cause).Reminds ((s.classRaised p cls cause).derivedAt d p) p :=
    .of_pos (State.derivedAt_outcome d _ p) (State.derivedAt_pos d _ p p)
  refine (hraised.trans hderived).trans (.of_same (State.classMarked_outcome _ p) ?_ ?_ ?_) <;> rw [State.classMarked_pos]

theorem State.modPos_reminds {f : PosRec → PosRec} (hreminder : (f (s.pos p)).reminder = (s.pos p).reminder)
    (hbelt : (f (s.pos p)).buckle.belt = (s.pos p).buckle.belt) (hcls : (f (s.pos p)).cls.stable = (s.pos p).cls.stable) :
    s.Reminds (s.modPos p f) p := by
  have hpos : (s.modPos p f).pos p = f (s.pos p) := by rw [State.pos_modPos, if_pos rfl]
  exact .of_same (s.modPos_outcome p f) (by rw [hpos, hreminder]) (by rw [hpos, hbelt]) (by rw [hpos, hcls])

theorem State.post_reminds (q : Port) (k : NoticeKind) (n : Nat) (v : Half) : s.Reminds (s.post q k n v) p :=
  .of_pos (s.post_outcome p q k n v) rfl

theorem State.applyDirect_reminds (d : Bool) (x : Direct) : s.Reminds (s.applyDirect d x p) p := by
  rw [State.applyDirect_eq]
  have hcleared : s.Reminds (s.markCleared p) p := s.modPos_reminds p rfl rfl rfl
  exact .ite hcleared (hcleared.trans (State.changeClass_reminds _ p d _ _))

theorem State.returnUnresolved_reminds (d : Bool) : s.Reminds (s.returnUnresolved d p) p := by
  rw [State.returnUnresolved_eq]
  have hcleared : s.Reminds (s.markCleared p) p := s.modPos_reminds p rfl rfl rfl
  split
  next h => exact hcleared.trans (State.modPos_reminds _ p rfl rfl (by rw [State.markCleared_cls]; exact h.symm))
  next h => exact hcleared.trans (State.changeClass_reminds _ p d _ _)

theorem State.takeBuckle_reminds (x : SlotSample) : s.Reminds (s.takeBuckle p x) p := by
  rw [State.takeBuckle_eq]
  unfold State.buckleTaken
  extract_lets taken
  have htaken : s.OutcomeFrame taken p := s.modPos_outcome p _
  have hpos : (taken.pos p).reminder = (s.pos p).reminder := by rw [State.pos_modPos, if_pos rfl]
  split
  · exact .evaluated (htaken.trans (State.post_outcome _ p _ _ _ _)) hpos
  · exact .evaluated htaken hpos

/-- A lost belt capability: a belt state that was NONE stays, any other is evaluated (R91). -/
theorem State.loseBelt_reminds : s.Reminds (s.loseBelt p) p := by
  unfold State.loseBelt
  extract_lets r cleared
  have hcleared : s.OutcomeFrame cleared p := s.modPos_outcome p _
  have hpos : cleared.pos p = { s.pos p with buckle := .cleared } := by rw [State.pos_modPos, if_pos rfl]
  split
  next h =>
    have hreminder : ((cleared.postBelt p).pos p).reminder = (s.pos p).reminder := (congrArg PosRec.reminder hpos :)
    exact .evaluated (hcleared.trans (State.post_outcome _ p _ _ _ _)) hreminder
  next h =>
    have hnone : r.buckle.belt = .none := not_not.1 h
    exact .of_same hcleared (by rw [hpos]) (by rw [hpos]; exact hnone.symm) (by rw [hpos])

theorem State.recompute_reminds : s.Reminds (s.recompute p) p := by
  unfold State.recompute
  extract_lets r e caps child belt changed
  have hchanged : s.Reminds changed p := s.modPos_reminds p rfl rfl rfl
  exact .ite (hchanged.trans (changed.loseBelt_reminds p)) hchanged

theorem State.setFit_reminds (fit : FitState) : s.Reminds (s.setFit p fit) p :=
  (s.modPos_reminds p rfl rfl rfl).trans (State.recompute_reminds _ p)

theorem State.evaluate_reminds : s.Reminds (s.evaluate p) p := .evaluated (.refl s p) rfl

/-- A reminder's record changed in its counts alone. -/
theorem State.setReminder_reminds {r : ReminderRec} (hstep : r.step = (s.pos p).reminder.step) (htimer : r.timer = (s.pos p).reminder.timer) :
    s.Reminds (s.setReminder p r) p := by
  have hpos : (s.setReminder p r).pos p = { s.pos p with reminder := r } := by rw [State.setReminder, State.pos_modPos, if_pos rfl]
  refine ⟨s.modPos_outcome p _, fun h => h.congr ?_ ?_ ?_ rfl rfl, fun h => ?_⟩
  · rw [hpos, hstep]
  · rw [hpos]
  · rw [hpos]
  · rw [hpos]
    unfold ReminderRec.AtRest
    rw [hstep, htimer]
    exact h

theorem State.countScan_reminds : s.Reminds (s.countScan p) p := by
  unfold State.countScan
  extract_lets r
  split
  · split
    · have hcounted : s.Reminds (s.setReminder p { r with reissues := min (r.reissues + 1) 15, scans := 0 }) p :=
        s.setReminder_reminds p rfl rfl
      exact hcounted.trans (State.post_reminds _ p _ _ _ _)
    · exact s.setReminder_reminds p rfl rfl
  · exact .refl s p

theorem State.positions_ite {c : Prop} [Decidable c] {s t u : State} (h : t.positions = s.positions) (k : u.positions = s.positions) :
    (if c then t else u).positions = s.positions := by
  split
  · exact h
  · exact k

theorem State.captureTake_pos (q : Pos) (x : SlotSample) : (s.captureTake p x).pos q = s.pos q := by
  have h : (s.captureTake p x).positions = s.positions := by
    unfold State.captureTake
    split
    · rfl
    · exact State.positions_ite rfl (State.positions_ite (congrArg State.positions (s.abortCapture_rest _) :)
        (State.positions_ite rfl rfl))
  rw [State.pos, h, State.pos]

theorem State.Deed.reminds {s t : State} (h : s.Deed t) : ∃ p, s.Reminds t p ∨
    ((∀ q, t.pos q = s.pos q) ∧ t.vehicle.ignition = s.vehicle.ignition ∧ t.config = s.config) := by
  cases h with
  | scan c n => exact ⟨0, .inr ⟨fun _ => rfl, rfl, rfl⟩⟩
  | post q k n v => exact ⟨0, .inl (s.post_reminds 0 q k n v)⟩
  | quiet p f h => exact ⟨p, .inl (s.modPos_reminds p h.reminder (congrArg BeltRec.belt h.buckle) h.stable)⟩
  | change p cls cause hh he hc => exact ⟨p, .inl (s.changeClass_reminds p true cls cause)⟩
  | buckle p x => exact ⟨p, .inl (s.takeBuckle_reminds p x)⟩
  | fit p fit he => exact ⟨p, .inl (s.setFit_reminds p fit)⟩
  | evaluate p => exact ⟨p, .inl (s.evaluate_reminds p)⟩
  | count p => exact ⟨p, .inl (s.countScan_reminds p)⟩
  | wake => exact ⟨0, .inl (.of_pos (s.wake_outcome 0) (s.wake_pos 0))⟩
  | abort r => exact ⟨0, .inl (.of_pos (s.abortCapture_outcome r 0) (s.abortCapture_pos r 0))⟩
  | take p x => exact ⟨p, .inl (.of_pos (s.captureTake_outcome p x) (s.captureTake_pos p p x))⟩

/-- A chain of operations keeps both rules. -/
theorem State.Deeds.askedFor {s t : State} (h : s.Deeds t) (hs : ∀ q, s.AskedFor q) (q : Pos) : t.AskedFor q := by
  refine State.Deeds.keeps (P := fun u => ∀ q, u.AskedFor q) (fun u v k hu q => ?_) h hs q
  obtain ⟨p, k | ⟨hpos, hignition, hconfig⟩⟩ := k.reminds
  · exact k.askedFor hu q
  · exact (hu q).congr (by rw [hpos]) (by rw [hpos]) (by rw [hpos]) hignition (by rw [State.entry, hconfig, State.entry])

theorem State.Deeds.atRest {s t : State} (h : s.Deeds t) (hs : ∀ q, (s.pos q).reminder.AtRest) (q : Pos) :
    (t.pos q).reminder.AtRest := by
  refine State.Deeds.keeps (P := fun u => ∀ q, (u.pos q).reminder.AtRest) (fun u v k hu q => ?_) h hs q
  obtain ⟨p, k | ⟨hpos, -⟩⟩ := k.reminds
  · exact k.atRest hu q
  · rw [hpos]; exact hu q

/-! ## Walks of evaluations -/

/-- A walk of evaluations leaves every position asked for that it visits, or that was asked for before. -/
theorem State.evaluates_askedFor (ps : List Pos) (q : Pos) (h : q ∈ ps ∨ s.AskedFor q) :
    (s.forPositions ps fun p s => s.evaluate p).AskedFor q := by
  induction ps generalizing s with
  | nil => exact h.resolve_left List.not_mem_nil
  | cons p ps ih =>
    refine ih _ ?_
    by_cases hq : q = p
    · subst q; exact .inr (s.evaluate_askedFor p)
    · rcases h with h | h
      · exact .inl ((List.mem_cons.1 h).resolve_left hq)
      · have hframe := s.evaluate_frame p
        have hpos := hframe.others q hq
        exact .inr (h.congr (by rw [hpos]) (by rw [hpos]) (by rw [hpos]) (by rw [hframe.vehicle]) (hframe.entry q))

/-- A walk keeps stopped reminders at timer 0 where each visit does. -/
theorem State.forPositions_atRest {f : Pos → State → State} (hf : ∀ (p : Pos) (s : State), s.OutcomeFrame (f p s) p ∧
    ((s.pos p).reminder.AtRest → ((f p s).pos p).reminder.AtRest)) (ps : List Pos) (hs : ∀ q, (s.pos q).reminder.AtRest) (q : Pos) :
    ((s.forPositions ps f).pos q).reminder.AtRest := by
  refine State.forPositions_keeps (P := fun u => ∀ q, (u.pos q).reminder.AtRest) (fun p u hu q => ?_) ps s hs q
  obtain ⟨hframe, hrest⟩ := hf p u
  by_cases hq : q = p
  · subst q; exact hrest (hu p)
  · rw [hframe.others q hq]; exact hu q

/-! ## Commits -/

/-- A record that a commit resets is fresh, with its sequence raised (R14). -/
theorem State.resetRecord_pos : (s.resetRecord p).pos p = .fresh (s.entry p).enabled ((s.pos p).cls.sequence + 1) := by
  unfold State.resetRecord
  extract_lets old fresh told belted shown
  have hfresh : fresh.pos p = .fresh (s.entry p).enabled (old.cls.sequence + 1) := by rw [State.pos_setPos, if_pos rfl]
  have htold : told.positions = fresh.positions := rfl
  have hbelted : belted.positions = told.positions := State.positions_ite rfl rfl
  have hshown : shown.positions = belted.positions := State.positions_ite rfl rfl
  show shown.pos p = _
  rw [State.pos, hshown, hbelted, htold]
  exact hfresh

/-- An operation of the record effects leaves a stopped reminder at timer 0. -/
theorem State.recordEffects_atRest (old : PerPos MapEntry) (h : (s.pos p).reminder.AtRest) :
    ((s.recordEffects old p).pos p).reminder.AtRest := by
  unfold State.recordEffects
  split
  · rw [State.resetRecord_pos]
    exact fun _ => rfl
  · unfold State.keepRecord
    extract_lets changed
    split
    · rw [State.toIdle, State.moveReminder_reminder]
      exact fun _ => rfl
    · exact (State.Reminds.ite (s.recompute_reminds p) (.refl s p)).rest h

theorem State.fitClass_reminds (leaves : Bool) (fit : FitState) : s.Reminds (s.fitClass p leaves fit) p := by
  cases fit with
  | misfit => exact s.applyDirect_reminds p false _
  | noSlot => exact s.applyDirect_reminds p false _
  | fits => exact .ite (s.returnUnresolved_reminds p false) (.refl s p)
  | unchecked => exact .refl s p

theorem State.finishFit_reminds (old : PerPos MapEntry) : s.Reminds (s.finishFit old p) p := by
  rw [State.finishFit_eq]
  exact .ite ((s.setFit_reminds p _).trans (State.fitClass_reminds _ p _ _)) (s.recompute_reminds p)

/-- What a commit's last stages leave of the positions: the records of the walks (R16). -/
theorem State.applyStaged_positions : s.applyStaged.positions = s.walked.positions := by
  have habort : (s.walked.abortMoved s.config.map s.stagedPositions).positions = s.walked.positions := by
    unfold State.abortMoved
    split
    · rfl
    · split
      · exact (congrArg State.positions (State.abortCapture_rest _ _) :)
      · rfl
  exact (State.deriveSuppression_positions _).trans habort

theorem State.applyStaged_pos : s.applyStaged.pos p = s.walked.pos p := by rw [State.pos, s.applyStaged_positions, State.pos]

theorem State.applyStaged_map : s.applyStaged.config = s.mapped.config :=
  (congrArg State.config s.settled_rest :)

theorem State.applyStaged_ignition : s.applyStaged.vehicle.ignition = s.vehicle.ignition :=
  (congrArg (fun u : State => u.vehicle.ignition) s.applyStaged_rest :)

theorem State.applyStaged_entry : s.applyStaged.entry p = s.swapSource p := by
  rw [State.entry, s.applyStaged_map]
  exact s.stagedMap_get p

theorem State.mem_stagedPositions {s : State} {p : Pos} : p ∈ s.stagedPositions ↔ s.staging.holds p = true := by
  simp [State.stagedPositions, mem_allPos]

/-- A position with no staged entry keeps its entry and its record at a commit (R14). -/
theorem State.swapSource_unstaged {s : State} {p : Pos} (h : s.staging.holds p = false) : s.swapSource p = s.entry p := by
  rw [Staging.holds, Option.isSome_eq_false_iff, Option.isNone_iff_eq_none] at h
  rw [State.swapSource, h, Option.getD_none]

theorem State.walked_pos_unstaged {s : State} {p : Pos} (h : s.staging.holds p = false) : s.walked.pos p = s.pos p := by
  have hp : p ∉ s.stagedPositions := by rw [State.mem_stagedPositions, h]; exact Bool.false_ne_true
  have h1 := State.forPositions_outcome_pos (fun p s => State.recordEffects_outcome s p _) s.stagedPositions s.mapped p hp
    (f := State.recordEffects s.config.map)
  have h2 := State.forPositions_outcome_pos (fun p s => State.finishFit_outcome s p _) s.stagedPositions
    (s.mapped.forPositions s.stagedPositions (State.recordEffects s.config.map)) p hp (f := State.finishFit s.config.map)
  have h3 := State.forPositions_outcome_pos (fun p s => (s.evaluate_frame p).outcome) s.stagedPositions
    ((s.mapped.forPositions s.stagedPositions (State.recordEffects s.config.map)).forPositions s.stagedPositions
      (State.finishFit s.config.map)) p hp (f := fun p s => s.evaluate p)
  exact h3.trans (h2.trans h1)

/-- Every staged position's reminder is evaluated with the new map at the end of a commit, and every other keeps all it reads. -/
theorem State.applyStaged_askedFor (hs : ∀ q, s.AskedFor q) (q : Pos) : s.applyStaged.AskedFor q := by
  cases h : s.staging.holds q with
  | true =>
    have hwalked : s.walked.AskedFor q := State.evaluates_askedFor _ _ q (.inl (State.mem_stagedPositions.2 h))
    have hconfig : s.applyStaged.config = s.walked.config := s.applyStaged_map.trans s.walked_touches.config.symm
    refine hwalked.congr ?_ ?_ ?_ (s.applyStaged_ignition.trans s.walked_touches.ignition.symm) ?_
    · rw [s.applyStaged_pos]
    · rw [s.applyStaged_pos]
    · rw [s.applyStaged_pos]
    · rw [State.entry, hconfig, State.entry]
  | false =>
    have hpos : s.applyStaged.pos q = s.pos q := (s.applyStaged_pos q).trans (State.walked_pos_unstaged h)
    refine (hs q).congr ?_ ?_ ?_ s.applyStaged_ignition ((s.applyStaged_entry q).trans (State.swapSource_unstaged h))
    · rw [hpos]
    · rw [hpos]
    · rw [hpos]

theorem State.applyStaged_atRest (hs : ∀ q, (s.pos q).reminder.AtRest) (q : Pos) : (s.applyStaged.pos q).reminder.AtRest := by
  rw [s.applyStaged_pos]
  refine State.forPositions_atRest _ (fun p s => ⟨(s.evaluate_frame p).outcome, s.evaluate_atRest p⟩) _ ?_ q
  refine State.forPositions_atRest _ (fun p s => ⟨State.finishFit_outcome s p _, (State.finishFit_reminds s p _).rest⟩) _ ?_
  exact State.forPositions_atRest _ (fun p s => ⟨State.recordEffects_outcome s p _, State.recordEffects_atRest s p _⟩) _ hs

theorem State.RemindersLegal.applyStaged {s : State} (hs : s.RemindersLegal) : s.applyStaged.RemindersLegal :=
  fun q => ⟨s.applyStaged_askedFor (fun q => (hs q).1) q, s.applyStaged_atRest (fun q => (hs q).2) q⟩

/-! ## What keeps the reminders -/

/-- From s to t every reminder, belt and class stayed, and the ignition and the live map. -/
structure State.KeepsReminders (s t : State) : Prop where
  reminder : ∀ q, (t.pos q).reminder = (s.pos q).reminder
  buckle : ∀ q, (t.pos q).buckle = (s.pos q).buckle
  stable : ∀ q, (t.pos q).cls.stable = (s.pos q).cls.stable
  ignition : t.vehicle.ignition = s.vehicle.ignition
  map : t.config.map = s.config.map

theorem State.KeepsReminders.legal {s t : State} (h : s.KeepsReminders t) (hs : s.RemindersLegal) : t.RemindersLegal := fun q =>
  ⟨State.AskedFor.congr (hs q).1 (by rw [h.reminder]) (by rw [h.buckle]) (h.stable q) h.ignition
    (by rw [State.entry, h.map, State.entry]), by
    rw [h.reminder]; exact (hs q).2⟩

/-- An operation that leaves the positions, the ignition and the live map. -/
theorem State.KeepsReminders.of_positions {s t : State} (h : t.positions = s.positions)
    (hignition : t.vehicle.ignition = s.vehicle.ignition) (hmap : t.config.map = s.config.map) : s.KeepsReminders t := by
  have hpos (q : Pos) : t.pos q = s.pos q := by rw [State.pos, h, State.pos]
  exact ⟨fun q => by rw [hpos], fun q => by rw [hpos], fun q => by rw [hpos], hignition, hmap⟩

theorem State.applyDeferred_reminders (hs : s.RemindersLegal) : s.applyDeferred.RemindersLegal := by
  by_cases h : s.staging.deferred = false ∨ ¬ s.gateOpen
  · rw [State.applyDeferred_waits h]; exact hs
  · obtain ⟨hd, hopen⟩ := not_or.1 h
    rw [State.applyDeferred_applies (by simpa using hd) (not_not.1 hopen)]
    have happlied := hs.applyStaged
    generalize s.applyStaged = t at happlied ⊢
    exact State.KeepsReminders.legal (s := t) (.of_positions rfl rfl rfl) happlied

theorem State.loseStandstill_reminder (q : Pos) : (s.loseStandstill.pos q).reminder = (s.pos q).reminder := by
  rw [s.loseStandstill_pos]
  split <;> rfl

/-- A taken report evaluates every reminder with the new report (R93, R124). -/
theorem State.reportTaken_reminders (hs : s.RemindersLegal) (i : Ignition) (speed : Nat) (g : Gear) (d : Door) :
    (s.reportTaken i speed g d).RemindersLegal := by
  unfold State.reportTaken
  extract_lets stored
  unfold State.forAll
  refine fun q => (State.reminderLegal_iff _ q).2 ⟨State.evaluates_askedFor _ _ q (.inl (mem_allPos q)), ?_⟩
  refine State.forPositions_atRest _ (fun p s => ⟨(s.evaluate_frame p).outcome, s.evaluate_atRest p⟩) _ (fun q => ?_) q
  have hlost : ((if s.standstill && !stored.standstill then stored.loseStandstill else stored).pos q).reminder =
      (s.pos q).reminder := by
    split
    · exact State.loseStandstill_reminder stored q
    · rfl
  have hwatched : (((if s.standstill && !stored.standstill then stored.loseStandstill else stored).watchReport
      s.vehicle.ignition).pos q).reminder = (s.pos q).reminder := by
    rw [State.watchReport_pos]
    exact hlost
  rw [hwatched]
  exact (hs q).2

/-- An operation of the reminder machine from a step other than IDLE, to a record that keeps a stopped timer at 0. -/
theorem State.ReminderFrame.reminders {s t : State} {p : Pos} (h : s.ReminderFrame t p) (hs : s.RemindersLegal)
    (hstep : (s.pos p).reminder.step ≠ .idle) (hrest : (t.pos p).reminder.AtRest) : t.RemindersLegal := by
  have hbuckle : (t.pos p).buckle = (s.pos p).buckle := (congrArg PosRec.buckle h.own :)
  have hreminds : s.Reminds t p := by
    refine ⟨h.outcome, fun hasked _ => ?_, fun _ => hrest⟩
    rw [hbuckle, h.cls, h.vehicle, h.entry]
    exact hasked hstep
  exact fun q => ⟨hreminds.askedFor (fun q => (hs q).1) q, hreminds.atRest (fun q => (hs q).2) q⟩

theorem State.muteOne_reminders (hs : s.RemindersLegal) : (s.muteOne p).RemindersLegal := by
  unfold State.muteOne
  split
  next h =>
    refine (s.moveReminder_frame p _ _).reminders hs (by rw [h]; decide) ?_
    rw [State.moveReminder_reminder]
    exact fun _ => rfl
  · exact hs

theorem State.CommandEffect.reminders {s t : State} (h : s.CommandEffect t) (hs : s.RemindersLegal) : t.RemindersLegal := by
  have kept {t : State} (h : s.KeepsReminders t) : t.RemindersLegal := h.legal hs
  have same {t : State} (h : t.positions = s.positions) (hi : t.vehicle.ignition = s.vehicle.ignition)
      (hm : t.config.map = s.config.map) : t.RemindersLegal := kept (.of_positions h hi hm)
  cases h with
  | none => exact hs
  | clearOverflow p => exact same rfl rfl rfl
  | readNotice p n rest h => exact same rfl rfl rfl
  | hold =>
    rw [State.startHold_eq]
    have hrest := State.abortCapture_rest .locked { s with restraint := s.heldRestraint }
    exact same (congrArg State.positions hrest :) (congrArg (fun u : State => u.vehicle.ignition) hrest :)
      (congrArg (fun u : State => u.config.map) hrest :)
  | endHold h => exact State.applyDeferred_reminders s.unheld (same rfl rfl rfl)
  | restraint g h => exact same rfl rfl rfl
  | report i speed g d =>
    rw [State.takeReport_eq]
    exact (s.reportTaken i speed g d).applyDeferred_reminders (s.reportTaken_reminders hs i speed g d)
  | confirm p =>
    have hreminds : s.Reminds (s.setReminder p { (s.pos p).reminder with confirmed := true }) p := s.setReminder_reminds p rfl rfl
    exact fun q => ⟨hreminds.askedFor (fun q => (hs q).1) q, hreminds.atRest (fun q => (hs q).2) q⟩
  | mute ps => exact State.forPositions_keeps (P := State.RemindersLegal) (fun p u hu => u.muteOne_reminders p hu) ps s hs
  | dismiss =>
    exact kept ⟨fun q => by rw [s.endWatch_pos], fun q => by rw [s.endWatch_pos], fun q => by rw [s.endWatch_pos], rfl, rfl⟩
  | stage p e he hd => exact same rfl rfl rfl
  | swap p q hd => exact same rfl rfl rfl
  | discard => exact same rfl rfl rfl
  | commit hh hm => exact hs.applyStaged
  | defer hm => exact same rfl rfl rfl
  | capture p => exact same rfl rfl rfl
  | profile i x h => exact same rfl rfl rfl
  | settings x h => exact same rfl rfl rfl
  | save => exact same rfl rfl rfl
  | testOn =>
    unfold State.testOn
    split
    · exact hs
    · exact same rfl rfl rfl
  | testOff =>
    cases h : s.vehicle.testMode with
    | false => rw [State.testOff_off h]; exact hs
    | true =>
      rw [State.testOff_on h]
      exact kept ⟨fun q => by rw [s.endTestMode_pos], fun q => by rw [s.endTestMode_pos], fun q => by rw [s.endTestMode_pos], rfl, rfl⟩
  | inject p x h =>
    have hreminds : s.Reminds (s.setInjection p x) p := s.modPos_reminds p rfl rfl rfl
    exact fun q => ⟨hreminds.askedFor (fun q => (hs q).1) q, hreminds.atRest (fun q => (hs q).2) q⟩
  | reset => exact same rfl rfl rfl

/-- A tick lowers running timers alone (R92). -/
theorem State.lowerReminders_reminders (hs : s.RemindersLegal) : s.lowerReminders.RemindersLegal := by
  intro q
  have hpos : s.lowerReminders.pos q = (s.pos q).tick (s.entry q).reminderClass := PerPos.get_ofFn _ q
  obtain ⟨hasked, hrest⟩ := hs q
  unfold PosRec.tick at hpos
  split at hpos
  next hruns =>
    refine ⟨State.AskedFor.congr hasked (by rw [hpos]) (by rw [hpos]) (by rw [hpos]) rfl rfl, fun hstopped => ?_⟩
    rw [hpos] at hstopped
    obtain ⟨-, hsteps⟩ := (PosRec.timerRuns_iff _ _).1 hruns
    rcases hsteps with k | ⟨k, -⟩ | k <;> simp only [k] at hstopped <;> rcases hstopped with h | h | h <;> cases h
  · exact ⟨State.AskedFor.congr hasked (by rw [hpos]) (by rw [hpos]) (by rw [hpos]) rfl rfl, by rw [hpos]; exact hrest⟩

theorem State.EventEffect.reminders {s t : State} (h : s.EventEffect t) (hs : s.RemindersLegal) : t.RemindersLegal := by
  have same {t : State} (h : t.positions = s.positions) (hi : t.vehicle.ignition = s.vehicle.ignition)
      (hm : t.config.map = s.config.map) : t.RemindersLegal := State.KeepsReminders.legal (.of_positions h hi hm) hs
  have chain {t : State} (h : s.Deeds t) : t.RemindersLegal := fun q =>
    ⟨h.askedFor (fun q => (hs q).1) q, h.atRest (fun q => (hs q).2) q⟩
  cases h with
  | none => exact hs
  | scan => exact chain s.beginScan_deeds
  | exchange l chars => exact chain (State.endExchange_deeds l s chars)
  | tick => exact s.lowerReminders_reminders hs
  | grace p h =>
    have hstep := ((State.inStep_iff (by decide)).1 h).1
    refine (s.enterVisual_frame p).reminders hs (by rw [hstep]; decide) ?_
    rw [State.enterVisual_reminder]
    exact ReminderRec.shown_atRest _ _ _
  | visual p h =>
    have hstep := ((State.inStep_iff (by decide)).1 h).1
    refine (s.enterAudible_frame p).reminders hs (by rw [hstep]; decide) ?_
    rw [State.enterAudible_reminder]
    exact ReminderRec.sounded_atRest _
  | audible p h =>
    have hstep := ((State.inStep_iff (by decide)).1 h).1
    refine (s.moveReminder_frame p _ _).reminders hs (by rw [hstep]; decide) ?_
    rw [State.moveReminder_reminder]
    exact fun _ => rfl
  | hold h => exact State.applyDeferred_reminders s.holdLapsed (same rfl rfl rfl)
  | stale =>
    unfold State.goStale
    simp only
    split
    · have hrest := s.stale.loseStandstill_rest
      have hvehicle := s.stale.loseStandstill_vehicle
      refine State.KeepsReminders.legal (s := s) ⟨fun q => State.loseStandstill_reminder s.stale q, fun q => ?_, fun q => ?_,
        (congrArg Vehicle.ignition hvehicle :), (congrArg (fun u : State => u.config.map) hrest :)⟩ hs
      · exact (congrArg PosRec.buckle (s.stale.loseStandstill_pos q)).trans (by split <;> rfl)
      · exact s.stale.loseStandstill_keepsClasses.stable q
    · exact same rfl rfl rfl
  | watch h =>
    have hrest := s.judgeWatch_rest
    exact State.KeepsReminders.legal ⟨fun q => by rw [s.judgeWatch_pos], fun q => by rw [s.judgeWatch_pos],
      fun q => by rw [s.judgeWatch_pos], (congrArg (fun u : State => u.vehicle.ignition) hrest :),
      (congrArg (fun u : State => u.config.map) hrest :)⟩ hs
  | eco h => exact same rfl rfl rfl
  | age p => exact same rfl rfl rfl
  | save readBack =>
    cases h : s.saveImage with
    | none => rw [State.endSave_idle _ h]; exact hs
    | some image =>
      rw [State.endSave_inFlight _ h]
      exact State.applyDeferred_reminders _ (same rfl rfl rfl)

/-! ## Rows and steps -/

/-- A state whose positions are all fresh. -/
theorem State.remindersLegal_of_fresh {s : State} {on : Pos → Bool} (h : ∀ q, s.pos q = .fresh (on q) 0) : s.RemindersLegal := fun q =>
  ⟨fun k => absurd (congrArg (fun r : PosRec => r.reminder.step) (h q)) k, fun _ => congrArg (fun r : PosRec => r.reminder.timer) (h q)⟩

theorem State.frameReported_keepsReminders : s.KeepsReminders s.frameReported := by
  have h := s.putBack_frameReported s
  exact .of_positions (congrArg State.positions h :) (congrArg (fun u : State => u.vehicle.ignition) h :)
    (congrArg (fun u : State => u.config.map) h :)

theorem State.RowEffect.reminders {s t : State} (h : s.RowEffect t) (hs : s.RemindersLegal) : t.RemindersLegal := by
  have same {u v : State} (hu : u.RemindersLegal) (h : v.positions = u.positions) (hi : v.vehicle.ignition = u.vehicle.ignition)
      (hm : v.config.map = u.config.map) : v.RemindersLegal := State.KeepsReminders.legal (.of_positions h hi hm) hu
  cases h with
  | none => exact hs
  | event hrun hu => exact same (hu.reminders hs) rfl rfl rfl
  | command p bytes hreply hl hu =>
    have hreceived : (s.received p).RemindersLegal :=
      (State.frameReported_keepsReminders (s.setPort p { s.port p with assembler := .idle })).legal (same hs rfl rfl rfl)
    exact same (hu.reminders hreceived) rfl rfl rfl
  | discarded p =>
    have hreported : (s.discardFrame p).RemindersLegal :=
      (State.frameReported_keepsReminders (s.setPort p { (s.port p).countDrop with assembler := .discarding })).legal
        (same hs rfl rfl rfl)
    exact same hreported rfl rfl rfl
  | partialFrame p => exact same hs rfl rfl rfl
  | gap p => exact same hs rfl rfl rfl
  | replyEnd p => exact same hs rfl rfl rfl
  | powerOn => exact State.remindersLegal_of_fresh s.clearBlocks_pos
  | resetLow => exact State.remindersLegal_of_fresh s.clearBlocks_pos
  | load => exact State.remindersLegal_of_fresh s.clearBlocks_pos
  | loaded =>
    have hpos (q : Pos) := State.clearBlocks_pos
      { s with config := loadedConfig (checkStore s.store), configState := loadedState (checkStore s.store) } q
    rw [State.endLoad_eq, State.reportLoad_eq]
    exact State.remindersLegal_of_fresh hpos

theorem State.passTime_reminders (hs : s.RemindersLegal) : s.passTime.RemindersLegal := by
  have hrest : s.passTime.positions = s.positions ∧ s.passTime.vehicle.ignition = s.vehicle.ignition ∧
      s.passTime.config.map = s.config.map := by
    unfold State.passTime
    simp only
    split <;> exact ⟨rfl, rfl, rfl⟩
  obtain ⟨hpositions, hignition, hmap⟩ := hrest
  exact State.KeepsReminders.legal (.of_positions hpositions hignition hmap) hs

end

/-- Settles O56: what changes what a reminder reads evaluates it. -/
theorem everyStepKeepsRemindersLegal : Obligations.EveryStepKeepsRemindersLegal := by
  unfold Obligations.EveryStepKeepsRemindersLegal
  intro s t hs h
  rcases step_cases h with rfl | ⟨n, incoming, pending, u, hu, hrow⟩
  · exact s.passTime_reminders hs
  · rcases hu with rfl | ⟨p, x, -, rfl⟩
    · exact hrow.reminders hs
    · exact hrow.reminders hs

end Sys2Proof.Machine

/-! The eco countdown and the ECO mode at every step (R129, R130). -/

namespace Sys2Proof.Machine

/-! ## The rule -/

/-- Nothing is in flight that ECO excludes (R129, R130). -/
structure State.Calm (s : State) : Prop where
  ignition : s.vehicle.ignition = .off
  watching : s.watching = false
  hold : s.holdActive = false
  capture : s.capture = none
  saveImage : s.saveImage = none
  deferred : s.staging.deferred = false
  reminders : ∀ p, (s.pos p).reminder.step = .idle

/-- ECO stands only where nothing is in flight. -/
def State.EcoCalm (s : State) : Prop := s.vehicle.mode = .eco → s.Calm

theorem State.remindersIdle_iff (s : State) : s.remindersIdle = true ↔ ∀ p : Pos, (s.pos p).reminder.step = .idle := by
  simp [State.remindersIdle, mem_allPos]

theorem State.ecoConditions_iff (s : State) : s.ecoConditions = true ↔ s.vehicle.mode = .run ∧ s.Calm := by
  simp only [State.ecoConditions, Bool.and_eq_true, decide_eq_true_eq, Bool.not_eq_true', State.remindersIdle_iff, State.saving,
    Option.isNone_iff_eq_none, Option.isSome_eq_false_iff, and_assoc]
  exact ⟨fun ⟨h0, h1, h2, h3, h4, h5, h6, h7⟩ => ⟨h0, h1, h2, h3, h4, h5, h6, h7⟩,
    fun ⟨h0, h1, h2, h3, h4, h5, h6, h7⟩ => ⟨h0, h1, h2, h3, h4, h5, h6, h7⟩⟩

theorem State.ecoLegal_iff (s : State) : s.EcoLegal ↔ s.vehicle.eco.isSome = s.ecoConditions ∧ s.EcoCalm := by
  refine and_congr_right fun _ => ⟨fun h hm => ?_, fun h hm => ?_⟩
  · obtain ⟨h1, h2, h3, h4, h5, h6, h7⟩ := h hm
    exact ⟨h1, h2, h3, h4, h5, h6, s.remindersIdle_iff.1 h7⟩
  · obtain ⟨h1, h2, h3, h4, h5, h6, h7⟩ := h hm
    exact ⟨h1, h2, h3, h4, h5, h6, s.remindersIdle_iff.2 h7⟩

/-- Judging the countdown makes it run exactly under its conditions (R129). -/
theorem State.judgeEco_legal {s : State} (h : s.EcoCalm) : s.judgeEco.EcoLegal := by
  refine s.judgeEco.ecoLegal_iff.2 ⟨?_, fun hm => ?_⟩
  · rw [State.judgeEco_eco, State.judgeEco_ecoConditions]
    cases s.ecoConditions <;> rfl
  · obtain ⟨h1, h2, h3, h4, h5, h6, h7⟩ := h hm
    exact ⟨h1, h2, h3, h4, h5, h6, h7⟩

/-- In RUN nothing is asked. -/
theorem State.EcoCalm.of_run {s : State} (h : s.vehicle.mode = .run) : s.EcoCalm := fun k => by rw [h] at k; cases k

theorem ScanMode.run_or_eco (m : ScanMode) : m = .run ∨ m = .eco := by cases m <;> simp

section
variable (s : State)

/-! ## Operations -/

/-- A taken sample writes the capture, the staging area and the service port alone (R49, R50). -/
theorem State.captureTake_vehicle (p : Pos) (x : SlotSample) : (s.captureTake p x).vehicle = s.vehicle := by
  unfold State.captureTake
  split
  · rfl
  · split
    · rfl
    · split
      · exact (congrArg State.vehicle (s.abortCapture_rest _) :)
      · split <;> rfl

theorem State.Touches.calm {s t : State} (h : s.Touches t) (hidle : ∀ p, (t.pos p).reminder.step = .idle) (hs : s.Calm) : t.Calm where
  ignition := h.ignition.trans hs.ignition
  watching := (congrArg Option.isSome h.watch).trans hs.watching
  hold := (congrArg Option.isSome h.hold).trans hs.hold
  capture := h.capture.trans hs.capture
  saveImage := h.saveImage.trans hs.saveImage
  deferred := (congrArg Staging.deferred h.staging).trans hs.deferred
  reminders := hidle

/-- With ignition OFF no operation takes a reminder out of IDLE (R94). -/
theorem State.Deed.calm {s t : State} (h : s.Deed t) (hs : s.Calm) : t.Calm := by
  have hasked (q : Pos) : t.AskedFor q := h.deeds.askedFor (fun q k => absurd (hs.reminders q) k) q
  have calm (k : s.Touches t) : t.Calm := by
    refine k.calm (fun q => ?_) hs
    by_contra hstep
    obtain ⟨-, -, hrun, -⟩ := hasked q hstep
    rw [k.ignition, hs.ignition] at hrun
    cases hrun
  cases h with
  | scan c n => exact ⟨hs.ignition, hs.watching, hs.hold, hs.capture, hs.saveImage, hs.deferred, hs.reminders⟩
  | post q k n v => exact calm (s.post_touches q k n v)
  | quiet p f h => exact calm (s.modPos_touches p f)
  | change p cls cause hh he hc => exact calm (s.changeClass_touches p true cls cause)
  | buckle p x => exact calm (s.takeBuckle_touches p x)
  | fit p fit he => exact calm (s.setFit_touches p fit)
  | evaluate p => exact calm (s.evaluate_touches p)
  | count p => exact calm (s.countScan_touches p)
  | wake => exact calm s.wake_touches
  | abort r => rw [State.abortCapture_idle r hs.capture]; exact hs
  | take p x =>
    have htake : s.captureTake p x = s := by simp only [State.captureTake, hs.capture]
    rw [htake]; exact hs

theorem State.Deed.mode {s t : State} (h : s.Deed t) (hs : s.vehicle.mode = .run) : t.vehicle.mode = .run := by
  cases h with
  | scan c n => exact hs
  | post q k n v => exact (s.post_touches q k n v).mode hs
  | quiet p f h => exact (s.modPos_touches p f).mode hs
  | change p cls cause hh he hc => exact (s.changeClass_touches p true cls cause).mode hs
  | buckle p x => exact (s.takeBuckle_touches p x).mode hs
  | fit p fit he => exact (s.setFit_touches p fit).mode hs
  | evaluate p => exact (s.evaluate_touches p).mode hs
  | count p => exact (s.countScan_touches p).mode hs
  | wake => exact s.wake_touches.mode hs
  | abort r => exact (congrArg (fun u : State => u.vehicle.mode) (s.abortCapture_rest r) :).trans hs
  | take p x => rw [s.captureTake_vehicle]; exact hs

theorem State.Deeds.ecoCalm {s t : State} (h : s.Deeds t) (hs : s.EcoCalm) : t.EcoCalm := by
  refine State.Deeds.keeps (P := State.EcoCalm) (fun u v k hu => ?_) h hs
  rcases u.vehicle.mode.run_or_eco with hmode | hmode
  · exact .of_run (k.mode hmode)
  · exact fun _ => k.calm (hu hmode)

/-! ## RUN stays -/

theorem State.applyStaged_mode (hs : s.vehicle.mode = .run) : s.applyStaged.vehicle.mode = .run := by
  have hwalked : s.walked.vehicle.mode = .run := s.walked_touches.mode hs
  have habort : (s.walked.abortMoved s.config.map s.stagedPositions).vehicle.mode = .run := by
    unfold State.abortMoved
    split
    · exact hwalked
    · split
      · exact (congrArg (fun u : State => u.vehicle.mode) (State.abortCapture_rest _ _) :).trans hwalked
      · exact hwalked
  exact (State.deriveSuppression_touches _).mode habort

theorem State.applyDeferred_mode (hs : s.vehicle.mode = .run) : s.applyDeferred.vehicle.mode = .run := by
  by_cases h : s.staging.deferred = false ∨ ¬ s.gateOpen
  · rw [State.applyDeferred_waits h]; exact hs
  · obtain ⟨hd, hopen⟩ := not_or.1 h
    rw [State.applyDeferred_applies (by simpa using hd) (not_not.1 hopen)]
    have happlied := s.applyStaged_mode hs
    generalize s.applyStaged = t at happlied ⊢
    exact happlied

theorem State.loseStandstill_mode : s.loseStandstill.vehicle.mode = s.vehicle.mode := by rw [s.loseStandstill_vehicle]

theorem State.reportTaken_mode (hs : s.vehicle.mode = .run) (i : Ignition) (speed : Nat) (g : Gear) (d : Door) :
    (s.reportTaken i speed g d).vehicle.mode = .run := by
  unfold State.reportTaken
  extract_lets stored
  have hlost : (if s.standstill && !stored.standstill then stored.loseStandstill else stored).vehicle.mode = .run := by
    split
    · exact stored.loseStandstill_mode.trans hs
    · exact hs
  have hwatch (u : State) : (u.watchReport s.vehicle.ignition).vehicle.mode = u.vehicle.mode :=
    (congrArg (fun v : State => v.vehicle.mode) (u.watchReport_rest s.vehicle.ignition) :)
  unfold State.forAll
  refine (State.forPositions_touches (fun p s => s.evaluate_touches p) _ _).mode ?_
  rw [hwatch]
  exact hlost

theorem State.CommandEffect.mode {s t : State} (h : s.CommandEffect t) (hs : s.vehicle.mode = .run) : t.vehicle.mode = .run := by
  cases h with
  | none => exact hs
  | clearOverflow p => exact hs
  | readNotice p n rest h => exact hs
  | hold => exact (congrArg (fun u : State => u.vehicle.mode) s.startHold_rest :).trans hs
  | endHold h => exact s.unheld.applyDeferred_mode hs
  | restraint g h => exact hs
  | report i speed g d =>
    rw [State.takeReport_eq]
    exact State.applyDeferred_mode _ (s.reportTaken_mode hs i speed g d)
  | confirm p => exact hs
  | mute ps => exact (State.forPositions_touches (fun p s => s.muteOne_touches p) ps s).mode hs
  | dismiss => exact hs
  | stage p e he hd => exact hs
  | swap p q hd => exact hs
  | discard => exact hs
  | commit hh hm => exact s.applyStaged_mode hs
  | defer hm => exact hs
  | capture p => exact hs
  | profile i x h => exact hs
  | settings x h => exact hs
  | save => exact hs
  | testOn => unfold State.testOn; split <;> exact hs
  | testOff => unfold State.testOff; split <;> exact hs
  | inject p x h => exact hs
  | reset => exact hs

/-! ## Events -/

/-- A state with other ports, timers and report is as calm. -/
theorem State.Calm.congr {s t : State} (h : s.Calm) (hignition : t.vehicle.ignition = s.vehicle.ignition)
    (hwatch : t.vehicle.watch = s.vehicle.watch) (hhold : t.restraint.hold = s.restraint.hold) (hcapture : t.capture = s.capture)
    (hsave : t.saveImage = s.saveImage) (hdeferred : t.staging = s.staging) (hreminder : ∀ q, (t.pos q).reminder = (s.pos q).reminder) :
    t.Calm where
  ignition := hignition.trans h.ignition
  watching := (congrArg Option.isSome hwatch).trans h.watching
  hold := (congrArg Option.isSome hhold).trans h.hold
  capture := hcapture.trans h.capture
  saveImage := hsave.trans h.saveImage
  deferred := (congrArg Staging.deferred hdeferred).trans h.deferred
  reminders q := (congrArg ReminderRec.step (hreminder q)).trans (h.reminders q)

/-- A tick lowers no IDLE reminder. -/
theorem State.lowerReminders_idle {p : Pos} (h : (s.pos p).reminder.step = .idle) :
    (s.lowerReminders.pos p).reminder = (s.pos p).reminder := by
  have hpos : s.lowerReminders.pos p = (s.pos p).tick (s.entry p).reminderClass := PerPos.get_ofFn _ p
  have hstopped : ¬ (s.pos p).timerRuns (s.entry p).reminderClass = true := by
    rw [PosRec.timerRuns_iff]
    rintro ⟨-, k | ⟨k, -⟩ | k⟩ <;> rw [h] at k <;> cases k
  rw [hpos, PosRec.tick, if_neg hstopped]

/-- The report turned STALE leaves the mode, and with nothing in flight all that ECO excludes (R123). -/
theorem State.goStale_ecoCalm (hs : s.EcoCalm) : s.goStale.EcoCalm := by
  have hmode : s.goStale.vehicle.mode = s.vehicle.mode := by
    unfold State.goStale
    simp only
    split
    · exact s.stale.loseStandstill_mode
    · rfl
  intro heco
  have hcalm := hs (hmode.symm.trans heco)
  unfold State.goStale
  simp only
  split
  · have hrest := s.stale.loseStandstill_rest
    have hvehicle := s.stale.loseStandstill_vehicle
    exact hcalm.congr (congrArg Vehicle.ignition hvehicle :) (congrArg Vehicle.watch hvehicle :)
      (congrArg (fun u : State => u.restraint.hold) hrest :) (s.stale.loseStandstill_capture.trans hcalm.capture.symm)
      (congrArg State.saveImage hrest :) (congrArg State.staging hrest :) (State.loseStandstill_reminder s.stale)
  · exact hcalm.congr rfl rfl rfl rfl rfl rfl fun _ => rfl

theorem State.EventEffect.ecoCalm {s t : State} (h : s.EventEffect t) (hs : s.EcoLegal) : t.EcoCalm := by
  obtain ⟨hcountdown, hcalm⟩ := s.ecoLegal_iff.1 hs
  have chain {t : State} (h : s.Deeds t) : t.EcoCalm := h.ecoCalm hcalm
  have expiry {p : Pos} {step : ReminderStep} (hstep : step ≠ .idle) (h : s.inStep p step = true) : s.vehicle.mode = .run := by
    refine s.vehicle.mode.run_or_eco.resolve_right fun heco => ?_
    exact hstep (((State.inStep_iff hstep).1 h).1.symm.trans ((hcalm heco).reminders p))
  cases h with
  | none => exact hcalm
  | scan => exact chain s.beginScan_deeds
  | exchange l chars => exact chain (State.endExchange_deeds l s chars)
  | tick => exact fun heco => (hcalm heco).congr rfl rfl rfl rfl rfl rfl fun q => s.lowerReminders_idle ((hcalm heco).reminders q)
  | grace p h => exact .of_run ((s.enterVisual_touches p).mode (expiry (by decide) h))
  | visual p h => exact .of_run ((s.enterAudible_touches p).mode (expiry (by decide) h))
  | audible p h => exact .of_run ((s.moveReminder_touches p _ _).mode (expiry (by decide) h))
  | hold h =>
    have hrun : s.vehicle.mode = .run :=
      s.vehicle.mode.run_or_eco.resolve_right fun heco => Bool.false_ne_true ((hcalm heco).hold.symm.trans h)
    exact .of_run (s.holdLapsed.applyDeferred_mode hrun)
  | stale => exact s.goStale_ecoCalm hcalm
  | watch h =>
    have hrun : s.vehicle.mode = .run :=
      s.vehicle.mode.run_or_eco.resolve_right fun heco => Bool.false_ne_true ((hcalm heco).watching.symm.trans h)
    exact .of_run ((congrArg (fun u : State => u.vehicle.mode) s.judgeWatch_rest :).trans hrun)
  | eco h =>
    have hall := (s.ecoConditions_iff.1 (hcountdown.symm.trans h)).2
    exact fun _ => hall.congr rfl rfl rfl rfl rfl rfl fun _ => rfl
  | age p => exact fun heco => (hcalm heco).congr rfl rfl rfl rfl rfl rfl fun _ => rfl
  | save readBack =>
    cases h : s.saveImage with
    | none => rw [State.endSave_idle _ h]; exact hcalm
    | some image =>
      have hrun : s.vehicle.mode = .run := s.vehicle.mode.run_or_eco.resolve_right fun heco =>
        Option.some_ne_none image (h.symm.trans (hcalm heco).saveImage)
      rw [State.endSave_inFlight _ h]
      exact .of_run ((s.saveJudged image readBack).applyDeferred_mode hrun)

/-! ## Rows and steps -/

/-- A fresh vehicle state is in RUN with no countdown, and its conditions fail at the ignition. -/
theorem State.ecoLegal_of_fresh {s : State} (h : s.vehicle = .fresh) : s.EcoLegal := by
  have hfails : s.ecoConditions = false := by
    rw [← Bool.not_eq_true, State.ecoConditions_iff]
    rintro ⟨-, hcalm⟩
    have hoff := hcalm.ignition
    rw [h] at hoff
    cases hoff
  exact s.ecoLegal_iff.2 ⟨by rw [hfails, h]; rfl, .of_run (by rw [h]; rfl)⟩

/-- The rule reads no port. -/
theorem State.EcoLegal.setPort {s : State} (h : s.EcoLegal) (p : Port) (x : PortState) : (s.setPort p x).EcoLegal := h

theorem State.RowEffect.ecoLegal {s t : State} (h : s.RowEffect t) (hs : s.EcoLegal) : t.EcoLegal := by
  cases h with
  | none => exact hs
  | event hrun hu => exact State.judgeEco_legal (hu.ecoCalm hs)
  | command p bytes hreply hl hu =>
    exact State.judgeEco_legal (.of_run (show _ = ScanMode.run from hu.mode (s.received_mode p)))
  | discarded p => exact State.judgeEco_legal (.of_run (State.frameReported_mode _))
  | partialFrame p => exact hs.setPort p _
  | gap p => exact hs.setPort p _
  | replyEnd p => exact hs.setPort p _
  | powerOn => exact State.ecoLegal_of_fresh rfl
  | resetLow => exact State.ecoLegal_of_fresh rfl
  | load => exact State.ecoLegal_of_fresh rfl
  | loaded =>
    rw [State.endLoad_eq, State.reportLoad_eq]
    exact State.ecoLegal_of_fresh rfl

theorem isSome_lower (n : Nat) (x : Option Nat) : (lower n x).isSome = x.isSome := Option.isSome_map

/-- A quantum leaves every running timer running (R109, R129). -/
theorem State.passTime_ecoLegal (hs : s.EcoLegal) : s.passTime.EcoLegal := by
  by_cases hrun : s.phase = .running
  · rw [State.passTime_running hrun]
    obtain ⟨hcountdown, hcalm⟩ := s.ecoLegal_iff.1 hs
    generalize hpassed : ({ s with restraint := { s.restraint with pso := s.restraint.pso.pass } } : State).passTimers = t
    have calm (h : s.Calm) : t.Calm := by
      subst hpassed
      exact ⟨h.ignition, (isSome_lower _ _).trans h.watching, (isSome_lower _ _).trans h.hold, h.capture, h.saveImage, h.deferred,
        h.reminders⟩
    have calm' (h : t.Calm) : s.Calm := by
      subst hpassed
      exact ⟨h.ignition, (isSome_lower _ _).symm.trans h.watching, (isSome_lower _ _).symm.trans h.hold, h.capture, h.saveImage,
        h.deferred, h.reminders⟩
    have hmode : t.vehicle.mode = s.vehicle.mode := by subst hpassed; rfl
    have heco : t.vehicle.eco.isSome = s.vehicle.eco.isSome := by subst hpassed; exact isSome_lower _ _
    have hconditions : t.ecoConditions = s.ecoConditions := by
      rw [Bool.eq_iff_iff, State.ecoConditions_iff, State.ecoConditions_iff, hmode]
      exact and_congr_right fun _ => ⟨calm', calm⟩
    exact t.ecoLegal_iff.2 ⟨by rw [heco, hconditions, hcountdown], fun h => calm (hcalm (hmode.symm.trans h))⟩
  · rw [State.passTime_reset hrun]
    exact hs

end

/-- Settles O58: every row ends with the countdown judged, and ECO is entered and kept only with nothing in flight. -/
theorem everyStepKeepsEcoLegal : Obligations.EveryStepKeepsEcoLegal := by
  unfold Obligations.EveryStepKeepsEcoLegal
  refine ⟨fun s t hs h => ?_, fun s => ⟨?_, Nat.mul_assoc _ 1000 8⟩⟩
  · rcases step_cases h with rfl | ⟨n, incoming, pending, u, hu, hrow⟩
    · exact s.passTime_ecoLegal hs
    · rcases hu with rfl | ⟨p, x, -, rfl⟩
      · exact hrow.ecoLegal hs
      · exact hrow.ecoLegal (State.EcoLegal.setPort (s := { s with freeCount := n, incoming := incoming, pending := pending }) hs p _)
  · rw [State.ecoConditions_iff]
    refine and_congr_right fun _ => ⟨fun h => ?_, fun ⟨h1, h2, h3, h4, h5, h6, h7⟩ => ?_⟩
    · exact ⟨h.ignition, Option.isNone_iff_eq_none.1 (Option.isSome_eq_false_iff.1 h.watching),
        Option.isNone_iff_eq_none.1 (Option.isSome_eq_false_iff.1 h.hold), h.capture, h.saveImage, h.deferred, h.reminders⟩
    · exact ⟨h1, by rw [State.watching, h2]; rfl, by rw [State.holdActive, h3]; rfl, h4, h5, h6, h7⟩

end Sys2Proof.Machine

/-! The positions' records at every step: loads and classes in range and in agreement, fits, capabilities and injections by their rules (R5,
R7, R72, R77, R132). -/

namespace Sys2Proof.Machine

/-! ## A walk at one of its positions -/

/-- A walk leaves of a position what its visit leaves, taken in a state that has the position's record and all that no visit changes. -/
theorem State.forPositions_at {f : Pos → State → State} (hf : ∀ (p : Pos) (s : State), s.OutcomeFrame (f p s) p) {ps : List Pos}
    (hnodup : ps.Nodup) {p : Pos} (hp : p ∈ ps) (s : State) :
    ∃ u : State, u.pos p = s.pos p ∧ s.outcomeBack u = s ∧ (s.forPositions ps f).pos p = (f p u).pos p := by
  induction ps generalizing s with
  | nil => cases hp
  | cons q ps ih =>
    obtain ⟨hq, hrest⟩ := List.nodup_cons.1 hnodup
    by_cases h : p = q
    · subst q
      exact ⟨s, rfl, rfl, State.forPositions_outcome_pos hf ps (f p s) p hq⟩
    · obtain ⟨u, hpos, hback, hwalk⟩ := ih hrest ((List.mem_cons.1 hp).resolve_left h) (f q s)
      exact ⟨u, hpos.trans ((hf q s).others p h), (congrArg s.outcomeBack hback).trans (hf q s).rest, hwalk⟩

theorem State.config_of_outcomeBack {s u : State} (h : s.outcomeBack u = s) : u.config = s.config := (congrArg State.config h :)

theorem State.stagedPositions_nodup (s : State) : s.stagedPositions.Nodup := allPos_nodup.filter _

/-! ## The rules of one record -/

/-- A position's record is legal where its entry is enabled or not. -/
structure PosRec.Legal (r : PosRec) (enabled : Bool) : Prop where
  load : r.load.Legal
  cls : r.cls.Legal
  caps : r.CapLegal enabled

theorem State.records_iff (s : State) : s.RecordsLegal ∧ s.CapabilitiesLegal ↔ ∀ p, (s.pos p).Legal (s.entry p).enabled :=
  ⟨fun ⟨h, k⟩ p => ⟨(h p).1, (h p).2, k p⟩, fun h => ⟨fun p => ⟨(h p).load, (h p).cls⟩, fun p => (h p).caps⟩⟩

/-- The rules do not read the reminder and the watched flag. -/
theorem PosRec.Legal.congr {r x : PosRec} {enabled : Bool} (h : r.Legal enabled)
    (hx : { x with reminder := r.reminder, watched := r.watched } = r) : x.Legal enabled := by
  have hload : x.load = r.load := (congrArg PosRec.load hx :)
  have hcls : x.cls = r.cls := (congrArg PosRec.cls hx :)
  have hfit : x.fit = r.fit := (congrArg PosRec.fit hx :)
  have hchildCap : x.childCap = r.childCap := (congrArg PosRec.childCap hx :)
  have hbeltCap : x.beltCap = r.beltCap := (congrArg PosRec.beltCap hx :)
  have hchild : x.child = r.child := (congrArg PosRec.child hx :)
  have hbuckle : x.buckle = r.buckle := (congrArg PosRec.buckle hx :)
  have hinjection : x.injection = r.injection := (congrArg PosRec.injection hx :)
  obtain ⟨h1, h2, h3⟩ := h
  refine ⟨hload ▸ h1, hcls ▸ h2, ?_⟩
  unfold PosRec.CapLegal
  rw [hfit, hcls, hchildCap, hbeltCap, hinjection, hchild, hbuckle]
  exact h3

/-- A record that gets a legal class is legal where the position is enabled. -/
theorem PosRec.Legal.withClass {r x : PosRec} (h : r.Legal true) (hcls : x.cls.Legal)
    (hx : { x with cls := r.cls, reminder := r.reminder, watched := r.watched } = r) : x.Legal true := by
  have hother : ({ r with cls := x.cls } : PosRec).Legal true := ⟨h.load, hcls, (nomatch ·), h.caps.2⟩
  exact hother.congr (congrArg (fun y : PosRec => { y with cls := x.cls }) hx)

theorem ClassRec.changed_legal (c : ClassRec) {cls : OccClass} {cause : FaultCause} (h : cause = .none ↔ cls ≠ .fault) :
    (c.changed cls cause).Legal := ⟨Nat.zero_le _, fun _ => rfl, h⟩

/-- A quiet change keeps a record legal. -/
theorem PosRec.Quiet.legal {held : Bool} {r x : PosRec} (h : r.Quiet held x) {enabled : Bool} (hr : r.Legal enabled) :
    x.Legal enabled := by
  obtain ⟨hdisabled, hmisfit, hchild, hbelt⟩ := hr.caps
  refine ⟨h.load hr.load, h.cls hr.cls, fun he => ?_, fun hf => ?_, fun hc => ?_, fun hb => ?_⟩
  · rw [h.fit, h.stable]; exact hdisabled he
  · rw [h.caps.1, h.caps.2, h.injection]; rw [h.fit] at hf; exact hmisfit hf
  · exact h.child hchild (h.caps.1.symm.trans hc)
  · rw [h.buckle]; exact hbelt (h.caps.2.symm.trans hb)

/-! ## Capabilities -/

/-- A record with another reminder. -/
def PosRec.withReminder (r : PosRec) (x : ReminderRec) : PosRec := { r with reminder := x }

theorem PosRec.eq_withReminder {r x : PosRec} (h : x = r) : x = r.withReminder x.reminder := by
  subst h
  rfl

section
variable (s : State) (p : Pos)

/-- The belt capability lost: the belt record is cleared, and the reminder may move (R91). -/
theorem State.loseBelt_pos : (s.loseBelt p).pos p =
    ({ s.pos p with buckle := .cleared } : PosRec).withReminder ((s.loseBelt p).pos p).reminder := by
  have hcleared : (s.modPos p fun r => { r with buckle := .cleared }).pos p = { s.pos p with buckle := .cleared } := by
    rw [State.pos_modPos, if_pos rfl]
  unfold State.loseBelt
  extract_lets r cleared
  split
  · have hown := ((cleared.postBelt p).evaluate_frame p).own
    have hposted : (cleared.postBelt p).pos p = { s.pos p with buckle := .cleared } := hcleared
    generalize ((cleared.postBelt p).evaluate p).pos p = x at hown ⊢
    rw [hposted] at hown
    exact (congrArg (fun y : PosRec => { y with reminder := x.reminder }) hown :)
  · exact PosRec.eq_withReminder hcleared

/-- The child-seat capability in effect that the map flag and the node's slot give a position (R7). -/
def State.childCapNow (s : State) (p : Pos) : Bool :=
  (s.pos p).fit = .fits && (s.entry p).childCapable && ((s.boundNode p).slotCaps (s.entry p).slot).1

/-- The belt capability in effect that the map flag and the node's slot give a position (R7). -/
def State.beltCapNow (s : State) (p : Pos) : Bool :=
  (s.pos p).fit = .fits && (s.entry p).beltSensed && ((s.boundNode p).slotCaps (s.entry p).slot).2

/-- A record with its capabilities in effect computed anew, and what rested on a lost one cleared (R7, R68, R91). -/
def PosRec.capped (r : PosRec) (child belt : Bool) : PosRec :=
  { r with
    childCap := child, beltCap := belt, child := if r.childCap && !child then .cleared else r.child
    buckle := if r.beltCap && !belt then .cleared else r.buckle }

/-- The state with the capabilities of a position computed anew, before a lost belt capability is acted on. -/
def State.capped (s : State) (p : Pos) : State :=
  s.modPos p fun x =>
    { x with
      childCap := s.childCapNow p, beltCap := s.beltCapNow p
      child := if (s.pos p).childCap && !s.childCapNow p then .cleared else x.child }

theorem State.recompute_eq :
    s.recompute p = if (s.pos p).beltCap && !s.beltCapNow p then (s.capped p).loseBelt p else s.capped p := rfl

theorem State.capped_pos : (s.capped p).pos p =
    { s.pos p with
      childCap := s.childCapNow p, beltCap := s.beltCapNow p
      child := if (s.pos p).childCap && !s.childCapNow p then .cleared else (s.pos p).child } := by
  rw [State.capped, State.pos_modPos, if_pos rfl]

theorem State.recompute_pos : (s.recompute p).pos p =
    ((s.pos p).capped (s.childCapNow p) (s.beltCapNow p)).withReminder ((s.recompute p).pos p).reminder := by
  rw [State.recompute_eq]
  unfold PosRec.capped
  cases hlost : (s.pos p).beltCap && !s.beltCapNow p with
  | true =>
    have hlose := (s.capped p).loseBelt_pos p
    rw [s.capped_pos] at hlose
    exact hlose
  | false => exact PosRec.eq_withReminder (s.capped_pos p)

/-- A record with its fit set, before the capabilities follow (R5, R44, R132). -/
def PosRec.fitted (r : PosRec) (fit : FitState) : PosRec :=
  { r with
    fit := fit, load := if fit = .fits ∧ r.fit ≠ .fits then .cleared else r.load
    injection := if fit = .fits then r.injection else none }

/-- The state with a position's fit set, before the capabilities follow. -/
def State.fitted (s : State) (p : Pos) (fit : FitState) : State := s.modPos p fun r => r.fitted fit

theorem State.setFit_eq (fit : FitState) : s.setFit p fit = (s.fitted p fit).recompute p := by
  unfold State.setFit State.fitted State.modPos
  rfl

theorem State.fitted_pos (fit : FitState) : (s.fitted p fit).pos p = (s.pos p).fitted fit := by
  rw [State.fitted, State.pos_modPos, if_pos rfl]

theorem State.setFit_pos (fit : FitState) : (s.setFit p fit).pos p =
    (((s.pos p).fitted fit).capped ((s.fitted p fit).childCapNow p) ((s.fitted p fit).beltCapNow p)).withReminder
      ((s.setFit p fit).pos p).reminder := by
  have h := (s.fitted p fit).recompute_pos p
  rw [s.fitted_pos] at h
  rw [State.setFit_eq]
  exact h

end

/-- Capabilities computed anew keep a record legal, where a position without a fit gets none. -/
theorem PosRec.capped_legal {r : PosRec} {enabled child belt : Bool} (hload : r.load.Legal) (hcls : r.cls.Legal)
    (hdisabled : enabled = false → r.fit = .unchecked ∧ r.cls.stable = .absent) (hinjection : r.fit ≠ .fits → r.injection = none)
    (hchild : r.childCap = false → r.child = .cleared) (hbelt : r.beltCap = false → r.buckle = .cleared)
    (hnone : r.fit ≠ .fits → child = false ∧ belt = false) : (r.capped child belt).Legal enabled := by
  refine ⟨hload, hcls, hdisabled, fun hf => ⟨(hnone hf).1, (hnone hf).2, hinjection hf⟩, fun hc => ?_, fun hb => ?_⟩
  · have hc : child = false := hc
    subst hc
    show (if r.childCap && !false then ChildRec.cleared else r.child) = .cleared
    cases h : r.childCap with
    | true => rfl
    | false => exact hchild h
  · have hb : belt = false := hb
    subst hb
    show (if r.beltCap && !false then BeltRec.cleared else r.buckle) = .cleared
    cases h : r.beltCap with
    | true => rfl
    | false => exact hbelt h

theorem PosRec.Legal.reminded {r : PosRec} {enabled : Bool} (h : r.Legal enabled) (x : ReminderRec) :
    (r.withReminder x).Legal enabled := h.congr rfl

section
variable (s : State) (p : Pos)

theorem State.capsNow_of_misfit (h : (s.pos p).fit ≠ .fits) : s.childCapNow p = false ∧ s.beltCapNow p = false := by
  simp [State.childCapNow, State.beltCapNow, h]

theorem State.recompute_legal {enabled : Bool} (h : (s.pos p).Legal enabled) : ((s.recompute p).pos p).Legal enabled := by
  obtain ⟨hload, hcls, hdisabled, hmisfit, hchild, hbelt⟩ := h
  rw [State.recompute_pos]
  exact (PosRec.capped_legal hload hcls hdisabled (fun hf => (hmisfit hf).2.2) hchild hbelt (s.capsNow_of_misfit p)).reminded _

theorem State.setFit_legal (h : (s.pos p).Legal true) (fit : FitState) : ((s.setFit p fit).pos p).Legal true := by
  obtain ⟨hload, hcls, -, -, hchild, hbelt⟩ := h
  have hnone : ((s.pos p).fitted fit).fit ≠ .fits →
      (s.fitted p fit).childCapNow p = false ∧ (s.fitted p fit).beltCapNow p = false := by
    rw [← s.fitted_pos]
    exact (s.fitted p fit).capsNow_of_misfit p
  have hfilter : ((s.pos p).fitted fit).load.Legal := by
    show (if fit = .fits ∧ (s.pos p).fit ≠ .fits then LoadRec.cleared else (s.pos p).load).Legal
    split
    · exact ⟨Nat.zero_le _, Nat.zero_le _, Nat.zero_le _, Nat.zero_le _, Nat.zero_le _⟩
    · exact hload
  rw [State.setFit_pos]
  exact (PosRec.capped_legal hfilter hcls (enabled := true) (nomatch ·) (fun hf => if_neg hf) hchild hbelt hnone).reminded _

end

/-! ## The rules of all records -/

/-- Every position's record is legal. -/
def State.Recorded (s : State) : Prop := ∀ p, (s.pos p).Legal (s.entry p).enabled

section
variable {s t : State}

theorem State.Recorded.of_positions (hs : s.Recorded) (h : t.positions = s.positions) (hmap : t.config.map = s.config.map) :
    t.Recorded := fun p => by
  rw [State.pos, h, State.entry, hmap]
  exact hs p

/-- Records that changed in reminder and watched flag alone. -/
theorem State.Recorded.reminded (hs : s.Recorded)
    (h : ∀ p, { t.pos p with reminder := (s.pos p).reminder, watched := (s.pos p).watched } = s.pos p)
    (hmap : t.config.map = s.config.map) : t.Recorded := fun p => by
  rw [State.entry, hmap]
  exact (hs p).congr (h p)

/-- An operation at a position that leaves its record legal. -/
theorem State.OutcomeFrame.recorded {p : Pos} (h : s.OutcomeFrame t p) (hs : s.Recorded) (hp : (t.pos p).Legal (s.entry p).enabled) :
    t.Recorded := fun q => by
  rw [h.entry]
  by_cases hq : q = p
  · subst q; exact hp
  · rw [h.others q hq]; exact hs q

theorem State.ReminderFrame.sameRecord {p : Pos} (h : s.ReminderFrame t p) :
    { t.pos p with reminder := (s.pos p).reminder, watched := (s.pos p).watched } = s.pos p := by
  have hown := congrArg (fun r : PosRec => { r with watched := (s.pos p).watched }) h.own
  exact hown

/-- An operation of the reminder machine keeps the records legal. -/
theorem State.ReminderFrame.recorded {p : Pos} (h : s.ReminderFrame t p) (hs : s.Recorded) : t.Recorded :=
  h.outcome.recorded hs ((hs p).congr h.sameRecord)

end

/-! ## Operations of the scanner, the pipeline and the Classifier -/

section
variable (s : State) (p : Pos)

theorem State.changeClass_legal {r : Bool} (d : Bool) {cls : OccClass} {cause : FaultCause} (hc : cause = .none ↔ cls ≠ .fault)
    (hr : r = true) (h : (s.pos p).Legal r) : ((s.changeClass d cls cause p).pos p).Legal r := by
  subst hr
  refine h.withClass ?_ (s.changeClass_keeps d p cls cause)
  rw [State.changeClass_cls]
  exact ClassRec.changed_legal _ hc

theorem State.takeBuckle_legal {r : Bool} (x : SlotSample) (h : (s.pos p).Legal r) : ((s.takeBuckle p x).pos p).Legal r := by
  have hpos : (s.buckleTaken p x).pos p = { s.pos p with buckle := (s.pos p).buckled x } := by
    have htaken : (s.modPos p fun r => { r with buckle := (s.pos p).buckled x }).pos p =
        { s.pos p with buckle := (s.pos p).buckled x } := by rw [State.pos_modPos, if_pos rfl]
    unfold State.buckleTaken
    simp only
    split
    · exact htaken
    · exact htaken
  have hbuckled : ((s.buckleTaken p x).pos p).Legal r := by
    rw [hpos]
    obtain ⟨hload, hcls, hdisabled, hmisfit, hchild, -⟩ := h
    exact ⟨hload, hcls, hdisabled, hmisfit, hchild, fun hcap => if_neg (by rw [show (s.pos p).beltCap = false from hcap]; decide)⟩
  rw [State.takeBuckle_eq]
  exact hbuckled.congr ((s.buckleTaken p x).evaluate_frame p).sameRecord

end

theorem State.Deed.recorded {s t : State} (h : s.Deed t) (hs : s.Recorded) : t.Recorded := by
  cases h with
  | scan c n => exact hs
  | post q k n v => exact hs
  | quiet p f h =>
    refine (s.modPos_outcome p f).recorded hs ?_
    rw [State.pos_modPos, if_pos rfl]
    exact h.legal (hs p)
  | change p cls cause hh he hc =>
    exact (s.changeClass_outcome true cls cause p).recorded hs (s.changeClass_legal p true hc he (hs p))
  | buckle p x => exact (s.takeBuckle_outcome p x).recorded hs (s.takeBuckle_legal p x (hs p))
  | fit p fit he =>
    refine (s.setFit_reminds p fit).frame.recorded hs ?_
    have hp := hs p
    rw [he] at hp ⊢
    exact s.setFit_legal p hp fit
  | evaluate p => exact (s.evaluate_frame p).recorded hs
  | count p =>
    refine (s.countScan_reminds p).frame.recorded hs ?_
    unfold State.countScan
    extract_lets r
    have hcounted (x : ReminderRec) : ((s.setReminder p x).pos p).Legal (s.entry p).enabled := by
      rw [State.setReminder, State.pos_modPos, if_pos rfl]
      exact (hs p).congr rfl
    split
    · split
      · exact hcounted _
      · exact hcounted _
    · exact hs p
  | wake => exact (s.wake_outcome 0).recorded hs (by rw [s.wake_pos]; exact hs 0)
  | abort r => exact (s.abortCapture_outcome r 0).recorded hs (by rw [s.abortCapture_pos]; exact hs 0)
  | take p x => exact (s.captureTake_outcome p x).recorded hs (by rw [s.captureTake_pos]; exact hs p)

/-! ## Commits -/

section
variable (s : State) (p : Pos)

/-- The record effects leave the record legal for the new entry where it was for the old one. -/
theorem State.recordEffects_legal (old : PerPos MapEntry) (h : (s.pos p).Legal (old.get p).enabled) :
    ((s.recordEffects old p).pos p).Legal (s.entry p).enabled := by
  unfold State.recordEffects
  split
  next hmoved =>
    rw [State.resetRecord_pos]
    obtain ⟨hload, hcls, hcaps⟩ := PosRec.fresh_legal (s.entry p).enabled ((s.pos p).cls.sequence + 1)
    exact ⟨hload, hcls, hcaps⟩
  next hkept =>
    have henabled : (old.get p).enabled = (s.entry p).enabled := by
      simp only [MapEntry.moved, Bool.or_eq_true, not_or, decide_eq_true_eq, not_not] at hkept
      exact hkept.1
    rw [henabled] at h
    unfold State.keepRecord
    extract_lets changed
    have hchanged : (changed.pos p).Legal (s.entry p).enabled := by
      show (State.pos (if _ then _ else _) p).Legal _
      split
      · exact s.recompute_legal p h
      · exact h
    split
    · exact hchanged.congr (changed.moveReminder_frame p _ _).sameRecord
    · exact hchanged

theorem State.fitClass_legal (leaves : Bool) (fit : FitState) (h : (s.pos p).Legal true) :
    ((s.fitClass p leaves fit).pos p).Legal true := by
  have direct (x : Direct) (hx : x.cause = .none ↔ x.cls ≠ .fault) : ((s.applyDirect false x p).pos p).Legal true := by
    rw [State.applyDirect_eq]
    have hcleared : ((s.markCleared p).pos p).Legal true := h.withClass (by rw [State.markCleared_cls]; exact h.cls) (State.markCleared_classifies false s p).keeps
    split
    · exact hcleared
    · exact State.changeClass_legal _ p false hx rfl hcleared
  cases fit with
  | misfit => exact direct _ (by decide)
  | noSlot => exact direct _ (by decide)
  | fits =>
    unfold State.fitClass
    simp only
    split
    · refine h.withClass ?_ (State.returnUnresolved_classifies false s p).keeps
      rw [State.returnUnresolved_cls]
      exact ⟨Nat.zero_le _, fun _ => rfl, by simp [ClassRec.returned]⟩
    · exact h
  | unchecked => exact h

theorem State.finishFit_legal (old : PerPos MapEntry) {enabled : Bool} (he : (s.entry p).enabled = enabled)
    (h : (s.pos p).Legal enabled) : ((s.finishFit old p).pos p).Legal enabled := by
  rw [State.finishFit_eq]
  split
  next hrefits =>
    have hon : enabled = true := by
      rw [← he]
      exact (Bool.and_eq_true_iff.1 hrefits).1
    subst hon
    exact State.fitClass_legal _ p _ _ (s.setFit_legal p h _)
  · exact s.recompute_legal p h

theorem State.Recorded.applyStaged {s : State} (hs : s.Recorded) : s.applyStaged.Recorded := by
  have hconfig : s.applyStaged.config = s.walked.config := s.applyStaged_map.trans s.walked_touches.config.symm
  refine State.Recorded.of_positions (s := s.walked) ?_ s.applyStaged_positions (congrArg LiveConfig.map hconfig)
  have heffects : (s.mapped.forPositions s.stagedPositions (State.recordEffects s.config.map)).Recorded := by
    have hframe := State.forPositions_outcome (fun p s => State.recordEffects_outcome s p _) s.stagedPositions s.mapped
      (f := State.recordEffects s.config.map)
    intro q
    rw [State.entry, State.config_of_outcomeBack hframe]
    by_cases hq : q ∈ s.stagedPositions
    · obtain ⟨u, hpos, hback, hwalk⟩ := State.forPositions_at (f := State.recordEffects s.config.map)
        (fun p u => u.recordEffects_outcome p _) s.stagedPositions_nodup hq s.mapped
      have hconfig : u.config = s.mapped.config := State.config_of_outcomeBack hback
      rw [hwalk, ← show u.entry q = s.mapped.config.map.get q by rw [State.entry, hconfig]]
      refine u.recordEffects_legal q s.config.map ?_
      rw [hpos]
      exact hs q
    · rw [State.forPositions_outcome_pos (fun p s => State.recordEffects_outcome s p _) s.stagedPositions s.mapped q hq]
      have hunstaged : s.staging.holds q = false := by simpa [State.mem_stagedPositions] using hq
      have hentry : s.mapped.entry q = s.entry q := (s.stagedMap_get q).trans (State.swapSource_unstaged hunstaged)
      show (s.pos q).Legal (s.mapped.entry q).enabled
      rw [hentry]
      exact hs q
  have hfits := State.forPositions_keeps (P := State.Recorded) (f := State.finishFit s.config.map)
    (fun p u hu => (u.finishFit_reminds p _).frame.recorded hu (u.finishFit_legal p _ rfl (hu p))) s.stagedPositions _ heffects
  exact State.forPositions_keeps (P := State.Recorded) (f := fun p s => s.evaluate p)
    (fun p u hu => (u.evaluate_frame p).recorded hu) s.stagedPositions _ hfits

theorem State.Recorded.applyDeferred {s : State} (hs : s.Recorded) : s.applyDeferred.Recorded := by
  by_cases h : s.staging.deferred = false ∨ ¬ s.gateOpen
  · rw [State.applyDeferred_waits h]; exact hs
  · obtain ⟨hd, hopen⟩ := not_or.1 h
    rw [State.applyDeferred_applies (by simpa using hd) (not_not.1 hopen)]
    have happlied := hs.applyStaged
    generalize s.applyStaged = t at happlied ⊢
    exact happlied

/-! ## Commands, events, rows and steps -/

/-- The rules do not ask for an injection. -/
theorem PosRec.Legal.uninjected {r : PosRec} {enabled : Bool} (h : r.Legal enabled) :
    ({ r with injection := none } : PosRec).Legal enabled := by
  obtain ⟨hload, hcls, hdisabled, hmisfit, hchild, hbelt⟩ := h
  exact ⟨hload, hcls, hdisabled, fun hf => ⟨(hmisfit hf).1, (hmisfit hf).2.1, rfl⟩, hchild, hbelt⟩

theorem State.Recorded.loseStandstill {s : State} (hs : s.Recorded) : s.loseStandstill.Recorded := by
  intro q
  have hmap : s.loseStandstill.config = s.config := (congrArg State.config s.loseStandstill_rest :)
  rw [s.loseStandstill_pos, State.entry, hmap]
  split
  · exact (hs q).uninjected
  · exact hs q

/-- A taken report keeps the records legal (R124). -/
theorem State.Recorded.reportTaken {s : State} (hs : s.Recorded) (i : Ignition) (speed : Nat) (g : Gear) (d : Door) :
    (s.reportTaken i speed g d).Recorded := by
  unfold State.reportTaken
  extract_lets stored
  unfold State.forAll
  have hstored : stored.Recorded := hs
  have hlost : (if s.standstill && !stored.standstill then stored.loseStandstill else stored).Recorded := by
    split
    · exact hstored.loseStandstill
    · exact hstored
  generalize (if s.standstill && !stored.standstill then stored.loseStandstill else stored) = u at hlost ⊢
  have hwatched : (u.watchReport s.vehicle.ignition).Recorded := hlost.reminded
    (fun q => by rw [u.watchReport_pos]) (congrArg (fun x : State => x.config.map) (u.watchReport_rest s.vehicle.ignition) :)
  exact State.forPositions_keeps (P := State.Recorded) (f := fun p s => s.evaluate p)
    (fun p u hu => (u.evaluate_frame p).recorded hu) allPos _ hwatched

theorem State.CommandEffect.recorded {s t : State} (h : s.CommandEffect t) (hs : s.Recorded) : t.Recorded := by
  have same {t : State} (h : t.positions = s.positions) (hm : t.config.map = s.config.map) : t.Recorded := hs.of_positions h hm
  cases h with
  | none => exact hs
  | clearOverflow p => exact hs
  | readNotice p n rest h => exact hs
  | hold =>
    rw [State.startHold_eq]
    have hrest := State.abortCapture_rest .locked { s with restraint := s.heldRestraint }
    exact same (congrArg State.positions hrest :) (congrArg (fun u : State => u.config.map) hrest :)
  | endHold h => exact State.Recorded.applyDeferred (s := s.unheld) hs
  | restraint g h => exact hs
  | report i speed g d =>
    rw [State.takeReport_eq]
    exact (hs.reportTaken i speed g d).applyDeferred
  | confirm p =>
    refine (s.modPos_outcome p _).recorded hs ?_
    rw [State.pos_modPos, if_pos rfl]
    exact (hs p).reminded _
  | mute ps =>
    refine State.forPositions_keeps (P := State.Recorded) (fun p u hu => ?_) ps s hs
    unfold State.muteOne
    split
    · exact (u.moveReminder_frame p _ _).recorded hu
    · exact hu
  | dismiss => exact hs.reminded (fun q => by rw [s.endWatch_pos]) rfl
  | stage p e he hd => exact hs
  | swap p q hd => exact hs
  | discard => exact hs
  | commit hh hm => exact hs.applyStaged
  | defer hm => exact hs
  | capture p => exact hs
  | profile i x h => exact hs
  | settings x h => exact hs
  | save => exact hs
  | testOn =>
    unfold State.testOn
    split
    · exact hs
    · exact hs
  | testOff =>
    cases h : s.vehicle.testMode with
    | false => rw [State.testOff_off h]; exact hs
    | true =>
      rw [State.testOff_on h]
      intro q
      rw [s.endTestMode_pos]
      exact (hs q).uninjected
  | inject p x h =>
    refine (s.modPos_outcome p _).recorded hs ?_
    rw [State.pos_modPos, if_pos rfl]
    obtain ⟨hload, hcls, hdisabled, hmisfit, hchild, hbelt⟩ := hs p
    refine ⟨hload, hcls, hdisabled, fun hf => ⟨(hmisfit hf).1, (hmisfit hf).2.1, ?_⟩, hchild, hbelt⟩
    exact Option.not_isSome_iff_eq_none.1 fun hx => hf (h hx)
  | reset => exact hs

theorem State.EventEffect.recorded {s t : State} (h : s.EventEffect t) (hs : s.Recorded) : t.Recorded := by
  have chain {t : State} (h : s.Deeds t) : t.Recorded := State.Deeds.keeps (fun _ _ k hu => k.recorded hu) h hs
  cases h with
  | none => exact hs
  | scan => exact chain s.beginScan_deeds
  | exchange l chars => exact chain (State.endExchange_deeds l s chars)
  | tick =>
    refine hs.reminded (fun q => ?_) rfl
    have hpos : s.lowerReminders.pos q = (s.pos q).tick (s.entry q).reminderClass := PerPos.get_ofFn _ q
    rw [hpos]
    unfold PosRec.tick
    split <;> rfl
  | grace p h => exact (s.enterVisual_frame p).recorded hs
  | visual p h => exact (s.enterAudible_frame p).recorded hs
  | audible p h => exact (s.moveReminder_frame p _ _).recorded hs
  | hold h => exact State.Recorded.applyDeferred (s := s.holdLapsed) hs
  | stale =>
    unfold State.goStale
    simp only
    split
    · exact State.Recorded.loseStandstill (s := s.stale) hs
    · exact hs
  | watch h =>
    exact hs.reminded (fun q => by rw [s.judgeWatch_pos]) (congrArg (fun u : State => u.config.map) s.judgeWatch_rest :)
  | eco h => exact hs
  | age p => exact hs
  | save readBack =>
    cases h : s.saveImage with
    | none => rw [State.endSave_idle _ h]; exact hs
    | some image =>
      rw [State.endSave_inFlight _ h]
      refine State.Recorded.applyDeferred ?_
      exact hs

theorem State.recorded_of_fresh {s : State} (h : ∀ q, s.pos q = .fresh (s.entry q).enabled 0) : s.Recorded := fun q => by
  rw [h]
  obtain ⟨hload, hcls, hcaps⟩ := PosRec.fresh_legal (s.entry q).enabled 0
  exact ⟨hload, hcls, hcaps⟩

theorem State.frameReported_recorded {s : State} (hs : s.Recorded) : s.frameReported.Recorded :=
  hs.of_positions (congrArg State.positions (s.putBack_frameReported s) :) s.frameReported_keepsReminders.map

theorem State.RowEffect.recorded {s t : State} (h : s.RowEffect t) (hs : s.Recorded) : t.Recorded := by
  cases h with
  | none => exact hs
  | event hrun hu => exact hu.recorded hs
  | command p bytes hreply hl hu =>
    have hreceived : (s.received p).Recorded :=
      State.frameReported_recorded (s := s.setPort p { s.port p with assembler := .idle }) hs
    exact hu.recorded hreceived
  | discarded p =>
    have hreported : (s.discardFrame p).Recorded :=
      State.frameReported_recorded (s := s.setPort p { (s.port p).countDrop with assembler := .discarding }) hs
    exact hreported
  | partialFrame p => exact hs
  | gap p => exact hs
  | replyEnd p => exact hs
  | powerOn => exact State.recorded_of_fresh s.clearBlocks_pos
  | resetLow => exact State.recorded_of_fresh s.clearBlocks_pos
  | load => exact State.recorded_of_fresh s.clearBlocks_pos
  | loaded =>
    have hpos (q : Pos) := State.clearBlocks_pos
      { s with config := loadedConfig (checkStore s.store), configState := loadedState (checkStore s.store) } q
    rw [State.endLoad_eq, State.reportLoad_eq]
    exact State.recorded_of_fresh hpos

theorem State.passTime_recorded (hs : s.Recorded) : s.passTime.Recorded := by
  have hrest : s.passTime.positions = s.positions ∧ s.passTime.config.map = s.config.map := by
    unfold State.passTime
    simp only
    split <;> exact ⟨rfl, rfl⟩
  exact hs.of_positions hrest.1 hrest.2

end

/-- Settles O55: a record is changed by few kinds of operation, and each of them keeps its rules. -/
theorem everyStepKeepsRecordsLegal : Obligations.EveryStepKeepsRecordsLegal := by
  unfold Obligations.EveryStepKeepsRecordsLegal
  intro s t hrecords hcaps h
  have hs : s.Recorded := s.records_iff.1 ⟨hrecords, hcaps⟩
  rw [State.records_iff]
  rcases step_cases h with rfl | ⟨n, incoming, pending, u, hu, hrow⟩
  · exact s.passTime_recorded hs
  · rcases hu with rfl | ⟨p, x, -, rfl⟩
    · exact hrow.recorded hs
    · exact hrow.recorded hs

end Sys2Proof.Machine

/-! The stages of a commit at a staged position: what they leave alone, and what the safety port hears of them (R14 to R16, R80). -/

namespace Sys2Proof.Machine

/-! ## What a stage leaves alone -/

/-- t with the positions, the ports and the eco countdown of s put back. -/
def State.stageBack (s t : State) : State :=
  { t with positions := s.positions, ports := s.ports, vehicle := { t.vehicle with eco := s.vehicle.eco } }

/-- The eco countdown of t is that of s, or that one started again from full. -/
def State.EcoGoesOn (s t : State) : Prop :=
  t.vehicle.eco = s.vehicle.eco ∨ t.vehicle.eco = s.vehicle.eco.map fun _ => s.ecoFull

/-- A stage of a commit: nothing changes but the positions, the safety and the cabin port, and a running countdown, and the safety
port receives class notices of some positions alone. -/
structure State.Stages (s t : State) (ps : List Pos) : Prop where
  rest : s.stageBack t = s
  eco : s.EcoGoesOn t
  service : t.port .service = s.port .service
  others : ∀ q, q ∉ ps → t.pos q = s.pos q
  safety : ∃ n, Received (fun k m => ∃ p ∈ ps, ClassNotice p k m) (s.port .safety).queue n (t.port .safety).queue

theorem State.Stages.refl (s : State) (ps : List Pos) : s.Stages s ps := ⟨rfl, .inl rfl, rfl, fun _ _ => rfl, 0, .refl 0⟩

section
variable {s t u : State} {ps : List Pos}

theorem State.Stages.ecoFull (h : s.Stages t ps) : t.ecoFull = s.ecoFull := (congrArg State.ecoFull h.rest :)

theorem State.Stages.trans (h : s.Stages t ps) (k : t.Stages u ps) : s.Stages u ps := by
  refine ⟨(congrArg s.stageBack k.rest).trans h.rest, ?_, k.service.trans h.service, fun q hq => (k.others q hq).trans (h.others q hq), ?_⟩
  · have hfull := h.ecoFull
    unfold State.EcoGoesOn
    rcases k.eco with hk | hk <;> rcases h.eco with hh | hh <;> rw [hk, hh]
    · exact .inl rfl
    · exact .inr rfl
    · exact .inr (by rw [hfull])
    · exact .inr (by rw [hfull, Option.map_map]; rfl)
  · obtain ⟨n, hn⟩ := h.safety
    obtain ⟨m, hm⟩ := k.safety
    exact ⟨_, hn.trans hm⟩

theorem State.Stages.mono {qs : List Pos} (h : s.Stages t ps) (hps : ∀ p ∈ ps, p ∈ qs) : s.Stages t qs := by
  obtain ⟨n, hn⟩ := h.safety
  refine ⟨h.rest, h.eco, h.service, fun q hq => h.others q fun hp => hq (hps q hp), n, hn.mono (fun k m hk => ?_) le_rfl⟩
  obtain ⟨p, hp, hnotice⟩ := hk
  exact ⟨p, hps p hp, hnotice⟩

theorem State.Stages.ite {c : Prop} [Decidable c] (h : s.Stages t ps) (k : s.Stages u ps) : s.Stages (if c then t else u) ps := by
  split
  · exact h
  · exact k

/-- A stage after which another is taken or not. -/
theorem State.Stages.ite_trans {c : Prop} [Decidable c] (h : s.Stages t ps) (k : t.Stages u ps) :
    s.Stages (if c then u else t) ps := .ite (h.trans k) h

section
variable (h : s.Stages t ps)
include h

theorem State.Stages.config : t.config = s.config := (congrArg State.config h.rest :)
theorem State.Stages.staging : t.staging = s.staging := (congrArg State.staging h.rest :)
theorem State.Stages.capture : t.capture = s.capture := (congrArg State.capture h.rest :)
theorem State.Stages.scanner : t.scanner = s.scanner := (congrArg State.scanner h.rest :)
theorem State.Stages.restraint : t.restraint = s.restraint := (congrArg State.restraint h.rest :)
theorem State.Stages.vehicle : { t.vehicle with eco := s.vehicle.eco } = s.vehicle := (congrArg State.vehicle h.rest :)

theorem State.Stages.entry (q : Pos) : t.entry q = s.entry q := by rw [State.entry, h.config, State.entry]

theorem State.Stages.node (l : Line) (a : Fin 6) : t.node l a = s.node l a := by rw [State.node, h.scanner, State.node]

end

/-- An operation of the reminder machine. -/
theorem State.ReminderFrame.stages {p : Pos} (h : s.ReminderFrame t p) : s.Stages t [p] := by
  have hsafety := State.port_of_reminderBack h.rest (q := .safety) (by decide)
  have hrest := congrArg s.stageBack h.rest
  refine ⟨hrest, .inl (congrArg Vehicle.eco h.vehicle), State.port_of_reminderBack h.rest (by decide), fun q hq =>
    h.others q fun hp => hq (by simp [hp]), 0, .of_eq (by rw [hsafety])⟩

/-- A walk of stages. -/
theorem State.forPositions_stages {f : Pos → State → State} (hf : ∀ (p : Pos) (s : State), s.Stages (f p s) [p]) (ps : List Pos)
    (s : State) : s.Stages (s.forPositions ps f) ps := by
  induction ps generalizing s with
  | nil => exact .refl s []
  | cons p ps ih =>
    have hp := (hf p s).mono (qs := p :: ps) (by simp)
    exact hp.trans ((ih (f p s)).mono fun q hq => List.mem_cons_of_mem p hq)

end

section
variable (s : State) (p : Pos)

theorem State.modPos_stages (f : PosRec → PosRec) : s.Stages (s.modPos p f) [p] := by
  refine ⟨rfl, .inl rfl, rfl, fun q hq => ?_, 0, .refl 0⟩
  rw [State.pos_modPos, if_neg (by simpa using hq)]

theorem State.post_cabin_stages (k : NoticeKind) (n : Nat) (v : Half) : s.Stages (s.post .cabin k n v) [p] :=
  ⟨rfl, .inl rfl, State.post_port_other _ _ _ _ _ (by decide), fun _ _ => rfl, 0,
    .of_eq (congrArg PortState.queue (State.post_port_other s .cabin k n v (q := .safety) (by decide)))⟩

theorem State.postClass_stages : s.Stages (s.postClass p) [p] := by
  have hsafety : s.Stages (s.post .safety .classChanged (posNumber p) (s.pos p).cls.payload) [p] :=
    ⟨rfl, .inl rfl, State.post_port_other _ _ _ _ _ (by decide), fun _ _ => rfl, 1,
      s.post_received .safety _ _ _ .safety fun _ => ⟨p, by simp, rfl, rfl⟩⟩
  exact hsafety.trans (State.post_cabin_stages _ p _ _ _)

theorem State.restartEco_stages : s.Stages s.restartEco [p] :=
  ⟨rfl, .inr rfl, rfl, fun _ _ => rfl, 0, .refl 0⟩

theorem State.changeClass_stages (cls : OccClass) (cause : FaultCause) : s.Stages (s.changeClass false cls cause p) [p] := by
  rw [State.changeClass_eq]
  have hposted : s.Stages (s.classPosted p cls cause) [p] := (s.modPos_stages p _).trans (State.postClass_stages _ p)
  have hraised : s.Stages (s.classRaised p cls cause) [p] := hposted.trans (State.evaluate_frame _ p).stages
  have hmarked : (s.classRaised p cls cause).Stages ((s.classRaised p cls cause).markWatched p) [p] :=
    .ite (State.modPos_stages _ p _) (.refl _ _)
  exact (hraised.trans hmarked).trans (State.restartEco_stages _ p)

theorem State.applyDirect_stages (x : Direct) : s.Stages (s.applyDirect false x p) [p] := by
  rw [State.applyDirect_eq]
  have hcleared : s.Stages (s.markCleared p) [p] := s.modPos_stages p _
  exact .ite hcleared (hcleared.trans (State.changeClass_stages _ p _ _))

theorem State.returnUnresolved_stages : s.Stages (s.returnUnresolved false p) [p] := by
  rw [State.returnUnresolved_eq]
  have hcleared : s.Stages (s.markCleared p) [p] := s.modPos_stages p _
  exact .ite (hcleared.trans (State.modPos_stages _ p _)) (hcleared.trans (State.changeClass_stages _ p _ _))

theorem State.loseBelt_stages : s.Stages (s.loseBelt p) [p] := by
  unfold State.loseBelt
  extract_lets r cleared
  have hcleared : s.Stages cleared [p] := s.modPos_stages p _
  exact .ite_trans hcleared ((cleared.post_cabin_stages p _ _ _).trans (State.evaluate_frame _ p).stages)

theorem State.recompute_stages : s.Stages (s.recompute p) [p] := by
  rw [State.recompute_eq]
  exact .ite_trans (s.modPos_stages p _) (State.loseBelt_stages _ p)

theorem State.setFit_stages (fit : FitState) : s.Stages (s.setFit p fit) [p] := by
  rw [State.setFit_eq]
  exact (s.modPos_stages p _).trans (State.recompute_stages _ p)

theorem State.resetRecord_stages : s.Stages (s.resetRecord p) [p] := by
  unfold State.resetRecord
  extract_lets old fresh told belted shown
  have hfresh : s.Stages fresh [p] := s.modPos_stages p fun _ => _
  have htold : s.Stages told [p] := hfresh.trans (fresh.postClass_stages p)
  have hbelted : s.Stages belted [p] := .ite_trans htold (State.post_cabin_stages _ p _ _ _)
  have hshown : s.Stages shown [p] := .ite_trans hbelted (State.post_cabin_stages _ p _ _ _)
  exact hshown.trans (shown.restartEco_stages p)

theorem State.keepRecord_stages (old : MapEntry) : s.Stages (s.keepRecord old p) [p] := by
  unfold State.keepRecord
  extract_lets changed
  have hchanged : s.Stages changed [p] := .ite (s.recompute_stages p) (.refl s _)
  exact .ite_trans hchanged (changed.moveReminder_frame p _ _).stages

theorem State.recordEffects_stages (old : PerPos MapEntry) : s.Stages (s.recordEffects old p) [p] :=
  .ite (s.resetRecord_stages p) (s.keepRecord_stages p _)

theorem State.fitClass_stages (leaves : Bool) (fit : FitState) : s.Stages (s.fitClass p leaves fit) [p] := by
  cases fit with
  | misfit => exact s.applyDirect_stages p _
  | noSlot => exact s.applyDirect_stages p _
  | fits => exact .ite (s.returnUnresolved_stages p) (.refl s _)
  | unchecked => exact .refl s _

theorem State.finishFit_stages (old : PerPos MapEntry) : s.Stages (s.finishFit old p) [p] := by
  rw [State.finishFit_eq]
  exact .ite ((s.setFit_stages p _).trans (State.fitClass_stages _ p _ _)) (s.recompute_stages p)

end

/-! ## The walks of a commit -/

section
variable (s : State)

/-- The state after the record effects of a commit. -/
def State.effected (s : State) : State := s.mapped.forPositions s.stagedPositions (State.recordEffects s.config.map)

/-- The state after the fits of a commit. -/
def State.refitted (s : State) : State := s.effected.forPositions s.stagedPositions (State.finishFit s.config.map)

theorem State.effected_stages : s.mapped.Stages s.effected s.stagedPositions :=
  State.forPositions_stages (fun p u => u.recordEffects_stages p _) _ _

theorem State.refitted_stages : s.effected.Stages s.refitted s.stagedPositions :=
  State.forPositions_stages (fun p u => u.finishFit_stages p _) _ _

theorem State.walked_stages : s.mapped.Stages s.walked s.stagedPositions :=
  (s.effected_stages.trans s.refitted_stages).trans
    (State.forPositions_stages (fun p u => (u.evaluate_frame p).stages) _ _)

end

end Sys2Proof.Machine

/-! A staged position's record after a commit, as a function of the record, the two entries and the node (R14 to R16). -/

namespace Sys2Proof.Machine

/-! ## Evaluations as a function -/

section
variable (r : ReminderRec) (rc : ReminderClass) (cls : OccClass) (belt : Belt) (v : Vehicle) (t : Settings)

/-- What starts an IDLE reminder (R94). -/
def reminderAsked : Prop :=
  (cls = .small || cls = .adult || cls = .booster) ∧ (belt = .unlatched || belt = .fault) ∧ rc ≠ .none ∧ v.ignition = .run ∧
    t.speedThreshold ≤ v.speed

/-- What ends a reminder in any step but IDLE (R95, R98). -/
def reminderEnded : Prop :=
  (!(belt = .unlatched || belt = .fault)) ∨ (!(cls = .small || cls = .adult || cls = .booster) ∧ cls ≠ .fault) ∨
    v.ignition ≠ .run ∨ rc = .none

variable {rc cls belt v t}

theorem not_reminderEnded_of_asked (h : reminderAsked rc cls belt v t) : ¬ reminderEnded rc cls belt v ∧ ¬ v.speed < t.speedThreshold := by
  obtain ⟨hcls, hbelt, hclass, hignition, hspeed⟩ := h
  refine ⟨?_, Nat.not_lt.2 hspeed⟩
  simp [reminderEnded, hbelt, hcls, hclass, hignition]

variable {r}

theorem ReminderRec.evaluated_idle (hstep : r.step = .idle) (h : ¬ reminderAsked rc cls belt v t) :
    r.evaluated rc cls belt v t = r := by
  unfold ReminderRec.evaluated
  exact (if_pos hstep).trans (if_neg h)

theorem ReminderRec.evaluated_ends (hstep : r.step ≠ .idle)
    (h : reminderEnded rc cls belt v ∨ (r.step = .grace ∧ v.speed < t.speedThreshold)) :
    r.evaluated rc cls belt v t = { r with step := .idle, timer := 0 } := by
  unfold ReminderRec.evaluated
  simp only
  rw [if_neg hstep, if_pos]
  unfold reminderEnded at h
  tauto

theorem ReminderRec.evaluated_stays (hstep : r.step ≠ .idle) (hends : ¬ reminderEnded rc cls belt v)
    (hslow : ¬ (r.step = .grace ∧ v.speed < t.speedThreshold)) (hdue : ¬ (r.step = .visual ∧ r.timer = 0 ∧ rc = .full ∧ cls ≠ .fault)) :
    r.evaluated rc cls belt v t = r := by
  unfold ReminderRec.evaluated
  simp only
  rw [if_neg hstep, if_neg, if_neg hdue]
  unfold reminderEnded at hends
  tauto

theorem ReminderRec.sounded_stays (h : ¬ reminderEnded rc cls belt v) :
    (ReminderRec.sounded t).evaluated rc cls belt v t = ReminderRec.sounded t := by
  have hstep : (ReminderRec.sounded t).step = .audible ∨ (ReminderRec.sounded t).step = .lapsed := by
    unfold ReminderRec.sounded ReminderRec.sounding
    simp only
    split
    · exact .inr rfl
    · exact .inl rfl
  refine ReminderRec.evaluated_stays ?_ h ?_ ?_ <;> rcases hstep with hstep | hstep <;> rw [hstep] <;> simp

/-- A reminder that is asked for starts with GRACE, or with what a grace time of 0 passes on to (R94, R95). -/
theorem ReminderRec.evaluated_starts (hstep : r.step = .idle) (h : reminderAsked rc cls belt v t) :
    r.evaluated rc cls belt v t = if t.graceTime = 0 then r.shown rc t else { r with step := .grace, timer := t.graceTime } := by
  unfold ReminderRec.evaluated
  exact (if_pos hstep).trans (if_pos h)

theorem ReminderRec.evaluated_due (hstep : r.step ≠ .idle) (hends : ¬ reminderEnded rc cls belt v)
    (hdue : r.step = .visual ∧ r.timer = 0 ∧ rc = .full ∧ cls ≠ .fault) : r.evaluated rc cls belt v t = .sounded t := by
  have hnot : ¬ (r.step = .grace ∧ v.speed < t.speedThreshold) := fun h => by rw [hdue.1] at h; exact nomatch h.1
  unfold reminderEnded at hends
  unfold ReminderRec.evaluated
  exact ((if_neg hstep).trans (if_neg (by tauto))).trans (if_pos hdue)

theorem ReminderRec.shown_stays (r : ReminderRec) (h : ¬ reminderEnded rc cls belt v) :
    (r.shown rc t).evaluated rc cls belt v t = r.shown rc t := by
  unfold ReminderRec.shown
  split
  · exact ReminderRec.sounded_stays h
  next hshown => exact ReminderRec.evaluated_stays (by simp) h (by simp) fun hdue => hshown ⟨hdue.2.1, hdue.2.2.1⟩

/-- An evaluation finds nothing more to do after another with the same inputs. -/
theorem ReminderRec.evaluated_evaluated (r : ReminderRec) :
    (r.evaluated rc cls belt v t).evaluated rc cls belt v t = r.evaluated rc cls belt v t := by
  by_cases hstep : r.step = .idle
  · by_cases hasked : reminderAsked rc cls belt v t
    · obtain ⟨hends, hslow⟩ := not_reminderEnded_of_asked hasked
      rw [ReminderRec.evaluated_starts hstep hasked]
      split
      · exact r.shown_stays hends
      · exact ReminderRec.evaluated_stays (by simp) hends (fun h => hslow h.2) (by simp)
    · rw [ReminderRec.evaluated_idle hstep hasked, ReminderRec.evaluated_idle hstep hasked]
  · by_cases hends : reminderEnded rc cls belt v ∨ (r.step = .grace ∧ v.speed < t.speedThreshold)
    · rw [ReminderRec.evaluated_ends hstep hends]
      refine ReminderRec.evaluated_idle rfl fun hasked => ?_
      obtain ⟨hnot, hslow⟩ := not_reminderEnded_of_asked hasked
      exact hends.elim hnot fun h => hslow h.2
    · obtain ⟨hnot, hslow⟩ := not_or.1 hends
      by_cases hdue : r.step = .visual ∧ r.timer = 0 ∧ rc = .full ∧ cls ≠ .fault
      · rw [ReminderRec.evaluated_due hstep hnot hdue, ReminderRec.sounded_stays hnot]
      · rw [ReminderRec.evaluated_stays hstep hnot hslow hdue, ReminderRec.evaluated_stays hstep hnot hslow hdue]

/-- A reminder in IDLE, with what the end of another leaves (R95, R98). -/
def ReminderRec.ended (r : ReminderRec) : ReminderRec := if r.step = .idle then r else { r with step := .idle, timer := 0 }

/-- Where belt or reminder class end every reminder, an evaluation leaves an ended one. -/
theorem ReminderRec.evaluated_of_none (r : ReminderRec) (h : belt = .none ∨ rc = .none) : r.evaluated rc cls belt v t = r.ended := by
  have hends : reminderEnded rc cls belt v := by
    rcases h with rfl | rfl
    · exact .inl rfl
    · exact .inr (.inr (.inr rfl))
  unfold ReminderRec.ended
  split
  next hstep => exact ReminderRec.evaluated_idle hstep fun hasked => (not_reminderEnded_of_asked hasked).1 hends
  next hstep => exact ReminderRec.evaluated_ends hstep (.inl hends)

theorem ReminderRec.ended_ended (r : ReminderRec) : r.ended.ended = r.ended := by
  unfold ReminderRec.ended
  split
  · rfl
  · rfl

/-- An evaluation reads ignition and speed of the report alone. -/
theorem ReminderRec.evaluated_congr (r : ReminderRec) {w : Vehicle} (hignition : w.ignition = v.ignition) (hspeed : w.speed = v.speed) :
    r.evaluated rc cls belt w t = r.evaluated rc cls belt v t := by
  unfold ReminderRec.evaluated
  rw [hignition, hspeed]

end

/-! ## The record as a function -/

/-- The capabilities in effect that an entry has with a node record at a fit (R7). -/
def MapEntry.capsWith (e : MapEntry) (n : NodeRec) (fit : FitState) : Bool × Bool :=
  (fit = .fits && e.childCapable && (n.slotCaps e.slot).1, fit = .fits && e.beltSensed && (n.slotCaps e.slot).2)

/-- A record with its capabilities in effect computed anew for an entry and a node (R7). -/
def PosRec.recapped (r : PosRec) (e : MapEntry) (n : NodeRec) : PosRec :=
  r.capped (e.capsWith n r.fit).1 (e.capsWith n r.fit).2

/-- A class record after a fit decided again at a commit (R16). -/
def ClassRec.refitted (c : ClassRec) (leaves : Bool) : FitState → ClassRec
  | .misfit => c.directed .fault .misfit
  | .noSlot => c.directed .fault .noSlot
  | .fits => if leaves then c.returned else c
  | .unchecked => c

/-- A record after the record effects of a commit (R14, R15). -/
def PosRec.effected (r : PosRec) (old e : MapEntry) (n : NodeRec) : PosRec :=
  if old.moved e then .fresh e.enabled (r.cls.sequence + 1)
  else if old.childCapable ≠ e.childCapable ∨ old.beltSensed ≠ e.beltSensed then r.recapped e n else r

/-- A record after step (1) of R16. -/
def PosRec.finished (r : PosRec) (old e : MapEntry) (n : NodeRec) (fit : FitState) : PosRec :=
  if refits old e then
    { (r.fitted fit).recapped e n with
      cls := r.cls.refitted (!old.moved e && (r.fit = .misfit || r.fit = .noSlot)) fit }
  else r.recapped e n

/-- A reminder evaluated with the class and belt of a record (R93). -/
def State.judged (s : State) (p : Pos) (r : PosRec) (x : ReminderRec) : ReminderRec :=
  x.evaluated (s.entry p).reminderClass r.cls.stable r.buckle.belt s.vehicle s.config.settings

section
variable (s : State) (p : Pos)

theorem State.evaluate_pos : (s.evaluate p).pos p = (s.pos p).withReminder (s.judged p (s.pos p) (s.pos p).reminder) := by
  have hown := (s.evaluate_frame p).own
  have hreminder : ((s.evaluate p).pos p).reminder = s.judged p (s.pos p) (s.pos p).reminder := s.evaluate_reminder p
  rw [← hreminder]
  generalize (s.evaluate p).pos p = x at hown ⊢
  exact (congrArg (fun y : PosRec => y.withReminder x.reminder) hown :)

theorem State.judged_judged (r : PosRec) (x : ReminderRec) : s.judged p r (s.judged p r x) = s.judged p r x :=
  ReminderRec.evaluated_evaluated x

/-- Where a lost belt or the reminder class has ended a reminder, nothing but that is judged. -/
theorem State.judged_ended {r : PosRec} {x y : ReminderRec} (h : r.buckle.belt = .none ∨ (s.entry p).reminderClass = .none)
    (hx : x = y ∨ x = y.ended) : s.judged p r x = s.judged p r y := by
  unfold State.judged
  rw [ReminderRec.evaluated_of_none _ h, ReminderRec.evaluated_of_none _ h]
  rcases hx with rfl | rfl
  · rfl
  · exact y.ended_ended

theorem State.Stages.judged {s t : State} {ps : List Pos} (h : s.Stages t ps) (p : Pos) (r : PosRec) (x : ReminderRec) :
    t.judged p r x = s.judged p r x := by
  unfold State.judged
  rw [h.entry, h.config]
  exact ReminderRec.evaluated_congr x (congrArg Vehicle.ignition h.vehicle :) (congrArg Vehicle.speed h.vehicle :)

/-! ## Capabilities -/

theorem State.recompute_record : (s.recompute p).pos p =
    ((s.pos p).recapped (s.entry p) (s.boundNode p)).withReminder ((s.recompute p).pos p).reminder := s.recompute_pos p

/-- A recomputation leaves the reminder, or clears the belt record and ends the reminder (R91, R98). -/
theorem State.recompute_reminder : ((s.recompute p).pos p).reminder = (s.pos p).reminder ∨
    (((s.recompute p).pos p).buckle.belt = .none ∧ ((s.recompute p).pos p).reminder = (s.pos p).reminder.ended) := by
  have hkept : ((s.capped p).pos p).reminder = (s.pos p).reminder := by rw [s.capped_pos]
  rw [State.recompute_eq]
  split
  · unfold State.loseBelt
    extract_lets r cleared
    have hcleared : cleared.pos p = { (s.capped p).pos p with buckle := .cleared } := by rw [State.pos_modPos, if_pos rfl]
    have hbelt : ((cleared.postBelt p).pos p).buckle.belt = .none := (congrArg (fun x : PosRec => x.buckle.belt) hcleared :)
    split
    · refine .inr ⟨?_, ?_⟩
      · rw [State.evaluate_buckle]
        exact hbelt
      · rw [State.evaluate_reminder, ReminderRec.evaluated_of_none _ (.inl hbelt)]
        exact congrArg ReminderRec.ended ((congrArg PosRec.reminder hcleared).trans hkept)
    · exact .inl ((congrArg PosRec.reminder hcleared).trans hkept)
  · exact .inl hkept

theorem State.setFit_record (fit : FitState) : (s.setFit p fit).pos p =
    (((s.pos p).fitted fit).recapped (s.entry p) (s.boundNode p)).withReminder ((s.setFit p fit).pos p).reminder := by
  have h := (s.fitted p fit).recompute_record p
  rw [s.fitted_pos] at h
  rw [State.setFit_eq]
  exact h

theorem State.setFit_reminder (fit : FitState) : ((s.setFit p fit).pos p).reminder = (s.pos p).reminder ∨
    (((s.setFit p fit).pos p).buckle.belt = .none ∧ ((s.setFit p fit).pos p).reminder = (s.pos p).reminder.ended) := by
  have h := (s.fitted p fit).recompute_reminder p
  have hkept : ((s.fitted p fit).pos p).reminder = (s.pos p).reminder := by rw [s.fitted_pos]; rfl
  rw [hkept, ← State.setFit_eq] at h
  exact h

/-! ## The class at a fit decided again -/

/-- A record that kept all but class, reminder and watched flag, and the watched flag. -/
theorem PosRec.eq_withClass {x r : PosRec} (h : { x with cls := r.cls, reminder := r.reminder, watched := r.watched } = r)
    (hw : x.watched = r.watched) : x = ({ r with cls := x.cls } : PosRec).withReminder x.reminder := by
  rw [← h]
  cases x
  subst hw
  rfl

/-- A change to a class that is not left behind keeps the watched flag (R126). -/
theorem State.changeClass_watched {d : Bool} {cls : OccClass} (hcls : cls.leftBehind = false) (cause : FaultCause) :
    ((s.changeClass d cls cause p).pos p).watched = (s.pos p).watched := by
  rw [State.changeClass_pos]
  show ((s.pos p).watched || (s.watching && cls.leftBehind)) = _
  rw [hcls, Bool.and_false, Bool.or_false]

theorem State.changeClass_reminder (cls : OccClass) (cause : FaultCause) : ((s.changeClass false cls cause p).pos p).reminder =
    s.judged p ((s.changeClass false cls cause p).pos p) (s.pos p).reminder := by
  have hbuckle : ((s.changeClass false cls cause p).pos p).buckle = (s.pos p).buckle := (s.changeClass_keeps false p cls cause).buckle
  unfold State.judged
  rw [hbuckle, State.changeClass_cls, State.changeClass_pos]
  show ((s.classRaised p cls cause).pos p).reminder = _
  have hraised := (s.classPosted p cls cause).evaluate_reminder p
  rw [s.classPosted_pos] at hraised
  exact hraised

/-- What a fit decided again leaves of the watched flag and the reminder. -/
structure State.Refits (s t : State) (p : Pos) : Prop where
  watched : (t.pos p).watched = (s.pos p).watched
  reminder : (t.pos p).reminder = (s.pos p).reminder ∨ (t.pos p).reminder = s.judged p (t.pos p) (s.pos p).reminder

theorem State.changed_refits {cls : OccClass} (hcls : cls.leftBehind = false) (cause : FaultCause) :
    s.Refits ((s.markCleared p).changeClass false cls cause p) p := by
  have hcleared : (s.markCleared p).pos p = { s.pos p with cls := { (s.pos p).cls with resolveMark := false } } := by
    rw [State.markCleared, State.pos_modPos, if_pos rfl]
  refine ⟨?_, .inr ?_⟩
  · rw [State.changeClass_watched _ p hcls, hcleared]
  · rw [State.changeClass_reminder, hcleared]
    rfl

theorem State.applyDirect_refits {x : Direct} (hcls : x.cls.leftBehind = false) : s.Refits (s.applyDirect false x p) p := by
  rw [State.applyDirect_eq]
  split
  · have hcleared : (s.markCleared p).pos p = { s.pos p with cls := { (s.pos p).cls with resolveMark := false } } := by
      rw [State.markCleared, State.pos_modPos, if_pos rfl]
    exact ⟨by rw [hcleared], .inl (by rw [hcleared])⟩
  · exact s.changed_refits p hcls _

theorem State.returnUnresolved_refits : s.Refits (s.returnUnresolved false p) p := by
  rw [State.returnUnresolved_eq]
  split
  · have hsettled : ((s.markCleared p).settledUnresolved p).pos p =
        { s.pos p with cls := (((s.markCleared p).pos p).cls.settle .unresolved .none) } := by
      rw [State.settledUnresolved, State.pos_modPos, if_pos rfl, State.markCleared, State.pos_modPos, if_pos rfl]
    exact ⟨by rw [hsettled], .inl (by rw [hsettled])⟩
  · exact s.changed_refits p rfl _

theorem State.fitClass_refits (leaves : Bool) (fit : FitState) : s.Refits (s.fitClass p leaves fit) p := by
  cases fit with
  | misfit => exact s.applyDirect_refits p rfl
  | noSlot => exact s.applyDirect_refits p rfl
  | fits =>
    unfold State.fitClass
    simp only
    split
    · exact s.returnUnresolved_refits p
    · exact ⟨rfl, .inl rfl⟩
  | unchecked => exact ⟨rfl, .inl rfl⟩

theorem State.fitClass_classifies (leaves : Bool) (fit : FitState) : s.Classifies false (s.fitClass p leaves fit) p := by
  cases fit with
  | misfit => exact s.applyDirect_classifies false p _
  | noSlot => exact s.applyDirect_classifies false p _
  | fits =>
    unfold State.fitClass
    simp only
    split
    · exact State.returnUnresolved_classifies false s p
    · exact .refl false s p
  | unchecked => exact .refl false s p

theorem State.fitClass_cls (leaves : Bool) (fit : FitState) :
    ((s.fitClass p leaves fit).pos p).cls = (s.pos p).cls.refitted leaves fit := by
  cases fit with
  | misfit => exact s.applyDirect_cls false p _
  | noSlot => exact s.applyDirect_cls false p _
  | fits =>
    unfold State.fitClass ClassRec.refitted
    simp only
    split
    · exact State.returnUnresolved_cls false s p
    · rfl
  | unchecked => rfl

/-! ## A staged position through the stages -/

theorem State.toIdle_pos : (s.toIdle p).pos p =
    (s.pos p).withReminder { (s.pos p).reminder with step := .idle, timer := 0 } := by
  have hown := (s.moveReminder_frame p .idle 0).own
  have hreminder := s.moveReminder_reminder p .idle 0
  unfold State.toIdle
  rw [← hreminder]
  generalize (s.moveReminder p .idle 0).pos p = x at hown ⊢
  exact (congrArg (fun y : PosRec => y.withReminder x.reminder) hown :)

/-- The record effects at a kept position, before a reminder class of NONE ends a reminder (R15). -/
def State.kept (s : State) (old : MapEntry) (p : Pos) : State :=
  if old.childCapable ≠ (s.entry p).childCapable ∨ old.beltSensed ≠ (s.entry p).beltSensed then s.recompute p else s

theorem State.keepRecord_eq (old : MapEntry) : s.keepRecord old p =
    if old.reminderClass ≠ .none ∧ ((s.kept old p).entry p).reminderClass = .none ∧ ((s.kept old p).pos p).reminder.step ≠ .idle then
      (s.kept old p).toIdle p
    else s.kept old p := rfl

/-- A kept record, the reminder ended where the belt capability was lost. -/
theorem State.kept_record {old : MapEntry} (h : old.moved (s.entry p) = false) :
    (s.kept old p).pos p =
      ((s.pos p).effected old (s.entry p) (s.boundNode p)).withReminder ((s.kept old p).pos p).reminder ∧
    (((s.kept old p).pos p).reminder = (s.pos p).reminder ∨
      (((s.pos p).effected old (s.entry p) (s.boundNode p)).buckle.belt = .none ∧
        ((s.kept old p).pos p).reminder = (s.pos p).reminder.ended)) := by
  unfold State.kept PosRec.effected
  simp only [h, Bool.false_eq_true, if_false]
  split
  · have hrecord := s.recompute_record p
    have hreminder := s.recompute_reminder p
    rw [hrecord] at hreminder
    exact ⟨hrecord, hreminder⟩
  · exact ⟨rfl, .inl rfl⟩

/-- A kept record keeps its reminder in the record function. -/
theorem PosRec.effected_reminder {old e : MapEntry} (r : PosRec) (n : NodeRec) (h : old.moved e = false) :
    (r.effected old e n).reminder = r.reminder := by
  unfold PosRec.effected
  simp only [h, Bool.false_eq_true, if_false]
  split
  · rfl
  · rfl

/-- The record effects at a position (R14, R15). -/
theorem State.recordEffects_record (old : PerPos MapEntry) :
    (s.recordEffects old p).pos p = ((s.pos p).effected (old.get p) (s.entry p) (s.boundNode p)).withReminder
      ((s.recordEffects old p).pos p).reminder ∧
    (((s.recordEffects old p).pos p).reminder = ((s.pos p).effected (old.get p) (s.entry p) (s.boundNode p)).reminder ∨
      ((((s.pos p).effected (old.get p) (s.entry p) (s.boundNode p)).buckle.belt = .none ∨ (s.entry p).reminderClass = .none) ∧
        ((s.recordEffects old p).pos p).reminder =
          ((s.pos p).effected (old.get p) (s.entry p) (s.boundNode p)).reminder.ended)) := by
  unfold State.recordEffects
  cases hmoved : (old.get p).moved (s.entry p) with
  | true =>
    rw [if_pos rfl, State.resetRecord_pos, PosRec.effected, if_pos hmoved]
    exact ⟨rfl, .inl rfl⟩
  | false =>
    obtain ⟨hrecord, hreminder⟩ := s.kept_record p hmoved
    rw [if_neg Bool.false_ne_true, State.keepRecord_eq, PosRec.effected_reminder _ _ hmoved]
    have hentry : (s.kept (old.get p) p).entry p = s.entry p :=
      (State.Stages.ite (c := (old.get p).childCapable ≠ _ ∨ (old.get p).beltSensed ≠ _)
        (s.recompute_stages p) (.refl s [p])).entry p
    split
    next h =>
      obtain ⟨-, hnone, hstep⟩ := h
      have hkept : ((s.kept (old.get p) p).pos p).reminder = (s.pos p).reminder :=
        hreminder.resolve_right fun h => hstep (by rw [h.2]; unfold ReminderRec.ended; split <;> simp [*])
      have hended : ({ ((s.kept (old.get p) p).pos p).reminder with step := .idle, timer := 0 } : ReminderRec) =
          (s.pos p).reminder.ended := by
        rw [hkept] at hstep ⊢
        exact (if_neg hstep).symm
      rw [State.toIdle_pos, hended, hrecord]
      exact ⟨rfl, .inr ⟨.inr (hentry ▸ hnone), rfl⟩⟩
    · exact ⟨hrecord, hreminder.imp_right fun h => ⟨.inl h.1, h.2⟩⟩

/-- Step (1) of R16 at a position, whose reminder comes to the same at the evaluation that follows. -/
theorem State.finishFit_record (old : PerPos MapEntry) :
    (s.finishFit old p).pos p = ((s.pos p).finished (old.get p) (s.entry p) (s.boundNode p) (s.commitFit p)).withReminder
      ((s.finishFit old p).pos p).reminder ∧
    s.judged p ((s.pos p).finished (old.get p) (s.entry p) (s.boundNode p) (s.commitFit p))
        ((s.finishFit old p).pos p).reminder =
      s.judged p ((s.pos p).finished (old.get p) (s.entry p) (s.boundNode p) (s.commitFit p)) (s.pos p).reminder := by
  rw [State.finishFit_eq]
  unfold PosRec.finished
  split
  next hrefits =>
    have hentry : (s.setFit p (s.commitFit p)).entry p = s.entry p := (s.setFit_stages p _).entry p
    rw [hentry]
    generalize (!(old.get p).moved (s.entry p) && ((s.pos p).fit = .misfit || (s.pos p).fit = .noSlot)) = leaves
    have hset := s.setFit_record p (s.commitFit p)
    have hended := s.setFit_reminder p (s.commitFit p)
    have hstages := s.setFit_stages p (s.commitFit p)
    generalize s.setFit p (s.commitFit p) = u at hset hended hstages
    obtain ⟨hwatched, hreminder⟩ := u.fitClass_refits p leaves (s.commitFit p)
    have hkeeps := (u.fitClass_classifies p leaves (s.commitFit p)).keeps
    have hrecord := PosRec.eq_withClass hkeeps hwatched
    rw [State.fitClass_cls, hset] at hrecord
    refine ⟨hrecord, ?_⟩
    have hsame : s.judged p ({ ((s.pos p).fitted (s.commitFit p)).recapped (s.entry p) (s.boundNode p) with
        cls := (s.pos p).cls.refitted leaves (s.commitFit p) } : PosRec) (u.pos p).reminder =
        s.judged p ({ ((s.pos p).fitted (s.commitFit p)).recapped (s.entry p) (s.boundNode p) with
          cls := (s.pos p).cls.refitted leaves (s.commitFit p) } : PosRec) (s.pos p).reminder := by
      rcases hended with h | ⟨hbelt, h⟩
      · rw [h]
      · rw [hset] at hbelt
        exact s.judged_ended p (.inl hbelt) (.inr h)
    rcases hreminder with h | h
    · rw [h]
      exact hsame
    · rw [h, hstages.judged, hrecord]
      exact (s.judged_judged p _ _).trans hsame
  · have hrecord := s.recompute_record p
    refine ⟨hrecord, ?_⟩
    rcases s.recompute_reminder p with h | ⟨hbelt, h⟩
    · rw [h]
    · rw [hrecord] at hbelt
      exact s.judged_ended p (.inl hbelt) (.inr h)

/-! ## Positions at the end of the walks -/

/-- A walk of stages taken apart at one of its positions. -/
theorem State.forPositions_split {f : Pos → State → State} {ps : List Pos} (hnodup : ps.Nodup) (hp : p ∈ ps) :
    ∃ as bs, (∀ q ∈ as, q ∈ ps ∧ q ≠ p) ∧ (∀ q ∈ bs, q ∈ ps ∧ q ≠ p) ∧
      s.forPositions ps f = (f p (s.forPositions as f)).forPositions bs f := by
  obtain ⟨as, bs, rfl⟩ := List.append_of_mem hp
  obtain ⟨-, hbs, hdisjoint⟩ := List.nodup_append.1 hnodup
  refine ⟨as, bs, fun q hq => ⟨by simp [hq], fun h => hdisjoint q hq p (by simp) h⟩,
    fun q hq => ⟨by simp [hq], fun h => (List.nodup_cons.1 hbs).1 (h ▸ hq)⟩, ?_⟩
  simp [State.forPositions, List.foldl_append]

/-- A walk of stages leaves of a position what its visit leaves, in a state that earlier visits elsewhere have staged. -/
theorem State.forPositions_visit {f : Pos → State → State} (hf : ∀ (p : Pos) (s : State), s.Stages (f p s) [p]) {ps : List Pos}
    (hnodup : ps.Nodup) (hp : p ∈ ps) :
    ∃ u, s.Stages u ps ∧ u.pos p = s.pos p ∧ (s.forPositions ps f).pos p = (f p u).pos p := by
  obtain ⟨as, bs, has, hbs, hsplit⟩ := s.forPositions_split p (f := f) hnodup hp
  have hbefore := State.forPositions_stages hf as s
  have hafter := State.forPositions_stages hf bs (f p (s.forPositions as f))
  refine ⟨_, hbefore.mono fun q hq => (has q hq).1, hbefore.others p fun h => (has p h).2 rfl, ?_⟩
  rw [hsplit]
  exact hafter.others p fun h => (hbs p h).2 rfl

theorem PosRec.finished_withReminder (r : PosRec) (x : ReminderRec) (old e : MapEntry) (n : NodeRec) (fit : FitState) :
    (r.withReminder x).finished old e n fit = (r.finished old e n fit).withReminder x := by
  unfold PosRec.finished
  split
  · rfl
  · rfl

theorem PosRec.finished_belt {r : PosRec} (h : r.buckle.belt = .none) (old e : MapEntry) (n : NodeRec) (fit : FitState) :
    (r.finished old e n fit).buckle.belt = .none := by
  have hcapped (x : PosRec) (hx : x.buckle.belt = .none) : (x.recapped e n).buckle.belt = .none := by
    show (if _ then BeltRec.cleared else x.buckle).belt = .none
    split
    · rfl
    · exact hx
  unfold PosRec.finished
  split
  · exact hcapped _ h
  · exact hcapped _ h

theorem State.Stages.boundNode {s t : State} {ps : List Pos} (h : s.Stages t ps) (p : Pos) : t.boundNode p = s.boundNode p := by
  rw [State.boundNode, h.node, h.entry, State.boundNode]

theorem State.Stages.commitFit {s t : State} {ps : List Pos} (h : s.Stages t ps) (p : Pos) : t.commitFit p = s.commitFit p := by
  unfold State.commitFit
  rw [h.boundNode, h.entry]

/-- The record that the stages of a commit make of a staged position's, but for the reminder's evaluation. -/
def State.recommitted (s : State) (p : Pos) : PosRec :=
  ((s.pos p).effected (s.entry p) (s.mapped.entry p) (s.mapped.boundNode p)).finished (s.entry p) (s.mapped.entry p)
    (s.mapped.boundNode p) (s.mapped.commitFit p)

/-- A staged position at the end of the walks (R14 to R16, R93). -/
theorem State.walked_record (hp : p ∈ s.stagedPositions) : s.walked.pos p = (s.recommitted p).withReminder
    (s.mapped.judged p (s.recommitted p)
      ((s.pos p).effected (s.entry p) (s.mapped.entry p) (s.mapped.boundNode p)).reminder) := by
  have hnodup := s.stagedPositions_nodup
  obtain ⟨u, hu, hpos, heffected⟩ := s.mapped.forPositions_visit p (f := State.recordEffects s.config.map)
    (fun p s => s.recordEffects_stages p _) hnodup hp
  obtain ⟨v, hv, hvpos, hrefitted⟩ := s.effected.forPositions_visit p (f := State.finishFit s.config.map)
    (fun p s => s.finishFit_stages p _) hnodup hp
  obtain ⟨w, hw, hwpos, hwalked⟩ := s.refitted.forPositions_visit p (f := fun p s => s.evaluate p)
    (fun p s => (s.evaluate_frame p).stages) hnodup hp
  have hvall := s.effected_stages.trans hv
  have hwall := (s.effected_stages.trans s.refitted_stages).trans hw
  obtain ⟨hrecord, hreminder⟩ := u.recordEffects_record p s.config.map
  obtain ⟨hfinished, hjudged⟩ := v.finishFit_record p s.config.map
  rw [hu.entry, hu.boundNode, hpos] at hrecord hreminder
  rw [hvall.entry, hvall.boundNode, hvall.commitFit, hvall.judged, hvall.judged, hvpos] at hjudged
  rw [hvall.entry, hvall.boundNode, hvall.commitFit, hvpos] at hfinished
  have heffectedPos : s.effected.pos p = _ := heffected.trans hrecord
  generalize ((u.recordEffects s.config.map p).pos p).reminder = x at hreminder heffectedPos
  rw [heffectedPos, PosRec.finished_withReminder] at hfinished hjudged
  have hrefittedPos : s.refitted.pos p = _ := hrefitted.trans hfinished
  generalize ((v.finishFit s.config.map p).pos p).reminder = y at hjudged hrefittedPos
  have hwalkedPos := hwalked.trans (w.evaluate_pos p)
  rw [hwpos, hrefittedPos, hwall.judged] at hwalkedPos
  refine hwalkedPos.trans (congrArg (s.recommitted p).withReminder (hjudged.trans ?_))
  rcases hreminder with h | ⟨hends, h⟩
  · exact congrArg _ h
  · exact s.mapped.judged_ended p (hends.imp_left fun hbelt => PosRec.finished_belt hbelt _ _ _ _) (.inr h)

end

end Sys2Proof.Machine

/-! What a commit that is applied leaves of a staged position (R14 to R16): the record function read field by field. -/

namespace Sys2Proof.Machine

/-! ## The record function by its fields -/

section
variable (r : PosRec) (old e : MapEntry) (n : NodeRec) (fit : FitState)

theorem PosRec.finished_caps : (r.finished old e n fit).childCap = (e.capsWith n (r.finished old e n fit).fit).1 ∧
    (r.finished old e n fit).beltCap = (e.capsWith n (r.finished old e n fit).fit).2 := by
  unfold PosRec.finished
  split
  · exact ⟨rfl, rfl⟩
  · exact ⟨rfl, rfl⟩

theorem PosRec.finished_watched : (r.finished old e n fit).watched = r.watched := by
  unfold PosRec.finished
  split
  · rfl
  · rfl

variable {r old e n fit}

theorem PosRec.finished_child (h : r.childCap = false → r.child = .cleared) :
    (r.finished old e n fit).child = if (r.finished old e n fit).childCap then r.child else .cleared := by
  have hcapped (x : PosRec) (hx : x.childCap = false → x.child = .cleared) :
      (x.recapped e n).child = if (x.recapped e n).childCap then x.child else .cleared := by
    show (if x.childCap && !(e.capsWith n x.fit).1 then ChildRec.cleared else x.child) =
      if (e.capsWith n x.fit).1 then x.child else .cleared
    cases (e.capsWith n x.fit).1 <;> cases hcap : x.childCap <;> simp [hx, hcap]
  unfold PosRec.finished
  split
  · exact hcapped (r.fitted fit) h
  · exact hcapped r h

theorem PosRec.finished_buckle (h : r.beltCap = false → r.buckle = .cleared) :
    (r.finished old e n fit).buckle = if (r.finished old e n fit).beltCap then r.buckle else .cleared := by
  have hcapped (x : PosRec) (hx : x.beltCap = false → x.buckle = .cleared) :
      (x.recapped e n).buckle = if (x.recapped e n).beltCap then x.buckle else .cleared := by
    show (if x.beltCap && !(e.capsWith n x.fit).2 then BeltRec.cleared else x.buckle) =
      if (e.capsWith n x.fit).2 then x.buckle else .cleared
    cases (e.capsWith n x.fit).2 <;> cases hcap : x.beltCap <;> simp [hx, hcap]
  unfold PosRec.finished
  split
  · exact hcapped (r.fitted fit) h
  · exact hcapped r h

/-- A fit that is not decided again leaves fit, load, injection and class. -/
theorem PosRec.finished_unfitted (h : refits old e = false) :
    (r.finished old e n fit).fit = r.fit ∧ (r.finished old e n fit).load = r.load ∧
    (r.finished old e n fit).injection = r.injection ∧ (r.finished old e n fit).cls = r.cls := by
  unfold PosRec.finished
  rw [if_neg (by rw [h]; exact Bool.false_ne_true)]
  exact ⟨rfl, rfl, rfl, rfl⟩

/-- A fit decided again sets fit, load, injection and class (R16, R44, R132). -/
theorem PosRec.finished_fitted (h : refits old e = true) :
    (r.finished old e n fit).fit = fit ∧
    (r.finished old e n fit).load = (if fit = .fits ∧ r.fit ≠ .fits then .cleared else r.load) ∧
    (r.finished old e n fit).injection = (if fit = .fits then r.injection else none) ∧
    (r.finished old e n fit).cls = r.cls.refitted (!old.moved e && (r.fit = .misfit || r.fit = .noSlot)) fit := by
  unfold PosRec.finished
  rw [if_pos h]
  exact ⟨rfl, rfl, rfl, rfl⟩

/-! ### Kept records -/

theorem PosRec.effected_kept (hkept : old.moved e = false) :
    (r.effected old e n).fit = r.fit ∧ (r.effected old e n).load = r.load ∧ (r.effected old e n).injection = r.injection ∧
    (r.effected old e n).cls = r.cls ∧ (r.effected old e n).watched = r.watched := by
  unfold PosRec.effected
  simp only [hkept, Bool.false_eq_true, if_false]
  split
  · exact ⟨rfl, rfl, rfl, rfl, rfl⟩
  · exact ⟨rfl, rfl, rfl, rfl, rfl⟩

/-- Without a capability the state that rests on it stays cleared. -/
theorem PosRec.effected_cleared (hkept : old.moved e = false) {enabled : Bool} (h : r.CapLegal enabled) :
    ((r.effected old e n).childCap = false → (r.effected old e n).child = .cleared) ∧
    ((r.effected old e n).beltCap = false → (r.effected old e n).buckle = .cleared) := by
  obtain ⟨-, -, hchild, hbelt⟩ := h
  unfold PosRec.effected
  simp only [hkept, Bool.false_eq_true, if_false]
  split
  · refine ⟨fun hc => ?_, fun hb => ?_⟩
    · have hc : (e.capsWith n r.fit).1 = false := hc
      show (if r.childCap && !(e.capsWith n r.fit).1 then ChildRec.cleared else r.child) = .cleared
      rw [hc]
      cases hcap : r.childCap with
      | true => rfl
      | false => exact hchild hcap
    · have hb : (e.capsWith n r.fit).2 = false := hb
      show (if r.beltCap && !(e.capsWith n r.fit).2 then BeltRec.cleared else r.buckle) = .cleared
      rw [hb]
      cases hcap : r.beltCap with
      | true => rfl
      | false => exact hbelt hcap
  · exact ⟨hchild, hbelt⟩

/-- A capability that flag and node still give was not lost at the record effects. -/
theorem PosRec.effected_unlost (hkept : old.moved e = false) {enabled : Bool} (h : r.CapLegal enabled) :
    (e.childCapable = true → (n.slotCaps e.slot).1 = true → (r.effected old e n).child = r.child) ∧
    (e.beltSensed = true → (n.slotCaps e.slot).2 = true → (r.effected old e n).buckle = r.buckle) := by
  obtain ⟨-, hmisfit, -, -⟩ := h
  unfold PosRec.effected
  simp only [hkept, Bool.false_eq_true, if_false]
  split
  · refine ⟨fun hflag hnode => ?_, fun hflag hnode => ?_⟩
    · show (if r.childCap && !(e.capsWith n r.fit).1 then ChildRec.cleared else r.child) = r.child
      refine if_neg fun hlost => ?_
      obtain ⟨hcap, hnow⟩ := Bool.and_eq_true_iff.1 hlost
      have hfit : r.fit = .fits := by_contra fun hf => by rw [(hmisfit hf).1] at hcap; exact Bool.false_ne_true hcap
      simp [MapEntry.capsWith, hfit, hflag, hnode] at hnow
    · show (if r.beltCap && !(e.capsWith n r.fit).2 then BeltRec.cleared else r.buckle) = r.buckle
      refine if_neg fun hlost => ?_
      obtain ⟨hcap, hnow⟩ := Bool.and_eq_true_iff.1 hlost
      have hfit : r.fit = .fits := by_contra fun hf => by rw [(hmisfit hf).2.1] at hcap; exact Bool.false_ne_true hcap
      simp [MapEntry.capsWith, hfit, hflag, hnode] at hnow
  · exact ⟨fun _ _ => rfl, fun _ _ => rfl⟩

/-- The child-seat and the belt state of a kept record at the end of a commit (R15, R68, R91). -/
theorem PosRec.finished_kept (hkept : old.moved e = false) {enabled : Bool} (h : r.CapLegal enabled) :
    let t := (r.effected old e n).finished old e n fit
    t.child = (if t.childCap then r.child else .cleared) ∧ t.buckle = (if t.beltCap then r.buckle else .cleared) := by
  intro t
  obtain ⟨hchild, hbelt⟩ := PosRec.effected_cleared (n := n) hkept h
  obtain ⟨hchildKept, hbeltKept⟩ := PosRec.effected_unlost (n := n) hkept h
  obtain ⟨hchildCap, hbeltCap⟩ := (r.effected old e n).finished_caps old e n fit
  refine ⟨(PosRec.finished_child hchild).trans ?_, (PosRec.finished_buckle hbelt).trans ?_⟩
  · split
    next hcap =>
      rw [hchildCap, MapEntry.capsWith] at hcap
      simp only [Bool.and_eq_true] at hcap
      exact hchildKept hcap.1.2 hcap.2
    · rfl
  · split
    next hcap =>
      rw [hbeltCap, MapEntry.capsWith] at hcap
      simp only [Bool.and_eq_true] at hcap
      exact hbeltKept hcap.1.2 hcap.2
    · rfl

/-! ### Reset records -/

theorem PosRec.effected_moved (hmoved : old.moved e = true) :
    r.effected old e n = .fresh e.enabled (r.cls.sequence + 1) := if_pos hmoved

/-- A reset record at the end of a commit (R14, R16). -/
theorem PosRec.finished_fresh (q : BitVec 8) (hmoved : old.moved e = true) :
    let t := (PosRec.fresh e.enabled q).finished old e n fit
    t.load = .cleared ∧ t.child = .cleared ∧ t.buckle = .cleared ∧ t.watched = false ∧ t.injection = none ∧
    t.fit = (if e.enabled then fit else .unchecked) ∧
    t.cls = if e.enabled then (ClassRec.fresh true q).refitted false fit else .fresh false q := by
  intro t
  have hchild : t.child = if t.childCap then ChildRec.cleared else .cleared := PosRec.finished_child fun _ => rfl
  have hbuckle : t.buckle = if t.beltCap then BeltRec.cleared else .cleared := PosRec.finished_buckle fun _ => rfl
  rw [ite_self] at hchild hbuckle
  have hwatched : t.watched = false := PosRec.finished_watched _ old e n fit
  cases he : e.enabled with
  | false =>
    have hrefits : refits old e = false := by simp [refits, he]
    obtain ⟨hfit, hload, hinjection, hcls⟩ := PosRec.finished_unfitted (r := .fresh e.enabled q) (n := n) (fit := fit) hrefits
    exact ⟨hload, hchild, hbuckle, hwatched, hinjection, hfit, hcls.trans (by rw [he]; rfl)⟩
  | true =>
    have hrefits : refits old e = true := by simp [refits, he, hmoved]
    obtain ⟨hfit, hload, hinjection, hcls⟩ := PosRec.finished_fitted (r := .fresh e.enabled q) (n := n) (fit := fit) hrefits
    refine ⟨hload.trans (ite_self _), hchild, hbuckle, hwatched, hinjection.trans (ite_self _), hfit, hcls.trans ?_⟩
    rw [hmoved, he]
    rfl

end

/-! ## The record at a commit -/

section
variable (s : State) (p : Pos)

theorem State.rebindsTo_iff (e : MapEntry) : s.RebindsTo p e ↔ (s.entry p).moved e = true := by
  simp only [State.RebindsTo, MapEntry.moved, MapEntry.sameBinding, Bool.or_eq_true, Bool.not_eq_true', Bool.and_eq_false_iff,
    decide_eq_true_eq, decide_eq_false_iff_not, or_assoc]

variable {s p}

theorem State.commitFit_found {e : MapEntry} (h : s.entry p = e) : s.commitFit p = s.found e := by
  unfold State.commitFit State.found State.boundNode
  simp only [h]
  cases hid : (s.node e.line e.address).identity with
  | none => cases (s.node e.line e.address).state <;> rfl
  | some id =>
    cases hstate : (s.node e.line e.address).state with
    | online => simp
    | silent => simp
    | unseen => simp
    | lost => simp

/-- The capabilities in effect by the record function are those of R7. -/
theorem State.capsInEffect_of {s : State} {p : Pos}
    (hchild : (s.pos p).childCap = ((s.entry p).capsWith (s.boundNode p) (s.pos p).fit).1)
    (hbelt : (s.pos p).beltCap = ((s.entry p).capsWith (s.boundNode p) (s.pos p).fit).2) : s.CapsInEffect p := by
  unfold State.CapsInEffect
  extract_lets node reported
  have hreported (f : Bool × Bool → Bool) (hf : f (false, false) = false) : reported f = f (node.slotCaps (s.entry p).slot) := by
    unfold reported NodeRec.slotCaps
    cases node.identity with
    | none => exact hf.symm
    | some id =>
      simp only [List.getD]
      cases id.caps[(s.entry p).slot.val]? with
      | none => exact hf.symm
      | some c => rfl
  rw [hreported (·.1) rfl, hreported (·.2) rfl, hchild, hbelt]
  simp only [MapEntry.capsWith, Bool.and_eq_true, decide_eq_true_eq, and_assoc]
  exact ⟨Iff.rfl, Iff.rfl⟩

theorem State.refits_iff (s : State) (p : Pos) (e : MapEntry) (h : ¬ s.RebindsTo p e) : refits (s.entry p) e = true ↔
    e.enabled = true ∧ (e.identity ≠ (s.entry p).identity ∨ e.matchMode ≠ (s.entry p).matchMode) := by
  rw [State.rebindsTo_iff, Bool.not_eq_true] at h
  simp only [refits, h, Bool.false_or, Bool.and_eq_true, Bool.or_eq_true, decide_eq_true_eq]
  constructor
  · rintro ⟨he, hid | hmode⟩
    · exact ⟨he, .inl fun h => hid h.symm⟩
    · exact ⟨he, .inr fun h => hmode h.symm⟩
  · rintro ⟨he, hid | hmode⟩
    · exact ⟨he, .inl fun h => hid h.symm⟩
    · exact ⟨he, .inr fun h => hmode h.symm⟩

/-- The class of a reset record at the end of a commit, spelled by its fields (R14, R16). -/
theorem ClassRec.refitted_fresh (q : BitVec 8) (enabled : Bool) (fit : FitState) :
    (if enabled then (ClassRec.fresh true q).refitted false fit else .fresh false q) =
      let as (cls : OccClass) (cause : FaultCause) (sequence : BitVec 8) : ClassRec :=
        { stable := cls, cause := cause, candidate := cls, agreement := 0, lastInstant := .unresolved,
          sequence := sequence, resolveMark := false }
      if enabled = false then as .absent .none q
      else if fit = .misfit then as .fault .misfit (q + 1)
      else if fit = .noSlot then as .fault .noSlot (q + 1)
      else as .unresolved .none q := by
  cases enabled with
  | false => rfl
  | true => cases fit <;> rfl

/-- A staged position in a state with the record of the walks, the new map, and the nodes and report as before. -/
theorem State.committed_of {s t : State} {p : Pos} {e : MapEntry} (h : s.staging.entries.get p = some e)
    (hpos : t.pos p = s.walked.pos p) (hconfig : t.config = s.mapped.config) (hnode : ∀ l a, t.node l a = s.node l a)
    (hignition : t.vehicle.ignition = s.vehicle.ignition) (hspeed : t.vehicle.speed = s.vehicle.speed) : s.Committed t p e := by
  have hmapped : s.mapped.entry p = e := (s.stagedMap_get p).trans (by rw [State.swapSource, h, Option.getD_some])
  have hentry : t.entry p = e := by rw [State.entry, hconfig]; exact hmapped
  have hstaged : p ∈ s.stagedPositions := State.mem_stagedPositions.2 (by rw [Staging.holds, h]; rfl)
  have hbound : s.mapped.boundNode p = s.node e.line e.address := by rw [State.boundNode, hmapped]; rfl
  have hfound : s.mapped.commitFit p = s.found e := State.commitFit_found hmapped
  have hrecord := hpos.trans (s.walked_record p hstaged)
  have hfin : s.recommitted p =
      ((s.pos p).effected (s.entry p) e (s.node e.line e.address)).finished (s.entry p) e (s.node e.line e.address) (s.found e) := by
    rw [State.recommitted, hmapped, hbound, hfound]
  have hreminder : (t.pos p).reminder = ((s.pos p).effected (s.entry p) e (s.node e.line e.address)).reminder.evaluated
      e.reminderClass (t.pos p).cls.stable (t.pos p).buckle.belt t.vehicle t.config.settings := by
    rw [hrecord, hmapped, hbound, ReminderRec.evaluated_congr _ hignition hspeed, hconfig]
    show State.judged _ _ _ _ = _
    rw [State.judged, hmapped]
    rfl
  have hcaps : t.CapsInEffect p := by
    obtain ⟨hchild, hbelt⟩ := PosRec.finished_caps ((s.pos p).effected (s.entry p) e (s.node e.line e.address)) (s.entry p) e
      (s.node e.line e.address) (s.found e)
    have hboundT : t.boundNode p = s.node e.line e.address := by rw [State.boundNode, hentry, hnode]
    refine State.capsInEffect_of ?_ ?_
    · rw [hentry, hboundT, hrecord, hfin]; exact hchild
    · rw [hentry, hboundT, hrecord, hfin]; exact hbelt
  refine ⟨hcaps, fun hmoved => ?_, fun hkept => ?_, fun hnone => ?_⟩
  · rw [State.rebindsTo_iff] at hmoved
    rw [PosRec.effected_moved hmoved] at hfin hreminder
    obtain ⟨hload, hchild, hbuckle, hwatched, hinjection, hfit, hcls⟩ := PosRec.finished_fresh (old := s.entry p)
      (n := s.node e.line e.address) (fit := s.found e) ((s.pos p).cls.sequence + 1) hmoved
    have hbelt : (t.pos p).buckle = .cleared := by rw [hrecord, hfin]; exact hbuckle
    rw [ReminderRec.evaluated_of_none _ (.inl (by rw [hbelt]; rfl))] at hreminder
    rw [← hfin] at hload hchild hwatched hinjection hfit hcls
    have kept {α : Type} (f : PosRec → α) (hf : ∀ r x, f (PosRec.withReminder r x) = f r) : f (t.pos p) = f (s.recommitted p) := by
      rw [hrecord, hf]
    refine ⟨(kept (·.load) fun _ _ => rfl).trans hload, (kept (·.child) fun _ _ => rfl).trans hchild, hbelt, hreminder,
      (kept (·.watched) fun _ _ => rfl).trans hwatched, (kept (·.injection) fun _ _ => rfl).trans hinjection,
      (kept (·.fit) fun _ _ => rfl).trans hfit, ((kept (·.cls) fun _ _ => rfl).trans hcls).trans ?_⟩
    exact ClassRec.refitted_fresh _ _ _
  · have hnot : (s.entry p).moved e = false := by rwa [State.rebindsTo_iff, Bool.not_eq_true] at hkept
    rw [PosRec.effected_reminder _ _ hnot] at hreminder
    have kept {α : Type} (f : PosRec → α) (hf : ∀ r x, f (PosRec.withReminder r x) = f r) : f (t.pos p) = f (s.recommitted p) := by
      rw [hrecord, hf]
    obtain ⟨hfit, hload, hinjection, hcls, hwatched⟩ := PosRec.effected_kept (r := s.pos p) (n := s.node e.line e.address) hnot
    refine ⟨?_, hreminder, fun hlegal => ?_, fun hsame => ?_, fun he hdiffers => ?_⟩
    · rw [kept (·.watched) fun _ _ => rfl, hfin, PosRec.finished_watched]
      exact hwatched
    · obtain ⟨hchild, hbuckle⟩ := PosRec.finished_kept (n := s.node e.line e.address) (fit := s.found e) hnot hlegal
      rw [← hfin] at hchild hbuckle
      rw [kept (·.child) fun _ _ => rfl, kept (·.buckle) fun _ _ => rfl, kept (·.childCap) fun _ _ => rfl,
        kept (·.beltCap) fun _ _ => rfl]
      exact ⟨hchild, hbuckle⟩
    · have hrefits : refits (s.entry p) e = false := by
        rw [← Bool.not_eq_true, s.refits_iff p e hkept]
        rintro ⟨he, hid⟩
        rcases hsame with hoff | ⟨hsame, hmode⟩
        · rw [hoff] at he; cases he
        · exact hid.elim (fun h => h hsame) fun h => h hmode
      rw [kept (·.fit) fun _ _ => rfl, kept (·.load) fun _ _ => rfl, kept (·.injection) fun _ _ => rfl,
        kept (·.cls) fun _ _ => rfl, hfin]
      obtain ⟨h1, h2, h3, h4⟩ := PosRec.finished_unfitted (r := (s.pos p).effected (s.entry p) e (s.node e.line e.address))
        (n := s.node e.line e.address) (fit := s.found e) hrefits
      exact ⟨h1.trans hfit, h2.trans hload, h3.trans hinjection, h4.trans hcls⟩
    · have hrefits : refits (s.entry p) e = true := (s.refits_iff p e hkept).2 ⟨he, hdiffers⟩
      rw [kept (·.fit) fun _ _ => rfl, kept (·.load) fun _ _ => rfl, kept (·.injection) fun _ _ => rfl,
        kept (·.cls) fun _ _ => rfl, hfin]
      obtain ⟨h1, h2, h3, h4⟩ := PosRec.finished_fitted (r := (s.pos p).effected (s.entry p) e (s.node e.line e.address))
        (n := s.node e.line e.address) (fit := s.found e) hrefits
      rw [hfit, hload] at h2
      rw [hinjection] at h3
      rw [hcls, hfit, hnot] at h4
      refine ⟨h1, h2, h3, h4.trans ?_⟩
      cases s.found e <;> simp [ClassRec.refitted]
  · rw [hreminder, ReminderRec.evaluated_of_none _ (.inr hnone)]
    unfold ReminderRec.ended
    split
    next hstep => exact hstep
    · rfl

end

end Sys2Proof.Machine

/-! What the ports hear of a commit (R51, R80, R86, R107, R108), and what it leaves as a whole. -/

namespace Sys2Proof.Machine

/-! ## Room in a queue that has received few keys -/

/-- The kinds and subjects in a queue that has received class notices of some positions. -/
def classKeys (ps : List Pos) : List (NoticeKind × Nat) := ps.map fun p => (.classChanged, posNumber p)

theorem mem_classKeys {p : Pos} {ps : List Pos} (hp : p ∈ ps) : (NoticeKind.classChanged, posNumber p) ∈ classKeys ps :=
  List.mem_map.2 ⟨p, hp, rfl⟩

section
variable {q r : List Notice} {n : Nat} {ps : List Pos}
  (h : Received (fun k m => ∃ p ∈ ps, ClassNotice p k m) q n r) (hlegal : queueLegal q)
include h hlegal

theorem Received.keys_subperm :
    List.Subperm (r.map fun x => (x.kind, x.subject)) ((q.map fun x => (x.kind, x.subject)) ++ classKeys ps) := by
  refine List.subperm_of_subset (h.nodup hlegal).2 fun k hk => ?_
  obtain ⟨x, hx, rfl⟩ := List.mem_map.1 hk
  rcases h.key hx with ⟨p, hp, hkind, hsubject⟩ | ⟨y, hy, hkind, hsubject⟩
  · exact List.mem_append_right _ (List.mem_map.2 ⟨p, hp, by rw [hkind, hsubject]⟩)
  · exact List.mem_append_left _ (List.mem_map.2 ⟨y, hy, by rw [hkind, hsubject]⟩)

theorem Received.length_le_keys : r.length ≤ q.length + ps.length := by
  have hle := (h.keys_subperm hlegal).length_le
  simpa [classKeys] using hle

/-- Where all keys together find room, the queue has room for each. -/
theorem Received.room (hroom : q.length + ps.length ≤ 16) {p : Pos} (hp : p ∈ ps) :
    r.length < 16 ∨ ∃ m ∈ r, m.kind = .classChanged ∧ m.subject = posNumber p := by
  by_cases hlength : r.length < 16
  · exact .inl hlength
  · have hperm := (h.keys_subperm hlegal).perm_of_length_le (by simp [classKeys]; omega)
    have hmem := hperm.mem_iff.2 (List.mem_append_right _ (mem_classKeys hp))
    obtain ⟨m, hm, hkey⟩ := List.mem_map.1 hmem
    exact .inr ⟨m, hm, congrArg Prod.fst hkey, congrArg Prod.snd hkey⟩

end

/-! ## Classes told through the stages -/

section
variable {s t : State} {ps : List Pos}

theorem State.Stages.hasRoom (h : s.Stages t ps) (hlegal : queueLegal (s.port .safety).queue)
    (hroom : (s.port .safety).queue.length + ps.length ≤ 16) {p : Pos} (hp : p ∈ ps) :
    t.HasRoom .safety .classChanged (posNumber p) := by
  obtain ⟨n, hn⟩ := h.safety
  exact hn.room hlegal hroom hp

/-- A told class stays told through stages at other positions. -/
theorem State.Stages.told (h : s.Stages t ps) {p : Pos} (hp : p ∉ ps) (hs : s.ClassTold p) : t.ClassTold p := by
  obtain ⟨n, hn⟩ := h.safety
  unfold State.ClassTold
  rw [h.others p hp]
  refine hs.mono hn ?_ (congrArg Scanner.number h.scanner)
  rintro ⟨q, hq, -, hnumber⟩
  have heq : p = q := Fin.ext (Nat.succ_injective hnumber)
  exact hp (heq ▸ hq)

/-- A told class stays told where class and safety queue stay. -/
theorem State.ClassTold.congr {p : Pos} (hs : s.ClassTold p) (hcls : (t.pos p).cls = (s.pos p).cls)
    (hqueue : (t.port .safety).queue = (s.port .safety).queue) (hscan : t.scanner.number = s.scanner.number) : t.ClassTold p := by
  unfold State.ClassTold
  rw [hcls]
  exact hs.mono (.of_eq (About := fun _ _ => False) (n := 0) hqueue) id hscan

end

section
variable (s : State) (p : Pos)

/-- An operation that the safety port does not hear of, and that keeps the class of a position. -/
structure State.Silent (s t : State) (p : Pos) : Prop where
  cls : (t.pos p).cls = (s.pos p).cls
  safety : (t.port .safety).queue = (s.port .safety).queue
  number : t.scanner.number = s.scanner.number

theorem State.ReminderFrame.silent {s t : State} {p : Pos} (h : s.ReminderFrame t p) : s.Silent t p :=
  ⟨h.cls p, congrArg PortState.queue (State.port_of_reminderBack h.rest (by decide)), h.outcome.number⟩

theorem State.Silent.refl : s.Silent s p := ⟨rfl, rfl, rfl⟩

theorem State.Silent.trans {s t u : State} {p : Pos} (h : s.Silent t p) (k : t.Silent u p) : s.Silent u p :=
  ⟨k.cls.trans h.cls, k.safety.trans h.safety, k.number.trans h.number⟩

theorem State.Silent.ite {c : Prop} [Decidable c] {s t u : State} {p : Pos} (h : s.Silent t p) (k : s.Silent u p) :
    s.Silent (if c then t else u) p := by
  split
  · exact h
  · exact k

theorem State.Silent.told {s t : State} {p : Pos} (h : s.Silent t p) (hs : s.ClassTold p) : t.ClassTold p :=
  hs.congr h.cls h.safety h.number

theorem State.modPos_silent {f : PosRec → PosRec} (hf : (f (s.pos p)).cls = (s.pos p).cls) : s.Silent (s.modPos p f) p :=
  ⟨by rw [State.pos_modPos, if_pos rfl, hf], rfl, rfl⟩

theorem State.post_cabin_silent (k : NoticeKind) (n : Nat) (v : Half) : s.Silent (s.post .cabin k n v) p :=
  ⟨rfl, congrArg PortState.queue (State.post_port_other s .cabin k n v (q := .safety) (by decide)), rfl⟩

theorem State.loseBelt_silent : s.Silent (s.loseBelt p) p := by
  unfold State.loseBelt
  extract_lets r cleared
  have hcleared : s.Silent cleared p := s.modPos_silent p rfl
  exact .ite (hcleared.trans ((cleared.post_cabin_silent p _ _ _).trans (State.evaluate_frame _ p).silent)) hcleared

theorem State.recompute_silent : s.Silent (s.recompute p) p := by
  rw [State.recompute_eq]
  have hcapped : s.Silent (s.capped p) p := s.modPos_silent p rfl
  exact .ite (hcapped.trans (State.loseBelt_silent _ p)) hcapped

theorem State.setFit_silent (fit : FitState) : s.Silent (s.setFit p fit) p := by
  rw [State.setFit_eq]
  exact (s.modPos_silent p rfl).trans (State.recompute_silent _ p)

theorem State.keepRecord_silent (old : MapEntry) : s.Silent (s.keepRecord old p) p := by
  rw [State.keepRecord_eq]
  have hkept : s.Silent (s.kept old p) p := .ite (s.recompute_silent p) (.refl s p)
  exact .ite (hkept.trans ((s.kept old p).moveReminder_frame p _ _).silent) hkept

/-- The class of a reset record is told (R14, R80). -/
theorem State.resetRecord_told (h : s.HasRoom .safety .classChanged (posNumber p)) : (s.resetRecord p).ClassTold p := by
  unfold State.resetRecord
  extract_lets old fresh told belted shown
  have htold : told.ClassTold p := by
    have hposted := State.post_tells (s := fresh) (fresh.pos p).cls.payload (show fresh.HasRoom _ _ _ from h)
    exact hposted.mono (m := 0) (About := fun _ _ => False)
      (.of_eq (congrArg PortState.queue (State.post_port_other _ .cabin _ _ _ (q := .safety) (by decide)))) id rfl
  have hbelted : told.Silent belted p := .ite (State.post_cabin_silent _ p _ _ _) (.refl told p)
  have hshown : belted.Silent shown p := .ite (State.post_cabin_silent _ p _ _ _) (.refl belted p)
  have hrestarted : shown.Silent shown.restartEco p := ⟨rfl, rfl, rfl⟩
  exact ((hbelted.trans hshown).trans hrestarted).told htold

theorem State.fitClass_word {fit : FitState} : s.ClassWord (s.fitClass p false fit) p := by
  cases fit with
  | misfit => exact s.applyDirect_word false p _
  | noSlot => exact s.applyDirect_word false p _
  | fits => exact .refl s p
  | unchecked => exact .refl s p

theorem State.fitClass_heard (leaves : Bool) (fit : FitState) : s.ClassHeard (s.fitClass p leaves fit) p := by
  cases fit with
  | misfit => exact (s.applyDirect_word false p _).heard
  | noSlot => exact (s.applyDirect_word false p _).heard
  | fits =>
    unfold State.fitClass
    simp only
    split
    · exact State.returnUnresolved_heard false s p
    · exact (State.ClassWord.refl s p).heard
  | unchecked => exact (State.ClassWord.refl s p).heard

/-- Step (1) of R16 at a reset position, where its class has been told. -/
theorem State.finishFit_told {old : PerPos MapEntry} (hmoved : (old.get p).moved (s.entry p) = true) (h : s.ClassTold p) :
    (s.finishFit old p).ClassTold p := by
  have hstages := s.setFit_stages p (s.commitFit p)
  rw [State.finishFit_eq, hstages.entry, hmoved, Bool.not_true, Bool.false_and]
  split
  · have hset := (s.setFit_silent p (s.commitFit p)).told h
    rcases State.fitClass_word (s.setFit p (s.commitFit p)) p (fit := s.commitFit p) with ⟨hsame, hqueue⟩ | hword
    · unfold State.ClassTold
      rw [hsame.payload]
      exact hset.mono (.of_eq (About := fun _ _ => False) (n := 0) hqueue) id
        (congrArg Scanner.number (State.fitClass_stages _ p _ _).scanner)
    · exact hword hset.hasRoom
  · exact (s.recompute_silent p).told h

/-- Step (1) of R16 at any position: its sequence stays, or its class is told. -/
theorem State.finishFit_heard (old : PerPos MapEntry) (h : s.HasRoom .safety .classChanged (posNumber p)) :
    ((s.finishFit old p).pos p).cls.sequence = (s.pos p).cls.sequence ∨ (s.finishFit old p).ClassTold p := by
  rw [State.finishFit_eq]
  split
  · have hset := s.setFit_silent p (s.commitFit p)
    generalize s.setFit p (s.commitFit p) = u at hset ⊢
    rcases u.fitClass_heard p (!(old.get p).moved (u.entry p) && ((s.pos p).fit = .misfit || (s.pos p).fit = .noSlot))
        (s.commitFit p) with ⟨hsequence, -⟩ | hheard
    · exact .inl (hsequence.trans (congrArg ClassRec.sequence hset.cls))
    · refine .inr (hheard ?_)
      unfold State.HasRoom
      rw [hset.safety]
      exact h
  · exact .inl (congrArg ClassRec.sequence (s.recompute_silent p).cls)

/-- A walk of stages around the visit to one of its positions. -/
theorem State.forPositions_around {f : Pos → State → State} (hf : ∀ (p : Pos) (s : State), s.Stages (f p s) [p]) {ps : List Pos}
    (hnodup : ps.Nodup) (hp : p ∈ ps) :
    ∃ u as bs, s.Stages u as ∧ (∀ q ∈ as, q ∈ ps) ∧ p ∉ as ∧ p ∉ bs ∧ (f p u).Stages (s.forPositions ps f) bs := by
  obtain ⟨as, bs, has, hbs, hsplit⟩ := s.forPositions_split p (f := f) hnodup hp
  rw [hsplit]
  exact ⟨s.forPositions as f, as, bs, State.forPositions_stages hf as s, fun q hq => (has q hq).1, fun h => (has p h).2 rfl,
    fun h => (hbs p h).2 rfl, State.forPositions_stages hf bs _⟩

section
variable (hlegal : queueLegal (s.port .safety).queue) (hroom : (s.port .safety).queue.length + s.stagedPositions.length ≤ 16)
  (hp : p ∈ s.stagedPositions)
include hp

theorem State.effected_kept (hkept : (s.entry p).moved (s.mapped.entry p) = false) : (s.effected.pos p).cls = (s.pos p).cls := by
  obtain ⟨u, as, bs, hu, -, has, hbs, hafter⟩ := s.mapped.forPositions_around p (f := State.recordEffects s.config.map)
    (fun p s => s.recordEffects_stages p _) s.stagedPositions_nodup hp
  have hvisit : u.recordEffects s.config.map p = u.keepRecord (s.entry p) p := by
    unfold State.recordEffects
    rw [hu.entry]
    exact if_neg (by rw [show (s.config.map.get p) = s.entry p from rfl, hkept]; exact Bool.false_ne_true)
  calc (s.effected.pos p).cls
    _ = ((u.recordEffects s.config.map p).pos p).cls := congrArg PosRec.cls (hafter.others p hbs)
    _ = (u.pos p).cls := by rw [hvisit]; exact (u.keepRecord_silent p _).cls
    _ = (s.pos p).cls := congrArg PosRec.cls (hu.others p has)

include hlegal hroom

theorem State.effected_told (hmoved : (s.entry p).moved (s.mapped.entry p) = true) : s.effected.ClassTold p := by
  obtain ⟨u, as, bs, hu, hsub, has, hbs, hafter⟩ := s.mapped.forPositions_around p (f := State.recordEffects s.config.map)
    (fun p s => s.recordEffects_stages p _) s.stagedPositions_nodup hp
  have hvisit : u.recordEffects s.config.map p = u.resetRecord p := by
    unfold State.recordEffects
    rw [hu.entry]
    exact if_pos hmoved
  have hlegal' : queueLegal (s.mapped.port .safety).queue := hlegal
  have htold := u.resetRecord_told p ((hu.mono hsub).hasRoom hlegal' hroom hp)
  rw [← hvisit] at htold
  exact hafter.told hbs htold

/-- The class of a staged position after the fits: its sequence stands as before, or the class is told (R80, R86). -/
theorem State.refitted_told : (s.refitted.pos p).cls.sequence = (s.pos p).cls.sequence ∨ s.refitted.ClassTold p := by
  obtain ⟨u, as, bs, hu, hsub, has, hbs, hafter⟩ := s.effected.forPositions_around p (f := State.finishFit s.config.map)
    (fun p s => s.finishFit_stages p _) s.stagedPositions_nodup hp
  have huall := s.effected_stages.trans (hu.mono hsub)
  cases hmoved : (s.entry p).moved (s.mapped.entry p) with
  | true =>
    have htold := hu.told has (s.effected_told p hlegal hroom hp hmoved)
    exact .inr (hafter.told hbs (u.finishFit_told p (by rw [huall.entry]; exact hmoved) htold))
  | false =>
    have hlegal' : queueLegal (s.mapped.port .safety).queue := hlegal
    have hkept : (u.pos p).cls = (s.pos p).cls := (congrArg PosRec.cls (hu.others p has)).trans (s.effected_kept p hp hmoved)
    rcases u.finishFit_heard p s.config.map (huall.hasRoom hlegal' hroom hp) with h | h
    · exact .inl ((congrArg (fun r : PosRec => r.cls.sequence) (hafter.others p hbs)).trans
        (h.trans (congrArg ClassRec.sequence hkept)))
    · exact .inr (hafter.told hbs h)

/-- The class of a staged position at the end of the walks: its sequence stands as before, or the class is told (R80, R86). -/
theorem State.walked_told : (s.walked.pos p).cls.sequence = (s.pos p).cls.sequence ∨ s.walked.ClassTold p := by
  obtain ⟨u, as, bs, hu, -, has, hbs, hafter⟩ := s.refitted.forPositions_around p (f := fun p s => s.evaluate p)
    (fun p s => (s.evaluate_frame p).stages) s.stagedPositions_nodup hp
  have hevaluated := (u.evaluate_frame p).silent
  rcases s.refitted_told p hlegal hroom hp with h | h
  · refine .inl (Eq.trans ?_ h)
    exact (congrArg (fun r : PosRec => r.cls.sequence) (hafter.others p hbs)).trans
      ((congrArg ClassRec.sequence hevaluated.cls).trans (congrArg (fun r : PosRec => r.cls.sequence) (hu.others p has)))
  · exact .inr (hafter.told hbs (hevaluated.told (hu.told has h)))

end

end

end Sys2Proof.Machine

/-! A commit as a whole: the state it leaves, in every state that agrees with that one in what the rules read (R12, R14 to R16). -/

namespace Sys2Proof.Machine

/-! ## States that agree -/

/-- Two states that agree in the positions, the configuration, a capture, the nodes and the scan number. -/
structure State.Matches (s t : State) : Prop where
  pos : ∀ p, t.pos p = s.pos p
  config : t.config = s.config
  capture : t.capture = s.capture
  lines : t.scanner.lines = s.scanner.lines
  number : t.scanner.number = s.scanner.number

/-- Two states that agree in what the rules of a commit read of the state after it, but for the ports. -/
structure State.Resembles (s t : State) : Prop extends s.Matches t where
  ignition : t.vehicle.ignition = s.vehicle.ignition
  speed : t.vehicle.speed = s.vehicle.speed

/-- Two states that agree in what the rules of a commit read of the state before it, but for the safety port; the second may have
one notice more for the service port. -/
structure State.Alike (s t : State) : Prop extends s.Matches t where
  staging : t.staging = s.staging
  service : (t.port .service).queue.length ≤ (s.port .service).queue.length + 1

section
variable {s t : State} (h : s.Matches t)
include h

theorem State.Matches.entry (p : Pos) : t.entry p = s.entry p := by rw [State.entry, h.config, State.entry]
theorem State.Matches.node (l : Line) (a : Fin 6) : t.node l a = s.node l a := by rw [State.node, h.lines, State.node]

theorem State.Matches.decision : t.decision = s.decision := State.decision_congr h.config fun p _ => by rw [h.pos]

theorem State.Matches.rebindsTo (p : Pos) (e : MapEntry) : t.RebindsTo p e ↔ s.RebindsTo p e := by
  rw [State.RebindsTo, h.entry, State.RebindsTo]

theorem State.Matches.found (e : MapEntry) : t.found e = s.found e := by
  unfold State.found
  rw [h.node]

/-- What a commit leaves of a position is said by states that agree alike. -/
theorem State.Matches.committed {u : State} {p : Pos} {e : MapEntry} (hc : t.Committed u p e) : s.Committed u p e := by
  obtain ⟨hcaps, hreset, hkept, hreminder⟩ := hc
  rw [h.rebindsTo, h.pos, h.found] at hreset
  rw [h.rebindsTo, h.pos, h.entry, h.found] at hkept
  exact ⟨hcaps, hreset, hkept, hreminder⟩

end

/-- What a commit does to a capture, told where the service queue held at most `room` notices (R51, R52). -/
def State.CommitsCaptureIn (s t : State) (room : Nat) : Prop :=
  (s.capture = none → t.capture = none) ∧
  ∀ c, s.capture = some c →
    (s.staging.entries.get c.position = none → t.capture = some c) ∧
    (∀ e, s.staging.entries.get c.position = some e →
      (s.RebindsTo c.position e ∨ (t.pos c.position).fit ≠ .fits →
        t.capture = none ∧ s.TellsCapture t c.position room 0x4000) ∧
      (¬ s.RebindsTo c.position e → (t.pos c.position).fit = .fits → t.capture = some c))

theorem State.Alike.commitsCapture {s t u : State} (h : s.Alike t) (hc : t.CommitsCaptureIn u 15) : s.CommitsCapture u := by
  unfold State.CommitsCaptureIn at hc
  rw [h.capture, h.staging] at hc
  refine ⟨hc.1, fun c hs => ?_⟩
  obtain ⟨hunstaged, hstaged⟩ := hc.2 c hs
  refine ⟨hunstaged, fun e he => ?_⟩
  obtain ⟨haborts, hgoes⟩ := hstaged e he
  rw [h.rebindsTo] at haborts hgoes
  refine ⟨fun k => ⟨(haborts k).1, fun hroom => ?_⟩, hgoes⟩
  have htells := (haborts k).2 (h.service.trans (Nat.succ_le_succ hroom))
  rw [h.number] at htells
  exact htells

theorem State.Resembles.refl (s : State) : s.Resembles s := ⟨⟨fun _ => rfl, rfl, rfl, rfl, rfl⟩, rfl, rfl⟩

theorem State.received_alike (s : State) (p : Port) : s.Alike (s.received p) := by
  have hqueue := (congrArg List.length (s.received_queues p .service)).le.trans (Nat.le_succ _)
  rw [s.received_form p] at hqueue ⊢
  exact ⟨⟨fun _ => rfl, rfl, rfl, rfl, rfl⟩, rfl, hqueue⟩

/-! ## The last stages of a commit -/

section
variable (s : State)

/-- The state after the abort of a capture, before the derivation. -/
def State.aborted (s : State) : State := s.walked.abortMoved s.config.map s.stagedPositions

theorem State.applyStaged_form : s.applyStaged =
    { s.aborted.deriveSuppression with staging := { s.aborted.deriveSuppression.staging with entries := Staging.empty.entries } } := rfl

theorem State.aborted_cases : (s.aborted = s.walked ∨ s.aborted = s.walked.abortCapture .map) := by
  unfold State.aborted State.abortMoved
  split
  · exact .inl rfl
  · split
    · exact .inr rfl
    · exact .inl rfl

theorem State.aborted_rest : { s.aborted with capture := s.walked.capture, ports := s.walked.ports } = s.walked := by
  rcases s.aborted_cases with h | h <;> rw [h]
  exact s.walked.abortCapture_rest .map

theorem State.aborted_safety : s.aborted.port .safety = s.walked.port .safety := by
  rcases s.aborted_cases with h | h <;> rw [h]
  exact State.abortCapture_port .map s.walked (by decide)

theorem State.deriveSuppression_frame : { s.deriveSuppression with restraint := s.restraint, ports := s.ports } = s := by
  unfold State.deriveSuppression
  simp only
  split
  · rfl
  · rfl

/-- What the last stages leave of the walked state. -/
theorem State.applyStaged_walked : { s.applyStaged with
    capture := s.walked.capture, ports := s.walked.ports, restraint := s.walked.restraint, staging := s.walked.staging } = s.walked := by
  have hderived := congrArg (fun u : State => { u with capture := s.walked.capture, ports := s.walked.ports })
    s.aborted.deriveSuppression_frame
  have haborted := s.aborted_rest
  rw [s.applyStaged_form]
  have hrestraint : s.aborted.restraint = s.walked.restraint := (congrArg State.restraint haborted :)
  have hstaging : s.aborted.staging = s.walked.staging := (congrArg State.staging haborted :)
  rw [← hrestraint, ← hstaging]
  have hkept : s.aborted.deriveSuppression.staging = s.aborted.staging :=
    (congrArg State.staging s.aborted.deriveSuppression_frame :)
  rw [← hkept]
  exact hderived.trans haborted

theorem State.applyStaged_scanner : s.applyStaged.scanner = s.scanner :=
  (congrArg State.scanner s.applyStaged_walked :).trans s.walked_stages.scanner

theorem State.applyStaged_vehicle : { s.applyStaged.vehicle with eco := s.vehicle.eco } = s.vehicle := by
  have h : s.applyStaged.vehicle = s.walked.vehicle := (congrArg State.vehicle s.applyStaged_walked :)
  rw [h]
  exact s.walked_stages.vehicle

theorem State.applyStaged_ecoGoesOn : s.EcoGoesOn s.applyStaged := by
  have h : s.applyStaged.vehicle = s.walked.vehicle := (congrArg State.vehicle s.applyStaged_walked :)
  have heco := s.walked_stages.eco
  unfold State.EcoGoesOn at heco ⊢
  rw [h]
  exact heco

theorem State.applyStaged_staging : s.applyStaged.staging = { s.staging with entries := Staging.empty.entries } := by
  have hwalked : s.aborted.deriveSuppression.staging = s.staging :=
    ((congrArg State.staging s.aborted.deriveSuppression_frame :).trans (congrArg State.staging s.aborted_rest :)).trans
      s.walked_stages.staging
  rw [s.applyStaged_form, hwalked]

theorem State.walked_service : s.walked.port .service = s.port .service := s.walked_stages.service

theorem State.applyStaged_service : s.applyStaged.port .service = s.aborted.port .service :=
  s.aborted.deriveSuppression_port (by decide)

theorem State.applyStaged_capture : s.applyStaged.capture = s.aborted.capture :=
  (congrArg State.capture s.aborted.deriveSuppression_frame :)

/-! ## Captures (R51, R52) -/

theorem State.capturePayload_map : capturePayload .map 0 = 0x4000 := by decide

/-- A capture of a position that the commit reset or left without a fit aborts, any other goes on. -/
theorem State.applyStaged_commitsCapture {t : State} (h : s.applyStaged.Resembles t)
    (hdone : ∀ n ∈ (s.applyStaged.port .service).queue, n.kind = .captureDone → n ∈ (t.port .service).queue) :
    s.CommitsCaptureIn t 15 := by
  have hwalkedCapture : s.walked.capture = s.capture := s.walked_stages.capture
  have hcapture : t.capture = s.aborted.capture := h.capture.trans s.applyStaged_capture
  refine ⟨fun hnone => ?_, fun c hc => ⟨fun hunstaged => ?_, fun e he => ?_⟩⟩
  · rw [hcapture, State.aborted, State.abortMoved, hwalkedCapture, hnone]
    exact hwalkedCapture.trans hnone
  · have hnot : s.stagedPositions.contains c.position = false := by
      rw [← Bool.not_eq_true, List.contains_iff_mem, State.mem_stagedPositions, Staging.holds, hunstaged]
      exact Bool.false_ne_true
    rw [hcapture, State.aborted, State.abortMoved, hwalkedCapture, hc]
    simp only [hnot, Bool.false_and, Bool.false_eq_true, if_false]
    exact hwalkedCapture.trans hc
  · have hstaged : s.stagedPositions.contains c.position = true := by
      rw [List.contains_iff_mem, State.mem_stagedPositions, Staging.holds, he]
      rfl
    have hentry : s.walked.entry c.position = e :=
      (s.walked_stages.entry _).trans ((s.stagedMap_get _).trans (by rw [State.swapSource, he, Option.getD_some]))
    have hpos : t.pos c.position = s.walked.pos c.position := (h.pos _).trans (s.applyStaged_pos _)
    have haborted : s.aborted = if s.RebindsTo c.position e ∨ (t.pos c.position).fit ≠ .fits then s.walked.abortCapture .map
        else s.walked := by
      unfold State.aborted State.abortMoved
      rw [hwalkedCapture, hc]
      simp only [hstaged, Bool.true_and, hentry, Bool.or_eq_true, decide_eq_true_eq, hpos, s.rebindsTo_iff]
      rfl
    refine ⟨fun haborts => ?_, fun hkept hfits => ?_⟩
    · rw [if_pos haborts] at haborted
      refine ⟨by rw [hcapture, haborted, State.abortCapture_capture], fun hroom => ?_⟩
      have htells := State.abortCapture_tells (s := s.walked) .map (hwalkedCapture.trans hc)
      obtain ⟨n, hn, hkind, hsubject, hpayload, hscan⟩ := htells (by rw [s.walked_service]; exact hroom)
      refine ⟨n, hdone n ?_ hkind, hkind, hsubject, hpayload.trans State.capturePayload_map,
        hscan.trans (congrArg Scanner.number s.walked_stages.scanner)⟩
      rw [s.applyStaged_service, haborted]
      exact hn
    · rw [if_neg (by rintro (k | k); exacts [hkept k, k hfits])] at haborted
      rw [hcapture, haborted]
      exact hwalkedCapture.trans hc

/-! ## The decision and the safety port (R80, R86, R107, R108) -/

theorem State.aborted_restraint : s.aborted.restraint = s.restraint :=
  (congrArg State.restraint s.aborted_rest :).trans s.walked_stages.restraint

theorem State.walked_safety :
    ∃ n, Received (fun k m => ∃ p ∈ s.stagedPositions, ClassNotice p k m) (s.port .safety).queue n (s.walked.port .safety).queue :=
  s.walked_stages.safety

theorem State.applyStaged_derived : s.Derived s.applyStaged := by
  have hdecisions : (s.aborted.port .safety).queue.filter (fun n => n.kind = .suppressionChanged) =
      (s.port .safety).queue.filter fun n => n.kind = .suppressionChanged := by
    obtain ⟨n, hn⟩ := s.walked_safety
    rw [s.aborted_safety]
    refine hn.filter_kind fun m hm => ?_
    obtain ⟨p, -, hkind, -⟩ := hm
    cases hkind
  have hderived := s.aborted.deriveSuppression_derived.of_before s.aborted_restraint hdecisions
  rw [s.applyStaged_form]
  exact hderived.congr rfl rfl rfl

/-- A changed decision is told, where the classes leave it room (R108). -/
theorem State.applyStaged_tellsDecision (hlegal : queueLegal (s.port .safety).queue)
    (hroom : (s.port .safety).queue.length + s.stagedPositions.length < 16) : s.TellsDecision s.applyStaged := by
  obtain ⟨n, hn⟩ := s.walked_safety
  have hlength := hn.length_le_keys hlegal
  have htells := State.deriveSuppression_tells (s := s.aborted) (by rw [s.aborted_safety]; omega)
  have hnumber : s.aborted.scanner.number = s.scanner.number :=
    (congrArg (fun u : State => u.scanner.number) s.aborted_rest :).trans (congrArg Scanner.number s.walked_stages.scanner)
  unfold State.TellsDecision at htells ⊢
  rw [s.aborted_restraint, hnumber] at htells
  rw [s.applyStaged_form]
  exact htells

/-- The class of a staged position that changed is told, where the classes of the others leave it room (R80, R86). -/
theorem State.applyStaged_told {p : Pos} (hlegal : queueLegal (s.port .safety).queue)
    (hroom : (s.port .safety).queue.length + s.stagedPositions.length ≤ 16) (hp : p ∈ s.stagedPositions)
    (hsequence : (s.applyStaged.pos p).cls.sequence ≠ (s.pos p).cls.sequence) : s.applyStaged.ClassTold p := by
  rw [s.applyStaged_pos] at hsequence
  have htold : s.walked.ClassTold p := (s.walked_told p hlegal hroom hp).resolve_left hsequence
  have haborted : s.aborted.ClassTold p := by
    refine htold.congr ?_ (congrArg PortState.queue s.aborted_safety) (congrArg (fun u : State => u.scanner.number) s.aborted_rest :)
    exact (congrArg (fun u : State => (u.pos p).cls) s.aborted_rest :)
  have hcls : (s.aborted.deriveSuppression.pos p).cls = (s.aborted.pos p).cls := by rw [State.deriveSuppression_pos]
  have hderived : s.aborted.deriveSuppression.ClassTold p := by
    unfold State.ClassTold
    rw [hcls]
    refine haborted.mono s.aborted.deriveSuppression_received (fun h => nomatch h.1) ?_
    exact (congrArg (fun u : State => u.scanner.number) s.aborted.deriveSuppression_frame :)
  rw [s.applyStaged_form]
  exact hderived

/-! ## What a state after a commit shows -/

section
variable {s} {t : State} (h : s.applyStaged.Resembles t)
include h

theorem State.Resembles.committedConfig : t.config = { s.config with map := s.stagedMap } := h.config.trans s.applyStaged_map

theorem State.Resembles.committed {p : Pos} {e : MapEntry} (he : s.staging.entries.get p = some e) : s.Committed t p e :=
  State.committed_of he ((h.pos p).trans (s.applyStaged_pos p)) (h.config.trans s.applyStaged_map)
    (fun l a => (h.node l a).trans (by rw [State.node, s.applyStaged_scanner, State.node]))
    (h.ignition.trans s.applyStaged_ignition)
    (h.speed.trans (congrArg Vehicle.speed s.applyStaged_vehicle :))

theorem State.Resembles.unstaged {p : Pos} (hp : s.staging.entries.get p = none) : t.pos p = s.pos p :=
  ((h.pos p).trans (s.applyStaged_pos p)).trans (State.walked_pos_unstaged (by rw [Staging.holds, hp]; rfl))

variable (hrestraint : t.restraint = s.applyStaged.restraint)
  (hsafety : (t.port .safety).queue = (s.applyStaged.port .safety).queue)
include hrestraint hsafety

theorem State.Resembles.derived : s.Derived t := by
  obtain ⟨hstate, hdiffers, hsame⟩ := s.applyStaged_derived
  rw [← h.decision, ← hrestraint] at hstate hdiffers hsame
  rw [← hsafety] at hsame
  exact ⟨hstate, hdiffers, hsame⟩

variable (hlegal : queueLegal (s.port .safety).queue)
include hlegal

theorem State.Resembles.tellsDecision (hroom : (s.port .safety).queue.length + s.stagedPositions.length < 16) :
    s.TellsDecision t := by
  have htells := s.applyStaged_tellsDecision hlegal hroom
  unfold State.TellsDecision at htells ⊢
  rw [h.decision, hrestraint, hsafety]
  exact htells

omit hrestraint in
/-- A class that a commit changed stands in the safety queue (R80, R86). -/
theorem State.Resembles.tells {p : Pos} {e : MapEntry} (he : s.staging.entries.get p = some e)
    (hroom : (s.port .safety).queue.length + s.stagedPositions.length ≤ 16)
    (hsequence : (t.pos p).cls.sequence ≠ (s.pos p).cls.sequence) :
    ∃ n ∈ (t.port .safety).queue, n.kind = .classChanged ∧ n.subject = p.val + 1 ∧
      n.payload = oneByte ((t.pos p).cls.stable.code * 16 + (t.pos p).cls.cause.code) ++ (t.pos p).cls.sequence ∧
      n.scan = s.scanner.number := by
  have hp : p ∈ s.stagedPositions := State.mem_stagedPositions.2 (by rw [Staging.holds, he]; rfl)
  rw [h.pos] at hsequence
  obtain ⟨n, hn, hkind, hsubject, hpayload, hscan⟩ := s.applyStaged_told hlegal hroom hp hsequence
  rw [s.applyStaged_scanner] at hscan
  rw [hsafety, h.pos]
  exact ⟨n, hn, hkind, hsubject, hpayload.trans (ClassRec.payload_eq _), hscan⟩

end

end

end Sys2Proof.Machine

/-! COMMIT MAP (R12), and the conditions of a consistent map (R2). -/

namespace Sys2Proof.Machine

/-! ## Consistent maps (R2) -/

section
variable (m : PerPos MapEntry)

theorem bindingsDistinct_iff : bindingsDistinct m = true ↔
    ∀ p q : Pos, p ≠ q → (m.get p).enabled = true → (m.get q).enabled = true →
      ¬ ((m.get p).line = (m.get q).line ∧ (m.get p).address = (m.get q).address ∧ (m.get p).slot = (m.get q).slot) := by
  simp only [bindingsDistinct, List.all_eq_true, mem_allPos, true_implies, Bool.or_eq_true, decide_eq_true_eq, Bool.not_eq_true',
    Bool.and_eq_false_iff, MapEntry.sameBinding, decide_eq_false_iff_not]
  refine forall_congr' fun p => forall_congr' fun q => ?_
  cases (m.get p).enabled with
  | false => simp
  | true =>
    cases (m.get q).enabled with
    | false => simp
    | true =>
      simp only [Bool.true_eq_false, false_or, true_implies]
      tauto

theorem airbagUnique_iff : airbagUnique m = true ↔
    ∀ p : Pos, (m.get p).enabled = true → (m.get p).airbagZone = true → (m.get p).kind = .front ∧
      ∀ q : Pos, q ≠ p → (m.get q).enabled = true → (m.get q).airbagZone = false := by
  simp only [airbagUnique, List.all_eq_true, mem_allPos, true_implies, Bool.or_eq_true, Bool.not_eq_true', MapEntry.isAirbag,
    Bool.and_eq_true, decide_eq_true_eq, Bool.and_eq_false_iff]
  refine forall_congr' fun p => ?_
  constructor
  · intro h he hz
    obtain ⟨hkind, hothers⟩ := h.resolve_left (by rw [he, hz]; simp)
    exact ⟨hkind, fun q hq hqe => ((hothers q).resolve_left fun h => hq h.symm).resolve_left (by rw [hqe]; simp)⟩
  · intro h
    cases he : (m.get p).enabled with
    | false => exact .inl (.inl rfl)
    | true =>
      cases hz : (m.get p).airbagZone with
      | false => exact .inl (.inr rfl)
      | true =>
        obtain ⟨hkind, hothers⟩ := h he hz
        refine .inr ⟨hkind, fun q => ?_⟩
        by_cases hq : q = p
        · exact .inl hq.symm
        · cases hqe : (m.get q).enabled with
          | false => exact .inr (.inl rfl)
          | true => exact .inr (.inr (hothers q hq hqe))

theorem driverFirst_iff : driverFirst m = true ↔ (m.get 0).enabled = true ∧ (m.get 0).kind = .driver := by
  simp [driverFirst]

theorem driverOnly_iff : driverOnly m = true ↔ ∀ p : Pos, p ≠ 0 → (m.get p).kind ≠ .driver := by
  simp only [driverOnly, List.all_eq_true, mem_allPos, true_implies, Bool.or_eq_true, decide_eq_true_eq]
  exact forall_congr' fun p => or_iff_not_imp_left

theorem rowsAgree_iff : rowsAgree m = true ↔
    ∀ p : Pos, if (m.get p).kind = .rear then 2 ≤ (m.get p).row ∧ (m.get p).row ≤ 5 else (m.get p).row = 1 := by
  simp only [rowsAgree, List.all_eq_true, mem_allPos, true_implies]
  refine forall_congr' fun p => ?_
  split <;> simp [within]

theorem mapConsistent_iff : mapConsistent m = true ↔
    (∀ p q : Pos, p ≠ q → (m.get p).enabled = true → (m.get q).enabled = true →
      ¬ ((m.get p).line = (m.get q).line ∧ (m.get p).address = (m.get q).address ∧ (m.get p).slot = (m.get q).slot)) ∧
    (∀ p : Pos, (m.get p).enabled = true → (m.get p).airbagZone = true → (m.get p).kind = .front ∧
      ∀ q : Pos, q ≠ p → (m.get q).enabled = true → (m.get q).airbagZone = false) ∧
    ((m.get 0).enabled = true ∧ (m.get 0).kind = .driver) ∧
    (∀ p : Pos, p ≠ 0 → (m.get p).kind ≠ .driver) ∧
    (∀ p : Pos, if (m.get p).kind = .rear then 2 ≤ (m.get p).row ∧ (m.get p).row ≤ 5 else (m.get p).row = 1) := by
  rw [mapConsistent, Bool.and_eq_true, Bool.and_eq_true, Bool.and_eq_true, Bool.and_eq_true, bindingsDistinct_iff, airbagUnique_iff,
    driverFirst_iff, driverOnly_iff, rowsAgree_iff, and_assoc, and_assoc, and_assoc]

end

/-! ## The answer of COMMIT MAP -/

section
variable {s : State}

theorem Staging.count_eq_zero (g : Staging) : g.count = 0 ↔ ¬ ∃ p : Pos, (g.entries.get p).isSome = true := by
  simp [Staging.count, Staging.holds, List.filter_eq_nil_iff, mem_allPos]

theorem State.commitAnswer_empty (h : ¬ ∃ p : Pos, (s.staging.entries.get p).isSome = true) : s.commitAnswer = s.answer .ok :=
  if_pos (s.staging.count_eq_zero.2 h)

variable (h : ∃ p : Pos, (s.staging.entries.get p).isSome = true)
include h

theorem State.commitAnswer_staged : s.commitAnswer =
    if s.holdActive then s.answer .locked
    else if s.saving then s.answer .busy
    else if s.staging.deferred then s.answer .busy
    else if !mapConsistent s.stagedMap then s.answer .conflict
    else if s.standstill then s.applyStaged.answer .ok
    else { s with staging := { s.staging with deferred := true } }.answer .deferred :=
  if_neg fun hzero => s.staging.count_eq_zero.1 hzero h

theorem State.commitAnswer_locked (hhold : s.holdActive = true) : s.commitAnswer = s.answer .locked := by
  rw [State.commitAnswer_staged h, if_pos hhold]

theorem State.commitAnswer_busy (hhold : s.holdActive = false) (hbusy : s.saving = true ∨ s.staging.deferred = true) :
    s.commitAnswer = s.answer .busy := by
  rw [State.commitAnswer_staged h, if_neg (by rw [hhold]; exact Bool.false_ne_true)]
  cases hsave : s.saving with
  | true => rfl
  | false =>
    rw [if_neg Bool.false_ne_true]
    exact if_pos (hbusy.resolve_left (by rw [hsave]; exact Bool.false_ne_true))

variable (hhold : s.holdActive = false) (hsave : s.saving = false) (hdeferred : s.staging.deferred = false)
include hhold hsave hdeferred

theorem State.commitAnswer_free : s.commitAnswer =
    if !mapConsistent s.stagedMap then s.answer .conflict
    else if s.standstill then s.applyStaged.answer .ok
    else { s with staging := { s.staging with deferred := true } }.answer .deferred := by
  rw [State.commitAnswer_staged h, hhold, hsave, hdeferred]
  rfl

theorem State.commitAnswer_conflict (hmap : mapConsistent s.stagedMap = false) : s.commitAnswer = s.answer .conflict := by
  rw [State.commitAnswer_free h hhold hsave hdeferred, hmap]
  rfl

theorem State.commitAnswer_deferred (hmap : mapConsistent s.stagedMap = true) (hstill : s.standstill = false) :
    s.commitAnswer = ({ s with staging := { s.staging with deferred := true } } : State).answer .deferred := by
  rw [State.commitAnswer_free h hhold hsave hdeferred, hmap, hstill]
  rfl

theorem State.commitAnswer_applied (hmap : mapConsistent s.stagedMap = true) (hstill : s.standstill = true) :
    s.commitAnswer = s.applyStaged.answer .ok := by
  rw [State.commitAnswer_free h hhold hsave hdeferred, hmap, hstill]
  rfl

end

/-! ## A commit that is applied -/

section
variable (s : State)

theorem State.stagedPositions_length : s.stagedPositions.length ≤ 16 :=
  (List.length_filter_le _ _).trans (by decide)

/-- Where some position has no staged entry there are fewer than 16 staged ones. -/
theorem State.stagedPositions_length_lt (h : ∃ q : Pos, s.staging.entries.get q = none) : s.stagedPositions.length < 16 := by
  obtain ⟨q, hq⟩ := h
  have hlt : (allPos.filter s.staging.holds).length < allPos.length := by
    rw [List.length_filter_lt_length_iff_exists]
    exact ⟨q, mem_allPos q, by rw [Staging.holds, hq]; exact Bool.false_ne_true⟩
  exact hlt

theorem State.received_standstill (p : Port) : (s.received p).standstill = s.standstill := by rw [s.received_form p]; rfl

theorem State.received_saving (p : Port) : (s.received p).saving = s.saving := by rw [s.received_form p]; rfl

theorem State.received_stagedMap (p : Port) : (s.received p).stagedMap = s.stagedMap := by
  rw [s.received_form p]
  rfl

theorem State.received_store (p : Port) : (s.received p).store = s.store := by rw [s.received_form p]

theorem State.applyStaged_store : s.applyStaged.store = s.store := (congrArg State.store s.applyStaged_rest :)

/-- A commit goes on with the countdown of a received frame, or with that from full. -/
theorem State.EcoGoesOn.received {t : State} {p : Port} (h : (s.received p).EcoGoesOn t) :
    t.vehicle.eco = none ∨ t.vehicle.eco = some s.ecoFull := by
  have hfull : (s.received p).ecoFull = s.ecoFull := by
    show (s.received p).config.settings.ecoTime * 1000 * Config.quantaPerMs = _
    rw [s.received_config]
    rfl
  unfold State.EcoGoesOn at h
  rw [hfull] at h
  rcases s.received_eco p with he | he <;> rw [he] at h
  · exact .inl (h.elim id id)
  · exact .inr (h.elim id id)

end

/-! ## The obligation -/

/-- A commit taken with the gate open, as the answer to its frame (R12, R14 to R16). -/
theorem State.commit_applies {s : State} {chk : Byte} (hready : s.ready .service) (hsound : soundFrame 0x65 [] chk)
    (hstaged : ∃ p : Pos, (s.staging.entries.get p).isSome = true) (hhold : s.holdActive = false) (hsave : s.saving = false)
    (hdeferred : s.staging.deferred = false) (hmap : mapConsistent s.stagedMap = true) (hstill : s.standstill = true) :
    ∃ t, exec (.commitMap .service chk) s = .next t ∧ s.Heard t ∧ t.replied .service 0x65 .ok [] ∧
      (s.received .service).applyStaged.Resembles t ∧ t.staging = (s.received .service).applyStaged.staging ∧
      (t.port .service).queue = ((s.received .service).applyStaged.port .service).queue ∧ t.restraint = (s.received .service).applyStaged.restraint ∧
      t.port .safety = (s.received .service).applyStaged.port .safety ∧ t.store = s.store := by
  have hact : (s.received .service).commitAnswer = (s.received .service).applyStaged.answer .ok := by
    refine State.commitAnswer_applied ?_ ?_ ?_ ?_ ?_ ?_
    · rw [State.received_staging]; exact hstaged
    · rw [State.received_holdActive]; exact hhold
    · rw [State.received_saving]; exact hsave
    · rw [State.received_staging]; exact hdeferred
    · rw [State.received_stagedMap]; exact hmap
    · rw [State.received_standstill]; exact hstill
  have hmode : (s.received .service).applyStaged.vehicle.mode = .run :=
    (congrArg Vehicle.mode (s.received .service).applyStaged_vehicle :).trans (s.received_mode .service)
  have hsettings : (s.received .service).applyStaged.config.settings = s.config.settings := by
    rw [State.applyStaged_map]
    show (s.received .service).config.settings = _
    rw [State.received_config]
  have htimer := congrArg Scanner.timer (s.received .service).applyStaged_scanner
  have heco := (s.received .service).applyStaged_ecoGoesOn.received s
  have hstore := (s.received .service).applyStaged_store.trans (s.received_store .service)
  generalize (s.received .service).applyStaged = u at hact hmode htimer heco hsettings hstore ⊢
  obtain ⟨t, htake, hheard, hreplied, -, hport, hsame⟩ := State.takeFrame_effect hready hsound rfl rfl hact hmode htimer heco hsettings
  have hqueue (q : Port) : (t.port q).queue = (u.port q).queue := by
    rw [hport]
    split
    next h => rw [h]
    · rfl
  refine ⟨t, congrArg Host.Outcome.next htake, hheard, hreplied, ⟨⟨fun p => ?_, ?_, ?_, ?_, ?_⟩, ?_, ?_⟩, ?_, hqueue _, ?_, ?_, ?_⟩
  · exact (congrArg (fun u : State => u.pos p) hsame :)
  · exact (congrArg State.config hsame :)
  · exact (congrArg State.capture hsame :)
  · exact (congrArg (fun u : State => u.scanner.lines) hsame :)
  · exact (congrArg (fun u : State => u.scanner.number) hsame :)
  · exact (congrArg (fun u : State => u.vehicle.ignition) hsame :)
  · exact (congrArg (fun u : State => u.vehicle.speed) hsame :)
  · exact (congrArg State.staging hsame :)
  · exact (congrArg State.restraint hsame :)
  · rw [hport, if_neg (by decide)]
  · exact (congrArg State.store hsame :).trans hstore

/-- Settles O42: the first case of the answer, and for an applied commit the record, capture and queues of its stages. -/
theorem commitMapDecidesByFirstCase : Obligations.CommitMapDecidesByFirstCase := by
  unfold Obligations.CommitMapDecidesByFirstCase
  refine ⟨fun s chk hready hsound => ?_, fun s p => ?_, mapConsistent_iff⟩
  · have hstaged {h : ∃ p : Pos, (s.staging.entries.get p).isSome = true} :
        ∃ p : Pos, ((s.received .service).staging.entries.get p).isSome = true := by rw [State.received_staging]; exact h
    intro i staged
    refine ⟨fun h => ?_, fun h hhold => ?_, fun h hhold hbusy => ?_, fun h hhold hsave hdeferred =>
      ⟨fun hmap => ?_, fun hmap hstill => ?_, fun hmap hstill => ?_⟩⟩
    · exact State.answers_unchanged rfl hready hsound rfl rfl (State.commitAnswer_empty (by rw [State.received_staging]; exact h))
    · exact State.answers_unchanged rfl hready hsound rfl rfl
        (State.commitAnswer_locked (hstaged (h := h)) ((s.received_holdActive _).trans hhold))
    · refine State.answers_unchanged rfl hready hsound rfl rfl
        (State.commitAnswer_busy (hstaged (h := h)) ((s.received_holdActive _).trans hhold) ?_)
      rw [State.received_saving, State.received_staging]
      exact hbusy
    · exact State.answers_unchanged rfl hready hsound rfl rfl (State.commitAnswer_conflict (hstaged (h := h))
        ((s.received_holdActive _).trans hhold) ((s.received_saving _).trans hsave)
        ((congrArg Staging.deferred (s.received_staging _)).trans hdeferred)
        ((congrArg mapConsistent (s.received_stagedMap _)).trans hmap))
    · refine State.answers_staging rfl hready hsound rfl rfl ((State.commitAnswer_deferred (hstaged (h := h))
        ((s.received_holdActive _).trans hhold) ((s.received_saving _).trans hsave)
        ((congrArg Staging.deferred (s.received_staging _)).trans hdeferred)
        ((congrArg mapConsistent (s.received_stagedMap _)).trans hmap) ((s.received_standstill _).trans hstill)).trans ?_)
      rw [State.received_staging]
      rfl
    · obtain ⟨t, hexec, hheard, hreplied, halike, hstaging, hservice, hrestraint, hsafety, hstore⟩ :=
        State.commit_applies hready hsound h hhold hsave hdeferred hmap hstill
      have hsource := s.received_alike .service
      have hsafetyQueue := congrArg PortState.queue hsafety
      have hsafetySource : (s.received .service).port .safety = s.port .safety := by rw [State.received_port, if_neg (by decide)]
      have hnumber : (s.received .service).scanner.number = s.scanner.number := hsource.number
      have hrestraintSource := s.received_restraint .service
      have hlegal (hqueue : (s.port .safety).queue = []) : queueLegal ((s.received .service).port .safety).queue := by
        rw [hsafetySource, hqueue]
        exact ⟨Nat.zero_le _, List.nodup_nil⟩
      have hlength (hqueue : (s.port .safety).queue = []) : ((s.received .service).port .safety).queue.length = 0 := by
        rw [hsafetySource, hqueue]
        rfl
      refine ⟨t, hexec, hheard, hreplied, ?_, fun p => ?_, ?_, ?_, ?_, fun hqueue hsome => ?_, fun p hp => ?_, fun p e he =>
        ⟨?_, fun hsequence hqueue => ?_⟩, hstore, ?_, ?_, fun l a => ?_⟩
      · rw [halike.committedConfig, State.received_config, State.received_stagedMap]
      · rw [hstaging, State.applyStaged_staging]
        exact Staging.empty_entries p
      · rw [hstaging, State.applyStaged_staging, State.received_staging]
        exact hdeferred
      · exact (halike.derived hrestraint hsafetyQueue).of_before hrestraintSource (by rw [hsafetySource])
      · exact hsource.commitsCapture (State.applyStaged_commitsCapture _ halike fun n hn _ => by rwa [hservice])
      · have hstagedRoom := (s.received .service).stagedPositions_length_lt (by rwa [State.received_staging])
        have htells := halike.tellsDecision hrestraint hsafetyQueue (hlegal hqueue) (by rw [hlength hqueue]; omega)
        unfold State.TellsDecision at htells
        rw [hrestraintSource, hnumber] at htells
        exact htells
      · exact (halike.unstaged (by rwa [State.received_staging])).trans (s.received_pos _ p)
      · exact hsource.committed (halike.committed (by rwa [State.received_staging]))
      · have htells := halike.tells hsafetyQueue (hlegal hqueue) (he := (by rwa [State.received_staging]))
          (by rw [hlength hqueue]; exact (Nat.zero_add _).trans_le (State.stagedPositions_length _)) (by rwa [State.received_pos])
        rwa [hnumber] at htells
      · rw [hrestraint]
        exact ((congrArg (fun u : State => u.restraint.hold) (s.received .service).applyStaged_rest :)).trans
          (congrArg Restraint.hold hrestraintSource)
      · exact halike.number.trans ((congrArg Scanner.number (State.applyStaged_scanner _)).trans hnumber)
      · rw [halike.node, State.node, State.applyStaged_scanner]
        exact hsource.node l a
  · rw [State.stagedMap_get, State.swapSource]
    cases s.staging.entries.get p <;> rfl

end Sys2Proof.Machine

/-! A taken vehicle report by its parts (R122, R124, R125, R128), and what a deferred commit that it lets apply leaves of them. -/

namespace Sys2Proof.Machine

/-! ## The watch at a report -/

section
variable (s : State) (before : Ignition)

/-- The watch timer after the watch at a taken report (R125, R128). -/
def State.watchAfter : Option Nat :=
  match s.vehicle.ignition with
  | .off =>
    if before = .run ∧ s.watching = false then
      if ∃ p, s.startsWatched p = true then some (seconds s.config.settings.firstDelay) else none
    else s.vehicle.watch
  | .run | .acc => none
  | .unknown => s.vehicle.watch

theorem State.startWatch_watch (h : s.watching = false) : s.startWatch.vehicle.watch =
    if ∃ p, s.startsWatched p = true then some (seconds s.config.settings.firstDelay) else none := by
  unfold State.startWatch
  rw [if_neg (by rw [h]; exact Bool.false_ne_true)]
  exact if_congr (any_allPos _) rfl rfl

theorem State.watchReport_watch : (s.watchReport before).vehicle.watch = s.watchAfter before := by
  unfold State.watchReport State.watchAfter
  cases s.vehicle.ignition with
  | off =>
    simp only
    by_cases hrun : before = .run
    · rw [if_pos hrun]
      cases hwatching : s.watching with
      | true =>
        rw [if_neg fun k => Bool.false_ne_true k.2.symm]
        unfold State.startWatch
        rw [if_pos hwatching]
      | false =>
        rw [if_pos ⟨hrun, rfl⟩]
        exact s.startWatch_watch hwatching
    · rw [if_neg hrun, if_neg fun k => hrun k.1]
  | run => rfl
  | acc => rfl
  | unknown => rfl

theorem State.watchReport_vehicle : (s.watchReport before).vehicle = { s.vehicle with watch := s.watchAfter before } := by
  have hrest : { (s.watchReport before).vehicle with watch := s.vehicle.watch } = s.vehicle :=
    (congrArg State.vehicle (s.watchReport_rest before) :)
  rw [← s.watchReport_watch]
  generalize (s.watchReport before).vehicle = v at hrest ⊢
  exact (congrArg (fun x : Vehicle => { x with watch := v.watch }) hrest :)

end

/-! ## A report before a deferred commit -/

/-- t with what a report may change put back from s. -/
def State.reportBack (s t : State) : State :=
  { t with
    positions := s.positions, capture := s.capture, ports := s.ports, reminderTimer := s.reminderTimer, vehicle := s.vehicle }

section
variable {s t u : State}

theorem State.reportBack_lost (h : { u with
    positions := t.positions, capture := t.capture, ports := t.ports, reminderTimer := t.reminderTimer, vehicle := t.vehicle } = t)
    (ht : s.reportBack t = s) : s.reportBack u = s := by
  have hu := congrArg s.reportBack h
  exact hu.trans ht

theorem State.reportBack_watched (ht : s.reportBack t = s)
    (h : { u with positions := t.positions, vehicle := { u.vehicle with watch := t.vehicle.watch } } = t) : s.reportBack u = s := by
  have hu := congrArg s.reportBack h
  exact hu.trans ht

theorem State.reportBack_evaluated (h : t.reminderBack u = t) (ht : s.reportBack t = s) : s.reportBack u = s := by
  have hu := congrArg s.reportBack h
  exact hu.trans ht

theorem State.capture_of_reminderBack (h : s.reminderBack t = s) : t.capture = s.capture := (congrArg State.capture h :)

theorem State.port_of_watchReport (s : State) (before : Ignition) (q : Port) : (s.watchReport before).port q = s.port q :=
  (congrArg (fun u : State => u.port q) (s.watchReport_rest before) :)

theorem State.capture_of_watchReport (s : State) (before : Ignition) : (s.watchReport before).capture = s.capture :=
  (congrArg State.capture (s.watchReport_rest before) :)

end

section
variable (s : State) (i : Ignition) (speed : Nat) (g : Gear) (d : Door)

/-- The state after a report is stored and a lost standstill has taken effect (R122, R124 step 2). -/
def State.reportLost : State :=
  if s.standstill && !(s.storeReport i speed g d).standstill then (s.storeReport i speed g d).loseStandstill
  else s.storeReport i speed g d

theorem State.reportTaken_eq : s.reportTaken i speed g d =
    ((s.reportLost i speed g d).watchReport s.vehicle.ignition).forPositions allPos fun p s => s.evaluate p := rfl

theorem State.reportLost_lost (h : s.standstill = true) (h' : (s.storeReport i speed g d).standstill = false) :
    s.reportLost i speed g d = (s.storeReport i speed g d).loseStandstill := if_pos (by rw [h, h']; rfl)

theorem State.reportLost_kept (h : s.standstill = false ∨ (s.storeReport i speed g d).standstill = true) :
    s.reportLost i speed g d = s.storeReport i speed g d := by
  refine if_neg fun hlost => ?_
  obtain ⟨hheld, hnow⟩ := Bool.and_eq_true_iff.1 hlost
  rw [Bool.not_eq_true'] at hnow
  rcases h with h | h
  · exact Bool.false_ne_true (h.symm.trans hheld)
  · exact Bool.false_ne_true (hnow.symm.trans h)

theorem State.reportLost_cases : s.reportLost i speed g d = s.storeReport i speed g d ∨
    s.reportLost i speed g d = (s.storeReport i speed g d).loseStandstill := by
  unfold State.reportLost
  split
  · exact .inr rfl
  · exact .inl rfl

theorem State.reportLost_rest : s.reportBack (s.reportLost i speed g d) = s := by
  rcases s.reportLost_cases i speed g d with h | h <;> rw [h]
  · rfl
  · exact State.reportBack_lost (s.storeReport i speed g d).loseStandstill_rest rfl

/-- A report leaves of a position all but the injection, the watched flag and the reminder. -/
theorem State.reportLost_pos (p : Pos) : (s.reportLost i speed g d).pos p = s.pos p ∨
    (s.reportLost i speed g d).pos p = { s.pos p with injection := none } := by
  rcases s.reportLost_cases i speed g d with h | h <;> rw [h]
  · exact .inl rfl
  · rw [State.loseStandstill_pos]
    split
    · exact .inr rfl
    · exact .inl rfl

theorem State.reportLost_vehicle : { (s.reportLost i speed g d).vehicle with testMode := s.vehicle.testMode } =
    (s.storeReport i speed g d).vehicle := by
  rcases s.reportLost_cases i speed g d with h | h <;> rw [h]
  · rfl
  · rw [State.loseStandstill_vehicle]
    rfl

/-- The state after the watch at a report, before the evaluations. -/
def State.reportWatched : State := (s.reportLost i speed g d).watchReport s.vehicle.ignition

theorem State.reportTaken_back : (s.reportWatched i speed g d).reminderBack (s.reportTaken i speed g d) = s.reportWatched i speed g d :=
  State.forPositions_reminder (fun p s => s.evaluate_frame p) _ _

theorem State.reportWatched_vehicle : (s.reportWatched i speed g d).vehicle =
    { (s.reportLost i speed g d).vehicle with watch := (s.reportLost i speed g d).watchAfter s.vehicle.ignition } :=
  State.watchReport_vehicle _ _

theorem State.reportTaken_vehicle : (s.reportTaken i speed g d).vehicle =
    { (s.reportLost i speed g d).vehicle with watch := (s.reportLost i speed g d).watchAfter s.vehicle.ignition } :=
  (State.vehicle_of_reminderBack (s.reportTaken_back i speed g d)).trans (s.reportWatched_vehicle i speed g d)

theorem State.reportTaken_port {q : Port} (hq : q ≠ .cabin) :
    (s.reportTaken i speed g d).port q = (s.reportLost i speed g d).port q :=
  (State.port_of_reminderBack (s.reportTaken_back i speed g d) hq).trans (State.port_of_watchReport _ _ q)

theorem State.reportTaken_capture : (s.reportTaken i speed g d).capture = (s.reportLost i speed g d).capture :=
  (State.capture_of_reminderBack (s.reportTaken_back i speed g d)).trans (State.capture_of_watchReport _ _)

/-- A report changes the positions, the capture, the ports, the reminder tick and the vehicle state alone. -/
theorem State.reportTaken_rest : s.reportBack (s.reportTaken i speed g d) = s :=
  State.reportBack_evaluated (s.reportTaken_back i speed g d)
    (State.reportBack_watched (s.reportLost_rest i speed g d) (State.watchReport_rest _ s.vehicle.ignition))

/-- A position after a report: injections of a lost standstill, the watch, and the evaluation with the new report. -/
theorem State.reportTaken_pos (p : Pos) : (s.reportTaken i speed g d).pos p =
    ((s.reportWatched i speed g d).pos p).withReminder
      ((s.reportWatched i speed g d).judged p ((s.reportWatched i speed g d).pos p) ((s.reportWatched i speed g d).pos p).reminder) := by
  obtain ⟨u, hu, hpos, hwalk⟩ := (s.reportWatched i speed g d).forPositions_visit p (f := fun p s => s.evaluate p)
    (fun p s => (s.evaluate_frame p).stages) allPos_nodup (mem_allPos p)
  have hvisit := hwalk.trans (u.evaluate_pos p)
  rw [hpos, hu.judged] at hvisit
  exact hvisit

theorem State.reportWatched_pos (p : Pos) : (s.reportWatched i speed g d).pos p =
    { (s.reportLost i speed g d).pos p with watched := (s.reportLost i speed g d).watchedAfter s.vehicle.ignition p } :=
  State.watchReport_pos _ _ p

theorem State.reportLost_cls (p : Pos) : ((s.reportLost i speed g d).pos p).cls = (s.pos p).cls := by
  rcases s.reportLost_pos i speed g d p with h | h <;> rw [h]

theorem State.reportLost_config : (s.reportLost i speed g d).config = s.config :=
  (congrArg State.config (s.reportLost_rest i speed g d) :)

theorem State.reportLost_entry (p : Pos) : (s.reportLost i speed g d).entry p = s.entry p := by
  rw [State.entry, s.reportLost_config, State.entry]

theorem State.reportLost_startsWatched (p : Pos) : (s.reportLost i speed g d).startsWatched p = s.startsWatched p := by
  rw [State.startsWatched, s.reportLost_entry, s.reportLost_cls, State.startsWatched]

theorem State.reportLost_ignition : (s.reportLost i speed g d).vehicle.ignition = i :=
  (congrArg Vehicle.ignition (s.reportLost_vehicle i speed g d) :)

theorem State.reportLost_watching : (s.reportLost i speed g d).watching = s.watching :=
  (congrArg (fun v : Vehicle => v.watch.isSome) (s.reportLost_vehicle i speed g d) :)

/-- The watched flag of a position after a report (R125, R128). -/
def State.watchedBy (s : State) (i : Ignition) (p : Pos) : Bool :=
  if i ≠ .off then false
  else if s.vehicle.ignition = .run ∧ s.watching = false then s.startsWatched p else (s.pos p).watched

theorem State.reportLost_watched (p : Pos) : ((s.reportLost i speed g d).pos p).watched = (s.pos p).watched := by
  rcases s.reportLost_pos i speed g d p with h | h <;> rw [h]

theorem State.reportLost_watchedAfter (hi : i ≠ .unknown) (p : Pos) :
    (s.reportLost i speed g d).watchedAfter s.vehicle.ignition p = s.watchedBy i p := by
  unfold State.watchedAfter State.watchedBy
  rw [s.reportLost_ignition, s.reportLost_watching, s.reportLost_startsWatched, s.reportLost_watched]
  cases i with
  | off => rfl
  | run => rfl
  | acc => rfl
  | unknown => exact absurd rfl hi

theorem State.reportLost_watchAfter (hi : i ≠ .unknown) : (s.reportLost i speed g d).watchAfter s.vehicle.ignition =
    if i ≠ .off then none
    else if s.vehicle.ignition = .run ∧ s.watching = false then
      if ∃ p, s.startsWatched p = true then some (seconds s.config.settings.firstDelay) else none
    else s.vehicle.watch := by
  have hwatch : (s.reportLost i speed g d).vehicle.watch = s.vehicle.watch :=
    (congrArg Vehicle.watch (s.reportLost_vehicle i speed g d) :)
  unfold State.watchAfter
  simp only [s.reportLost_ignition, s.reportLost_watching, s.reportLost_startsWatched, s.reportLost_config, hwatch]
  cases i with
  | off => rfl
  | run => rfl
  | acc => rfl
  | unknown => exact absurd rfl hi

/-- A position after a report as a function of its record (R93, R98, R124, R125, R128). -/
theorem State.reportTaken_record (hi : i ≠ .unknown) (p : Pos) : (s.reportTaken i speed g d).pos p =
    { s.pos p with
      injection := ((s.reportLost i speed g d).pos p).injection
      watched := s.watchedBy i p
      reminder := (s.pos p).reminder.evaluated (s.entry p).reminderClass (s.pos p).cls.stable (s.pos p).buckle.belt
        (s.storeReport i speed g d).vehicle s.config.settings } := by
  have hconfig : (s.reportWatched i speed g d).config = s.config :=
    (congrArg State.config (State.watchReport_rest _ s.vehicle.ignition) :).trans (s.reportLost_config i speed g d)
  have hignition : (s.reportWatched i speed g d).vehicle.ignition = (s.storeReport i speed g d).vehicle.ignition :=
    (congrArg Vehicle.ignition (s.reportWatched_vehicle i speed g d)).trans
      (congrArg Vehicle.ignition (s.reportLost_vehicle i speed g d) :)
  have hspeed : (s.reportWatched i speed g d).vehicle.speed = (s.storeReport i speed g d).vehicle.speed :=
    (congrArg Vehicle.speed (s.reportWatched_vehicle i speed g d)).trans
      (congrArg Vehicle.speed (s.reportLost_vehicle i speed g d) :)
  have hpos := s.reportWatched_pos i speed g d p
  rw [s.reportLost_watchedAfter i speed g d hi] at hpos
  rw [s.reportTaken_pos, State.judged, State.entry, hconfig, ReminderRec.evaluated_congr _ hignition hspeed, hpos]
  rcases s.reportLost_pos i speed g d p with h | h <;> rw [h] <;> rfl

end

/-! ## A deferred commit after a report -/

section
variable {s : State}

theorem State.applyDeferred_scanner : s.applyDeferred.scanner = s.scanner := by
  by_cases h : s.staging.deferred = false ∨ ¬ s.gateOpen
  · rw [State.applyDeferred_waits h]
  · obtain ⟨hd, hopen⟩ := not_or.1 h
    rw [State.applyDeferred_applies (by simpa using hd) (not_not.1 hopen)]
    have happlied := s.applyStaged_scanner
    generalize s.applyStaged = t at happlied ⊢
    exact happlied

theorem State.applyDeferred_ecoGoesOn : s.EcoGoesOn s.applyDeferred := by
  by_cases h : s.staging.deferred = false ∨ ¬ s.gateOpen
  · rw [State.applyDeferred_waits h]; exact .inl rfl
  · obtain ⟨hd, hopen⟩ := not_or.1 h
    rw [State.applyDeferred_applies (by simpa using hd) (not_not.1 hopen)]
    have happlied := s.applyStaged_ecoGoesOn
    generalize s.applyStaged = t at happlied ⊢
    exact happlied

theorem State.applyDeferred_vehicle : { s.applyDeferred.vehicle with mode := s.vehicle.mode, eco := s.vehicle.eco } = s.vehicle :=
  (congrArg State.vehicle s.applyDeferred_rest :)

theorem State.applyDeferred_settings : s.applyDeferred.config.settings = s.config.settings :=
  (congrArg (fun u : State => u.config.settings) s.applyDeferred_rest :)

/-- What a deferred commit leaves of a watched flag: it stands, or it is cleared with a reset record (R14). -/
theorem State.applyDeferred_watched (p : Pos) (h : (s.pos p).watched = false) : (s.applyDeferred.pos p).watched = false := by
  by_cases hwaits : s.staging.deferred = false ∨ ¬ s.gateOpen
  · rw [State.applyDeferred_waits hwaits]; exact h
  · obtain ⟨hd, hopen⟩ := not_or.1 hwaits
    rw [State.applyDeferred_applies (by simpa using hd) (not_not.1 hopen)]
    have happlied : (s.applyStaged.pos p).watched = false := by
      have hself := State.Resembles.refl s.applyStaged
      cases he : s.staging.entries.get p with
      | none => rw [hself.unstaged he]; exact h
      | some e =>
        have hcommitted := hself.committed he
        by_cases hmoved : s.RebindsTo p e
        · obtain ⟨-, -, -, -, hwatched, -⟩ := hcommitted.resetRecord hmoved
          exact hwatched
        · exact (hcommitted.keptRecord hmoved).1.trans h
    generalize s.applyStaged = t at happlied ⊢
    exact happlied

/-- A commit leaves every reminder asked for that was. -/
theorem State.applyDeferred_askedFor (hs : ∀ q, s.AskedFor q) (q : Pos) : s.applyDeferred.AskedFor q := by
  by_cases h : s.staging.deferred = false ∨ ¬ s.gateOpen
  · rw [State.applyDeferred_waits h]; exact hs q
  · obtain ⟨hd, hopen⟩ := not_or.1 h
    rw [State.applyDeferred_applies (by simpa using hd) (not_not.1 hopen)]
    have happlied := s.applyStaged_askedFor hs q
    generalize s.applyStaged = t at happlied ⊢
    exact happlied

end

end Sys2Proof.Machine

/-! VEHICLE STATE (R122, R124). -/

namespace Sys2Proof.Machine

section
variable {s : State} {ig sp ge dr chk : Byte}

/-! ## The codes of a report -/

/-- The ignition that a report's code in its set names (spec 11.5). -/
def ignitionOf (ig : Byte) : Ignition := if ig = 1 then .off else if ig = 2 then .acc else .run

/-- The gear that a report's code in its set names. -/
def gearOf (ge : Byte) : Gear := if ge = 0 then .park else .other

/-- The door state that a report's code in its set names. -/
def doorOf (dr : Byte) : Door := if dr = 0 then .closed else .opened

theorem ignitionOf_ne_unknown (ig : Byte) : ignitionOf ig ≠ .unknown := by
  unfold ignitionOf
  split
  · decide
  · split
    · decide
    · decide

theorem ofReport_eq (h1 : 1 ≤ ig.toNat) (h3 : ig.toNat ≤ 3) : Ignition.ofReport ig.toNat = some (ignitionOf ig) := by
  have hcases : ig = 1 ∨ ig = 2 ∨ ig = 3 := by bv_omega
  rcases hcases with rfl | rfl | rfl <;> rfl

theorem gearOfCode_eq (h : ge.toNat ≤ 1) : Gear.ofCode ge.toNat = some (gearOf ge) := by
  have hcases : ge = 0 ∨ ge = 1 := by bv_omega
  rcases hcases with rfl | rfl <;> rfl

theorem doorOfCode_eq (h : dr.toNat ≤ 1) : Door.ofCode dr.toNat = some (doorOf dr) := by
  have hcases : dr = 0 ∨ dr = 1 := by bv_omega
  rcases hcases with rfl | rfl <;> rfl

theorem ofReport_eq_none {n : Nat} (h : 3 < n) : Ignition.ofReport n = none := by
  obtain ⟨k, rfl⟩ := Nat.exists_eq_add_of_le' (Nat.succ_le_of_lt h)
  rfl

theorem gearOfCode_eq_none {n : Nat} (h : 1 < n) : Gear.ofCode n = none := by
  obtain ⟨k, rfl⟩ := Nat.exists_eq_add_of_le' (Nat.succ_le_of_lt h)
  rfl

theorem doorOfCode_eq_none {n : Nat} (h : 1 < n) : Door.ofCode n = none := by
  obtain ⟨k, rfl⟩ := Nat.exists_eq_add_of_le' (Nat.succ_le_of_lt h)
  rfl

theorem State.reportAnswer_badArg (h : ig = 0 ∨ 3 < ig.toNat ∨ 1 < ge.toNat ∨ 1 < dr.toNat) :
    s.reportAnswer ig sp ge dr = s.answer .badArg := by
  have hnone : Ignition.ofReport ig.toNat = none ∨ Gear.ofCode ge.toNat = none ∨ Door.ofCode dr.toNat = none := by
    rcases h with rfl | h | h | h
    · exact .inl rfl
    · exact .inl (ofReport_eq_none h)
    · exact .inr (.inl (gearOfCode_eq_none h))
    · exact .inr (.inr (doorOfCode_eq_none h))
  unfold State.reportAnswer
  rcases hnone with h | h | h
  · rw [h]
  · rw [h]
    cases Ignition.ofReport ig.toNat <;> rfl
  · rw [h]
    cases Ignition.ofReport ig.toNat <;> cases Gear.ofCode ge.toNat <;> rfl

theorem State.reportAnswer_taken (h1 : 1 ≤ ig.toNat) (h3 : ig.toNat ≤ 3) (hg : ge.toNat ≤ 1) (hd : dr.toNat ≤ 1) :
    s.reportAnswer ig sp ge dr = (s.takeReport (ignitionOf ig) sp.toNat (gearOf ge) (doorOf dr)).answer .ok := by
  unfold State.reportAnswer
  rw [ofReport_eq h1 h3, gearOfCode_eq hg, doorOfCode_eq hd]

/-! ## A taken report -/

/-- The report that a frame carries, in the state in which the frame is judged. -/
def State.reportedFrame (s : State) (ig sp ge dr : Byte) : State :=
  (s.received .cabin).reportTaken (ignitionOf ig) sp.toNat (gearOf ge) (doorOf dr)

/-- t is the answer to a command on a port whose meaning left v. -/
structure State.Shows (t v : State) (p : Port) : Prop where
  state : { t with ports := v.ports, vehicle := { t.vehicle with eco := v.vehicle.eco } } = v
  queue : ∀ q, (t.port q).queue = (v.port q).queue
  others : ∀ q, q ≠ p → t.port q = v.port q

theorem State.reportedFrame_rest : (s.received .cabin).reportBack (s.reportedFrame ig sp ge dr) = s.received .cabin :=
  State.reportTaken_rest _ _ _ _ _

/-- What a report leaves alone. -/
theorem State.of_reportBack {s t : State} (h : s.reportBack t = s) : t.scanner = s.scanner ∧ t.config = s.config ∧
    t.staging = s.staging ∧ t.restraint = s.restraint ∧ t.store = s.store ∧ t.saveImage = s.saveImage :=
  ⟨(congrArg State.scanner h :), (congrArg State.config h :), (congrArg State.staging h :), (congrArg State.restraint h :),
    (congrArg State.store h :), (congrArg State.saveImage h :)⟩

theorem State.reportedFrame_scanner : (s.reportedFrame ig sp ge dr).scanner = (s.received .cabin).scanner :=
  (State.of_reportBack State.reportedFrame_rest).1

theorem State.reportedFrame_config : (s.reportedFrame ig sp ge dr).config = s.config := by
  obtain ⟨-, hconfig, -⟩ := State.of_reportBack (s.reportedFrame_rest (ig := ig) (sp := sp) (ge := ge) (dr := dr))
  rw [hconfig, State.received_config]

/-- The vehicle state after a frame's report, but for test mode and watch. -/
theorem State.reportedFrame_vehicle : { (s.reportedFrame ig sp ge dr).vehicle with
    testMode := s.vehicle.testMode, watch := s.vehicle.watch, mode := s.vehicle.mode, eco := s.vehicle.eco } =
    (s.storeReport (ignitionOf ig) sp.toNat (gearOf ge) (doorOf dr)).vehicle := by
  have htaken := State.reportTaken_vehicle (s.received .cabin) (ignitionOf ig) sp.toNat (gearOf ge) (doorOf dr)
  have hlost := State.reportLost_vehicle (s.received .cabin) (ignitionOf ig) sp.toNat (gearOf ge) (doorOf dr)
  unfold State.reportedFrame
  rw [htaken]
  generalize (State.reportLost _ _ _ _ _).vehicle = v at hlost
  have hback := congrArg (fun x : Vehicle => { x with
    testMode := s.vehicle.testMode, watch := s.vehicle.watch, mode := s.vehicle.mode, eco := s.vehicle.eco }) hlost
  refine hback.trans ?_
  rw [s.received_form .cabin]
  rfl

theorem State.reportedFrame_eco : (s.reportedFrame ig sp ge dr).vehicle.eco = (s.received .cabin).vehicle.eco := by
  have htaken := State.reportTaken_vehicle (s.received .cabin) (ignitionOf ig) sp.toNat (gearOf ge) (doorOf dr)
  have hlost := State.reportLost_vehicle (s.received .cabin) (ignitionOf ig) sp.toNat (gearOf ge) (doorOf dr)
  unfold State.reportedFrame
  rw [htaken]
  generalize (State.reportLost _ _ _ _ _).vehicle = v at hlost
  exact (congrArg Vehicle.eco hlost :)

theorem State.reportedFrame_mode : (s.reportedFrame ig sp ge dr).vehicle.mode = .run := by
  unfold State.reportedFrame
  exact State.reportTaken_mode (s.received .cabin) (s.received_mode .cabin) _ _ _ _

/-- VEHICLE STATE with codes in their sets is answered with OK from the state that its report and a deferred commit leave. -/
theorem State.report_shows (hready : s.ready .cabin) (hsound : soundFrame 0x40 [ig, sp, ge, dr] chk) (h1 : 1 ≤ ig.toNat)
    (h3 : ig.toNat ≤ 3) (hg : ge.toNat ≤ 1) (hd : dr.toNat ≤ 1) :
    ∃ t, exec (.vehicleState .cabin ig sp ge dr chk) s = .next t ∧ s.Heard t ∧ t.replied .cabin 0x40 .ok [] ∧
      t.Shows (s.reportedFrame ig sp ge dr).applyDeferred .cabin := by
  have hact : (s.received .cabin).reportAnswer ig sp ge dr = (s.reportedFrame ig sp ge dr).applyDeferred.answer .ok :=
    State.reportAnswer_taken h1 h3 hg hd
  have hmode : (s.reportedFrame ig sp ge dr).applyDeferred.vehicle.mode = .run :=
    State.applyDeferred_mode _ State.reportedFrame_mode
  have htimer := congrArg Scanner.timer ((s.reportedFrame ig sp ge dr).applyDeferred_scanner.trans State.reportedFrame_scanner)
  have hsettings : (s.reportedFrame ig sp ge dr).applyDeferred.config.settings = s.config.settings :=
    State.applyDeferred_settings.trans (congrArg LiveConfig.settings State.reportedFrame_config)
  have hfull : (s.reportedFrame ig sp ge dr).ecoFull = (s.received .cabin).ecoFull := by
    unfold State.ecoFull
    rw [State.reportedFrame_config, State.received_config]
  have heco : (s.received .cabin).EcoGoesOn (s.reportedFrame ig sp ge dr).applyDeferred := by
    have h := (s.reportedFrame ig sp ge dr).applyDeferred_ecoGoesOn
    unfold State.EcoGoesOn at h ⊢
    rwa [hfull, State.reportedFrame_eco] at h
  have heco := heco.received s
  generalize (s.reportedFrame ig sp ge dr).applyDeferred = v at hact hmode htimer hsettings heco ⊢
  obtain ⟨t, htake, hheard, hreplied, -, hport, hsame⟩ :=
    State.takeFrame_effect hready hsound rfl rfl hact hmode htimer heco hsettings
  refine ⟨t, congrArg Host.Outcome.next htake, hheard, hreplied, hsame, fun q => ?_, fun q hq => ?_⟩
  · rw [hport]
    split
    next h => rw [h]
    · rfl
  · rw [hport, if_neg hq]

end

/-! ## What the answered report shows -/

section
variable (s : State) (ig sp ge dr : Byte)

/-- The report stored, in the state before its frame. -/
def State.stored : State := s.storeReport (ignitionOf ig) sp.toNat (gearOf ge) (doorOf dr)

/-- The report stored, in the state in which its frame is judged. -/
theorem State.received_stored_standstill : ((s.received .cabin).stored ig sp ge dr).standstill = (s.stored ig sp ge dr).standstill := by
  rw [s.received_form .cabin]
  rfl

theorem State.received_ignition (p : Port) : (s.received p).vehicle.ignition = s.vehicle.ignition := by rw [s.received_form p]

theorem State.received_watch (p : Port) : (s.received p).vehicle.watch = s.vehicle.watch := by rw [s.received_form p]

theorem State.received_watchedBy (i : Ignition) (p : Pos) : (s.received .cabin).watchedBy i p = s.watchedBy i p := by
  unfold State.watchedBy State.startsWatched State.entry
  rw [State.received_ignition, State.received_watching, State.received_pos, State.received_config]

theorem State.reportedFrame_pos (p : Pos) : (s.reportedFrame ig sp ge dr).pos p =
    { s.pos p with
      injection := ((s.reportedFrame ig sp ge dr).pos p).injection
      watched := s.watchedBy (ignitionOf ig) p
      reminder := (s.pos p).reminder.evaluated (s.entry p).reminderClass (s.pos p).cls.stable (s.pos p).buckle.belt
        (s.stored ig sp ge dr).vehicle s.config.settings } := by
  have hrecord := State.reportTaken_record (s.received .cabin) (ignitionOf ig) sp.toNat (gearOf ge) (doorOf dr)
    (ignitionOf_ne_unknown ig) p
  have hevaluated : (s.pos p).reminder.evaluated (s.entry p).reminderClass (s.pos p).cls.stable (s.pos p).buckle.belt
      ((s.received .cabin).storeReport (ignitionOf ig) sp.toNat (gearOf ge) (doorOf dr)).vehicle s.config.settings =
      (s.pos p).reminder.evaluated (s.entry p).reminderClass (s.pos p).cls.stable (s.pos p).buckle.belt
        (s.stored ig sp ge dr).vehicle s.config.settings := ReminderRec.evaluated_congr _ rfl rfl
  have hentry : (s.received .cabin).entry p = s.entry p := by rw [State.entry, State.received_config, State.entry]
  rw [State.received_pos, State.received_watchedBy, State.received_config, hentry, hevaluated] at hrecord
  have hinjection := congrArg PosRec.injection hrecord
  unfold State.reportedFrame
  rw [hinjection]
  exact hrecord

theorem State.reportedFrame_watch : (s.reportedFrame ig sp ge dr).vehicle.watch =
    if ignitionOf ig ≠ .off then none
    else if s.vehicle.ignition = .run ∧ s.watching = false then
      if ∃ p, s.startsWatched p = true then some (seconds s.config.settings.firstDelay) else none
    else s.vehicle.watch := by
  have hstarts (p : Pos) : (s.received .cabin).startsWatched p = s.startsWatched p := by
    unfold State.startsWatched State.entry
    rw [State.received_pos, State.received_config]
  have htaken := State.reportTaken_vehicle (s.received .cabin) (ignitionOf ig) sp.toNat (gearOf ge) (doorOf dr)
  have hwatch := State.reportLost_watchAfter (s.received .cabin) (ignitionOf ig) sp.toNat (gearOf ge) (doorOf dr)
    (ignitionOf_ne_unknown ig)
  simp only [hstarts, State.received_ignition, State.received_watching, State.received_config, State.received_watch] at hwatch
  unfold State.reportedFrame
  rw [htaken, State.received_ignition]
  exact hwatch

theorem State.reportedFrame_standstill : (s.reportedFrame ig sp ge dr).standstill = (s.stored ig sp ge dr).standstill := by
  have h := s.reportedFrame_vehicle (ig := ig) (sp := sp) (ge := ge) (dr := dr)
  unfold State.standstill
  generalize (s.reportedFrame ig sp ge dr).vehicle = v at h ⊢
  exact (congrArg Vehicle.standstill h :)

/-- After a report every reminder is asked for or IDLE. -/
theorem State.reportedFrame_askedFor (p : Pos) : (s.reportedFrame ig sp ge dr).AskedFor p := by
  unfold State.reportedFrame
  rw [State.reportTaken_eq]
  exact State.evaluates_askedFor _ _ p (.inl (mem_allPos p))

/-! ### Standstill lost -/

section
variable (hheld : s.standstill = true) (hlost : (s.stored ig sp ge dr).standstill = false)
include hheld hlost

theorem State.reportedFrame_lost : (s.received .cabin).reportLost (ignitionOf ig) sp.toNat (gearOf ge) (doorOf dr) =
    ((s.received .cabin).stored ig sp ge dr).loseStandstill :=
  State.reportLost_lost _ _ _ _ _ ((s.received_standstill .cabin).trans hheld)
    ((s.received_stored_standstill ig sp ge dr).trans hlost)

theorem State.reportedFrame_lostCapture : (s.reportedFrame ig sp ge dr).capture = none := by
  unfold State.reportedFrame
  rw [State.reportTaken_capture, s.reportedFrame_lost ig sp ge dr hheld hlost]
  exact State.loseStandstill_capture _

theorem State.reportedFrame_lostTestMode : (s.reportedFrame ig sp ge dr).vehicle.testMode = false := by
  unfold State.reportedFrame
  rw [State.reportTaken_vehicle, s.reportedFrame_lost ig sp ge dr hheld hlost, State.loseStandstill_vehicle]

theorem State.reportedFrame_lostService : (s.reportedFrame ig sp ge dr).port .service =
    ((s.received .cabin).stored ig sp ge dr).loseStandstill.port .service := by
  unfold State.reportedFrame
  rw [State.reportTaken_port _ _ _ _ _ (by decide), s.reportedFrame_lost ig sp ge dr hheld hlost]

theorem State.reportedFrame_lostInjection (htest : s.vehicle.testMode = true) (p : Pos) :
    ((s.reportedFrame ig sp ge dr).pos p).injection = none := by
  have hrecord := State.reportTaken_record (s.received .cabin) (ignitionOf ig) sp.toNat (gearOf ge) (doorOf dr)
    (ignitionOf_ne_unknown ig) p
  have hmode : ((s.received .cabin).stored ig sp ge dr).vehicle.testMode = true := by
    show (s.received .cabin).vehicle.testMode = true
    rw [State.received_vehicle_testMode]
    exact htest
  unfold State.reportedFrame
  rw [hrecord, s.reportedFrame_lost ig sp ge dr hheld hlost, State.loseStandstill_pos, if_pos hmode]

end

/-! ### Standstill not lost -/

section
variable (hkept : s.standstill = false ∨ (s.stored ig sp ge dr).standstill = true)
include hkept

theorem State.reportedFrame_kept : (s.received .cabin).reportLost (ignitionOf ig) sp.toNat (gearOf ge) (doorOf dr) =
    (s.received .cabin).stored ig sp ge dr :=
  State.reportLost_kept _ _ _ _ _ (hkept.imp ((s.received_standstill .cabin).trans ·)
    ((s.received_stored_standstill ig sp ge dr).trans ·))

theorem State.reportedFrame_keptCapture : (s.reportedFrame ig sp ge dr).capture = s.capture := by
  unfold State.reportedFrame
  rw [State.reportTaken_capture, s.reportedFrame_kept ig sp ge dr hkept]
  exact s.received_capture .cabin

theorem State.reportedFrame_keptTestMode : (s.reportedFrame ig sp ge dr).vehicle.testMode = s.vehicle.testMode := by
  unfold State.reportedFrame
  rw [State.reportTaken_vehicle, s.reportedFrame_kept ig sp ge dr hkept]
  exact s.received_vehicle_testMode .cabin

theorem State.reportedFrame_keptService : (s.reportedFrame ig sp ge dr).port .service = s.port .service := by
  unfold State.reportedFrame
  rw [State.reportTaken_port _ _ _ _ _ (by decide), s.reportedFrame_kept ig sp ge dr hkept]
  exact (s.received_port .cabin .service).trans (if_neg (by decide))

theorem State.reportedFrame_keptInjection (p : Pos) : ((s.reportedFrame ig sp ge dr).pos p).injection = (s.pos p).injection := by
  have hrecord := State.reportTaken_record (s.received .cabin) (ignitionOf ig) sp.toNat (gearOf ge) (doorOf dr)
    (ignitionOf_ne_unknown ig) p
  unfold State.reportedFrame
  rw [hrecord, s.reportedFrame_kept ig sp ge dr hkept]
  show ((s.received .cabin).pos p).injection = _
  exact congrArg PosRec.injection (s.received_pos .cabin p)

end

end

end Sys2Proof.Machine

/-! VEHICLE STATE as its port and the state after it show it (R122, R124). -/

namespace Sys2Proof.Machine

section
variable {s t v : State} {p : Port}

/-- A commit that waits for the end of its deferral leaves what the report left. -/
theorem State.Shows.vehicle (h : t.Shows v p) : { t.vehicle with eco := v.vehicle.eco } = v.vehicle :=
  (congrArg State.vehicle h.state :)

theorem State.Shows.rest (h : t.Shows v p) : t.positions = v.positions ∧ t.config = v.config ∧ t.staging = v.staging ∧
    t.restraint = v.restraint ∧ t.store = v.store ∧ t.saveImage = v.saveImage ∧ t.capture = v.capture ∧ t.scanner = v.scanner :=
  ⟨(congrArg State.positions h.state :), (congrArg State.config h.state :), (congrArg State.staging h.state :),
    (congrArg State.restraint h.state :), (congrArg State.store h.state :), (congrArg State.saveImage h.state :),
    (congrArg State.capture h.state :), (congrArg State.scanner h.state :)⟩

theorem State.Shows.pos (h : t.Shows v p) (q : Pos) : t.pos q = v.pos q := by
  obtain ⟨hpositions, -⟩ := h.rest
  rw [State.pos, hpositions, State.pos]

end

section
variable {s t : State} {ig sp ge dr : Byte} (h : t.Shows (s.reportedFrame ig sp ge dr).applyDeferred .cabin)
include h

/-- The vehicle state after an answered report, but for test mode, watch, scan mode and countdown. -/
theorem State.shown_vehicle : { t.vehicle with
    testMode := s.vehicle.testMode, watch := s.vehicle.watch, mode := s.vehicle.mode, eco := s.vehicle.eco } =
    (s.stored ig sp ge dr).vehicle := by
  have hshown := h.vehicle
  have hdeferred := (s.reportedFrame ig sp ge dr).applyDeferred_vehicle
  have hreport := s.reportedFrame_vehicle (ig := ig) (sp := sp) (ge := ge) (dr := dr)
  generalize (s.reportedFrame ig sp ge dr).applyDeferred.vehicle = v at hshown hdeferred
  generalize (s.reportedFrame ig sp ge dr).vehicle = u at hdeferred hreport
  rw [← State.stored.eq_1] at hreport
  rw [← hreport, ← hdeferred, ← hshown]

theorem State.shown_watch : t.vehicle.watch = (s.reportedFrame ig sp ge dr).vehicle.watch := by
  have hshown := h.vehicle
  have hdeferred := (s.reportedFrame ig sp ge dr).applyDeferred_vehicle
  generalize (s.reportedFrame ig sp ge dr).applyDeferred.vehicle = v at hshown hdeferred
  generalize (s.reportedFrame ig sp ge dr).vehicle = u at hdeferred
  rw [← hdeferred, ← hshown]

theorem State.shown_testMode : t.vehicle.testMode = (s.reportedFrame ig sp ge dr).vehicle.testMode := by
  have hshown := h.vehicle
  have hdeferred := (s.reportedFrame ig sp ge dr).applyDeferred_vehicle
  generalize (s.reportedFrame ig sp ge dr).applyDeferred.vehicle = v at hshown hdeferred
  generalize (s.reportedFrame ig sp ge dr).vehicle = u at hdeferred
  rw [← hdeferred, ← hshown]

theorem State.shown_standstill : t.standstill = (s.stored ig sp ge dr).standstill := by
  have hvehicle := State.shown_vehicle h
  exact (congrArg Vehicle.standstill hvehicle :)

omit h in
theorem State.stored_standstill : (s.stored ig sp ge dr).standstill = true ↔
    ignitionOf ig ≠ .run ∨ (min sp.toNat 250 = 0 ∧ gearOf ge = .park) := by
  show ((some Config.freshnessTime).isSome && ((ignitionOf ig ≠ .run : Bool) || ((min sp.toNat speedLimit = 0 : Bool) &&
    (gearOf ge = .park : Bool)))) = true ↔ _
  simp [speedLimit]

/-- What an answered report leaves alone. -/
theorem State.shown_rest : t.store = s.store ∧ t.saveImage = s.saveImage ∧ t.restraint.hold = s.restraint.hold ∧
    t.restraint.snapshots = s.restraint.snapshots ∧ t.scanner.number = s.scanner.number := by
  obtain ⟨-, -, -, hrestraint, hstore, hsave, -, hscanner⟩ := h.rest
  obtain ⟨hscanner', -, -, hrestraint', hstore', hsave'⟩ := State.of_reportBack (s.reportedFrame_rest (ig := ig) (sp := sp) (ge := ge) (dr := dr))
  have hdeferred := (s.reportedFrame ig sp ge dr).applyDeferred_rest
  have hdeferredRestraint := (s.reportedFrame ig sp ge dr).applyDeferred_restraint
  have hdeferredScanner := (s.reportedFrame ig sp ge dr).applyDeferred_scanner
  rw [hrestraint'] at hdeferredRestraint
  rw [hscanner'] at hdeferredScanner
  generalize (s.reportedFrame ig sp ge dr).applyDeferred = v at *
  generalize s.reportedFrame ig sp ge dr = u at *
  have hstoreDeferred : v.store = u.store := (congrArg State.store hdeferred :)
  have hsaveDeferred : v.saveImage = u.saveImage := (congrArg State.saveImage hdeferred :)
  have hreceived := s.received_form .cabin
  rw [hrestraint, hstore, hsave, hscanner, hstoreDeferred, hsaveDeferred, hstore', hsave', hdeferredRestraint.1,
    hdeferredRestraint.2.2, hdeferredScanner, hreceived]
  exact ⟨rfl, rfl, rfl, rfl, rfl⟩

/-- Without a deferred commit the report itself is shown. -/
theorem State.shown_report (hd : s.staging.deferred = false) : t.Shows (s.reportedFrame ig sp ge dr) .cabin := by
  have hwaits : (s.reportedFrame ig sp ge dr).applyDeferred = s.reportedFrame ig sp ge dr := by
    obtain ⟨-, -, hstaging, -⟩ := State.of_reportBack (s.reportedFrame_rest (ig := ig) (sp := sp) (ge := ge) (dr := dr))
    refine State.applyDeferred_waits (.inl ?_)
    rw [hstaging, State.received_staging]
    exact hd
  rwa [hwaits] at h

/-- Where standstill is lost the report itself is shown, as a deferred commit waits for standstill. -/
theorem State.shown_lost (hlost : (s.stored ig sp ge dr).standstill = false) : t.Shows (s.reportedFrame ig sp ge dr) .cabin := by
  have hwaits : (s.reportedFrame ig sp ge dr).applyDeferred = s.reportedFrame ig sp ge dr := by
    refine State.applyDeferred_waits (.inr fun hopen => ?_)
    have hstill := hopen.1
    rw [State.reportedFrame_standstill, hlost] at hstill
    exact Bool.false_ne_true hstill
  rwa [hwaits] at h

/-- A report without RUN leaves every reminder IDLE (R98). -/
theorem State.shown_idle (hi : ignitionOf ig ≠ .run) (p : Pos) : (t.pos p).reminder.step = .idle := by
  have hasked := State.applyDeferred_askedFor (s.reportedFrame_askedFor ig sp ge dr) p
  have hvehicle := State.shown_vehicle h
  have hignition : t.vehicle.ignition = ignitionOf ig := (congrArg Vehicle.ignition hvehicle :)
  have hshown : t.vehicle.ignition = (s.reportedFrame ig sp ge dr).applyDeferred.vehicle.ignition :=
    (congrArg Vehicle.ignition h.vehicle :)
  rw [h.pos]
  by_contra hstep
  obtain ⟨-, -, hrun, -⟩ := hasked hstep
  exact hi (hignition.symm.trans (hshown.trans hrun))

/-- A report other than OFF leaves no watched flag (R128). -/
theorem State.shown_unwatched (hi : ignitionOf ig ≠ .off) (p : Pos) : (t.pos p).watched = false := by
  rw [h.pos]
  refine State.applyDeferred_watched p ?_
  rw [State.reportedFrame_pos]
  exact if_pos hi

end

/-! ## The obligation -/

section
variable {ig : Byte}

theorem ignitionOf_eq_off : ignitionOf ig = .off ↔ ig = 1 := by
  unfold ignitionOf
  split
  next h => exact ⟨fun _ => h, fun _ => rfl⟩
  next h =>
    refine ⟨fun hoff => ?_, fun h1 => absurd h1 h⟩
    split at hoff <;> cases hoff

theorem ignitionOf_eq_run (h1 : 1 ≤ ig.toNat) (h3 : ig.toNat ≤ 3) : ignitionOf ig = .run ↔ ig = 3 := by
  have hcases : ig = 1 ∨ ig = 2 ∨ ig = 3 := by bv_omega
  rcases hcases with rfl | rfl | rfl <;> decide

theorem gearOf_eq_park {ge : Byte} : gearOf ge = .park ↔ ge = 0 := by
  unfold gearOf
  split
  next h => exact ⟨fun _ => h, fun _ => rfl⟩
  next h => exact ⟨(nomatch ·), fun h0 => absurd h0 h⟩

end

/-- The loss of standstill at a report, as its ports and the state after it show it (R51, R124, R131). -/
theorem State.shown_loss {s t : State} {ig sp ge dr : Byte} (h : t.Shows (s.reportedFrame ig sp ge dr).applyDeferred .cabin)
    (hheld : s.standstill = true) (hlost : (s.stored ig sp ge dr).standstill = false) :
    t.capture = none ∧ t.vehicle.testMode = false ∧ (∀ c, s.capture = some c → s.TellsCapture t c.position 15 0x3000) ∧
      (s.vehicle.testMode = true → (∀ p : Pos, (t.pos p).injection = none) ∧
        ((s.port .service).queue.length ≤ 14 → ∃ n ∈ (t.port .service).queue, n.kind = .testModeEnded ∧
          n.subject = 0 ∧ ∀ p : Pos, n.payload.getLsbD p.val = (s.pos p).injection.isSome)) := by
  have hreport := State.shown_lost h hlost
  obtain ⟨-, -, -, -, -, -, hcapture, -⟩ := hreport.rest
  have hqueue : (t.port .service).queue = (((s.received .cabin).stored ig sp ge dr).loseStandstill.port .service).queue := by
    rw [hreport.queue, s.reportedFrame_lostService ig sp ge dr hheld hlost]
  have hsource : (s.received .cabin).port .service = s.port .service := by rw [State.received_port, if_neg (by decide)]
  refine ⟨?_, ?_, fun c hc => ?_, fun htest => ⟨fun p => ?_, fun hroom => ?_⟩⟩
  · rw [hcapture, s.reportedFrame_lostCapture ig sp ge dr hheld hlost]
  · rw [State.shown_testMode h, s.reportedFrame_lostTestMode ig sp ge dr hheld hlost]
  · have htells := State.loseStandstill_tellsCapture (s := (s.received .cabin).stored ig sp ge dr) (c := c)
      ((s.received_capture .cabin).trans hc)
    unfold State.TellsCapture at htells ⊢
    have hnumber : ((s.received .cabin).stored ig sp ge dr).scanner.number = s.scanner.number := s.received_scanNumber .cabin
    have hstored : ((s.received .cabin).stored ig sp ge dr).port .service = s.port .service := hsource
    rw [hnumber, hstored] at htells
    rw [hqueue]
    exact htells
  · rw [hreport.pos, s.reportedFrame_lostInjection ig sp ge dr hheld hlost htest]
  · have hstored : ((s.received .cabin).stored ig sp ge dr).port .service = s.port .service := hsource
    obtain ⟨n, hn, hkind, hsubject, hpayload⟩ := State.loseStandstill_tellsTest (s := (s.received .cabin).stored ig sp ge dr)
      ((s.received_vehicle_testMode .cabin).trans htest) (by rw [← hstored] at hroom; exact hroom)
    refine ⟨n, by rw [hqueue]; exact hn, hkind, hsubject, fun p => ?_⟩
    rw [hpayload]
    exact congrArg (fun r : PosRec => r.injection.isSome) (s.received_pos .cabin p)

/-- Settles O37: the report by its parts, and the deferred commit after it by what every commit leaves. -/
theorem vehicleReportIsStoredAndTakesEffect : Obligations.VehicleReportIsStoredAndTakesEffect := by
  unfold Obligations.VehicleReportIsStoredAndTakesEffect
  refine fun s ig sp ge dr chk hready hsound => ⟨fun hbad => ?_, fun h1 h3 hg hd => ?_⟩
  · exact State.answers_unchanged rfl hready hsound rfl rfl (State.reportAnswer_badArg hbad)
  · obtain ⟨t, hexec, hheard, hreplied, hshows⟩ := State.report_shows hready hsound h1 h3 hg hd
    have hvehicle := State.shown_vehicle hshows
    have hstill := State.shown_standstill hshows
    obtain ⟨hstore, hsave, hhold, hsnapshots, hnumber⟩ := State.shown_rest hshows
    have hsource := State.of_reportBack (s.reportedFrame_rest (ig := ig) (sp := sp) (ge := ge) (dr := dr))
    have hignition : t.vehicle.ignition = ignitionOf ig := (congrArg Vehicle.ignition hvehicle :)
    have hspeed : t.vehicle.speed = min sp.toNat 250 := (congrArg Vehicle.speed hvehicle :)
    have hgear : t.vehicle.gear = gearOf ge := (congrArg Vehicle.gear hvehicle :)
    have hdoor : t.vehicle.door = doorOf dr := (congrArg Vehicle.door hvehicle :)
    have hfresh : t.vehicle.freshTimer = some 8000 := (congrArg Vehicle.freshTimer hvehicle :)
    refine ⟨t, hexec, hheard, hreplied, hignition, ?_, hgear, hdoor, hfresh, ?_, fun hoff hrun hwatch hdef => ?_, fun hne => ⟨?_, ?_⟩,
      fun hne => ?_, fun hheld hlost => ?_, fun hkept => ⟨?_, fun hdef => ⟨?_, ?_, fun p => ?_⟩⟩, fun hdef p => ?_, hstore, hsave, hhold,
      hsnapshots, hnumber, fun hdef => ⟨?_, ?_, ?_, fun p => ?_⟩⟩
    · rw [hspeed]
      split
      · omega
      · omega
    · rw [hstill, State.stored_standstill, Ne, ignitionOf_eq_run h1 h3, gearOf_eq_park]
      have hzero : min sp.toNat 250 = 0 ↔ sp = 0 := by bv_omega
      rw [hzero]
    · have hreport := State.shown_report hshows hdef
      have hmarked (p : Pos) : (t.pos p).watched = s.startsWatched p := by
        rw [hreport.pos, State.reportedFrame_pos]
        show s.watchedBy (ignitionOf ig) p = _
        rw [State.watchedBy, if_neg (not_not.2 (ignitionOf_eq_off.2 hoff)), if_pos ⟨hrun, hwatch⟩]
      have htimer : t.vehicle.watch = if ∃ p, s.startsWatched p = true then some (seconds s.config.settings.firstDelay) else none := by
        rw [State.shown_watch hshows, State.reportedFrame_watch, if_neg (not_not.2 (ignitionOf_eq_off.2 hoff)), if_pos ⟨hrun, hwatch⟩]
      refine ⟨hmarked, fun hsome => ?_, fun hnone => ?_⟩
      · rw [htimer, if_pos]
        · show some (s.config.settings.firstDelay * 1000 * 8) = _
          rw [Nat.mul_assoc]
        · simpa only [hmarked] using hsome
      · rw [htimer, if_neg]
        rintro ⟨p, hp⟩
        exact Bool.false_ne_true ((hnone p).symm.trans ((hmarked p).trans hp))
    · rw [State.shown_watch hshows, State.reportedFrame_watch, if_pos (mt ignitionOf_eq_off.1 hne)]
    · exact State.shown_unwatched hshows (mt ignitionOf_eq_off.1 hne)
    · exact State.shown_idle hshows (mt (ignitionOf_eq_run h1 h3).1 hne)
    · exact State.shown_loss hshows hheld (hstill.symm.trans hlost)
    · rw [State.shown_testMode hshows, s.reportedFrame_keptTestMode ig sp ge dr (hkept.imp_right (hstill.symm.trans ·))]
    · obtain ⟨-, -, -, -, -, -, hcapture, -⟩ := (State.shown_report hshows hdef).rest
      rw [hcapture, s.reportedFrame_keptCapture ig sp ge dr (hkept.imp_right (hstill.symm.trans ·))]
    · have hservice := (State.shown_report hshows hdef).others .service (by decide)
      exact hservice.trans (s.reportedFrame_keptService ig sp ge dr (hkept.imp_right (hstill.symm.trans ·)))
    · rw [(State.shown_report hshows hdef).pos, s.reportedFrame_keptInjection ig sp ge dr (hkept.imp_right (hstill.symm.trans ·))]
    · have hpos : t.pos p = _ := ((State.shown_report hshows hdef).pos p).trans (s.reportedFrame_pos ig sp ge dr p)
      have hreported : (s.reported t.vehicle).pos p = _ := PerPos.get_ofFn _ p
      rw [hpos, hreported]
      refine ⟨(ReminderRec.evaluated_congr _ hignition hspeed).symm, ?_⟩
      show s.watchedBy (ignitionOf ig) p = _
      rw [hignition]
      rfl
    · exact (State.shown_report hshows hdef).rest.2.1.trans State.reportedFrame_config
    · rw [(State.shown_report hshows hdef).rest.2.2.1, hsource.2.2.1, State.received_staging]
    · rw [(State.shown_report hshows hdef).rest.2.2.2.1, hsource.2.2.2.1, State.received_restraint]
    · have hpos : t.pos p = _ := ((State.shown_report hshows hdef).pos p).trans (s.reportedFrame_pos ig sp ge dr p)
      rw [hpos]
      exact ⟨rfl, rfl, rfl, rfl, rfl⟩

end Sys2Proof.Machine

/-! A deferred commit at the events that let it apply (R13, R116). -/

namespace Sys2Proof.Machine

/-! ## The state before and after an apply -/

/-- t shows the state v, as an event or the answer to a command leaves it. -/
structure State.Follows (v t : State) : Prop extends v.Resembles t where
  staging : t.staging = v.staging
  restraint : t.restraint = v.restraint
  gate : t.gateOpen ↔ v.gateOpen
  safety : (t.port .safety).queue = (v.port .safety).queue
  service : (t.port .service).queue = (v.port .service).queue

/-- w is the state in which a deferred commit of s is thought of, and u what the positions start from. -/
structure State.Defers (s u w : State) : Prop where
  alike : u.Alike w
  config : w.config = s.config
  staging : w.staging = s.staging
  decided : w.restraint.suppression = s.restraint.suppression ∧ w.restraint.sequence = s.restraint.sequence ∧
    w.restraint.pso = s.restraint.pso
  decisions : (w.port .safety).queue.filter (fun n => n.kind = .suppressionChanged) =
    (s.port .safety).queue.filter fun n => n.kind = .suppressionChanged
  number : w.scanner.number = s.scanner.number
  service : (w.port .service).queue.length ≤ (s.port .service).queue.length + 1

theorem State.judgeEco_follows (v : State) : v.Follows v.judgeEco :=
  ⟨⟨⟨fun _ => rfl, rfl, rfl, rfl, rfl⟩, rfl, rfl⟩, rfl, rfl, Iff.rfl, rfl, rfl⟩

theorem State.Shows.follows {t v : State} {p : Port} (h : t.Shows v p) : v.Follows t := by
  obtain ⟨-, hconfig, hstaging, hrestraint, -, hsave, hcapture, hscanner⟩ := h.rest
  have hstandstill : t.standstill = v.standstill := (congrArg Vehicle.standstill h.vehicle :)
  refine ⟨⟨⟨h.pos, hconfig, hcapture, congrArg Scanner.lines hscanner, congrArg Scanner.number hscanner⟩,
    (congrArg Vehicle.ignition h.vehicle :), (congrArg Vehicle.speed h.vehicle :)⟩, hstaging, hrestraint, ?_, h.queue _, h.queue _⟩
  unfold State.gateOpen
  rw [hstandstill, State.holdActive, hrestraint, State.saving, hsave]
  rfl

/-- The answer to a command shows the state that its meaning leaves. -/
theorem State.answered_shows (v : State) (p : Port) (b : List Byte) : ((v.sendReply p b).judgeEco).Shows v p := by
  refine ⟨rfl, fun q => ?_, fun q hq => ?_⟩
  · rw [State.port_answered]
    split
    next h => rw [h]
    · rfl
  · rw [State.port_answered, if_neg hq]

theorem State.applyDeferred_gate (w : State) : w.applyDeferred.gateOpen ↔ w.gateOpen := by
  have hrest := w.applyDeferred_rest
  generalize w.applyDeferred = v at hrest
  have hstandstill : v.standstill = w.standstill := (congrArg State.standstill hrest :)
  have hhold : v.holdActive = w.holdActive := (congrArg State.holdActive hrest :)
  have hsave : v.saving = w.saving := (congrArg State.saving hrest :)
  unfold State.gateOpen
  rw [hstandstill, hhold, hsave]

/-- A deferred commit that is applied, before COMMIT_APPLIED. -/
def State.undeferred (w : State) : State := { w.applyStaged with staging := { w.applyStaged.staging with deferred := false } }

theorem State.Resembles.trans {s t u : State} (h : s.Resembles t) (k : t.Resembles u) : s.Resembles u :=
  ⟨⟨fun p => (k.pos p).trans (h.pos p), k.config.trans h.config, k.capture.trans h.capture, k.lines.trans h.lines,
    k.number.trans h.number⟩, k.ignition.trans h.ignition, k.speed.trans h.speed⟩

theorem State.resembles_undeferred (u : State) (mask : Half) : u.Resembles
    (({ u with staging := { u.staging with deferred := false } } : State).post .service .commitApplied 0 mask) :=
  ⟨⟨fun _ => rfl, rfl, rfl, rfl, rfl⟩, rfl, rfl⟩

theorem State.undeferred_restraint (u : State) (mask : Half) :
    (({ u with staging := { u.staging with deferred := false } } : State).post .service .commitApplied 0 mask).restraint =
      u.restraint := rfl

section
variable {w t : State} (hf : w.applyDeferred.Follows t) (hd : w.staging.deferred = true) (hopen : w.gateOpen)
include hf hd hopen

theorem State.Follows.applied : (w.undeferred.post .service .commitApplied 0 (maskOf w.staging.holds)).Follows t := by
  rw [State.applyDeferred_applies hd hopen] at hf
  exact hf

theorem State.Follows.resembles : w.applyStaged.Resembles t := by
  have h := (hf.applied hd hopen).toResembles
  unfold State.undeferred at h
  exact (State.resembles_undeferred w.applyStaged (maskOf w.staging.holds)).trans h

theorem State.Follows.appliedStaging : t.staging = { entries := Staging.empty.entries, deferred := false } := by
  rw [(hf.applied hd hopen).staging]
  show ({ w.applyStaged.staging with deferred := false } : Staging) = _
  rw [State.applyStaged_staging]

theorem State.Follows.appliedRestraint : t.restraint = w.applyStaged.restraint := by
  have h := (hf.applied hd hopen).restraint
  unfold State.undeferred at h
  exact h.trans (State.undeferred_restraint w.applyStaged (maskOf w.staging.holds))

theorem State.Follows.appliedSafety : (t.port .safety).queue = (w.applyStaged.port .safety).queue := by
  rw [(hf.applied hd hopen).safety, State.post_port_other _ _ _ _ _ (by decide)]
  rfl

theorem State.Follows.appliedDone (n : Notice) (hn : n ∈ (w.applyStaged.port .service).queue) (hkind : n.kind = .captureDone) :
    n ∈ (t.port .service).queue := by
  rw [(hf.applied hd hopen).service]
  have hposts := w.undeferred.post_received .service .commitApplied 0 (maskOf w.staging.holds) .service
    (About := fun k _ => k = .commitApplied) fun _ => rfl
  exact hposts.mem (show n ∈ (w.undeferred.port .service).queue from hn) (by rw [hkind]; exact (nomatch ·))

/-- COMMIT_APPLIED stands in the service queue, where a notice of the event and of a capture leave it room. -/
theorem State.Follows.tellsApplied (hroom : (w.port .service).queue.length ≤ 14) :
    ∃ n ∈ (t.port .service).queue, n.kind = .commitApplied ∧ n.subject = 0 ∧
      ∀ p : Pos, n.payload.getLsbD p.val = (w.staging.entries.get p).isSome := by
  have hlength : (w.undeferred.port .service).queue.length < 16 := by
    show (w.applyStaged.port .service).queue.length < 16
    rw [w.applyStaged_service]
    rcases w.aborted_cases with h | h <;> rw [h]
    · rw [w.walked_service]; omega
    · have habort := (w.walked.abortCapture_received .map).length_le
      rw [w.walked_service] at habort
      omega
  obtain ⟨n, hn, hkind, hsubject, hpayload, -⟩ := w.undeferred.post_mem .service .commitApplied 0 (maskOf w.staging.holds) (.inl hlength)
  refine ⟨n, ?_, hkind, hsubject, fun p => ?_⟩
  · rw [(hf.applied hd hopen).service]; exact hn
  · rw [hpayload, maskOf_getLsbD]; rfl

end

/-! ## What the events share -/

/-- A derivation is said of states with one decision held, one line and the same queued decisions alike. -/
theorem State.Derived.of_source {s w t : State} (h : w.Derived t)
    (hdecided : w.restraint.suppression = s.restraint.suppression ∧ w.restraint.sequence = s.restraint.sequence ∧
      w.restraint.pso = s.restraint.pso)
    (hqueue : (w.port .safety).queue.filter (fun n => n.kind = .suppressionChanged) =
      (s.port .safety).queue.filter fun n => n.kind = .suppressionChanged) : s.Derived t := by
  obtain ⟨hstate, hdiffers, hsame⟩ := h
  obtain ⟨hsuppression, hsequence, hpso⟩ := hdecided
  rw [hsuppression, hsequence] at hdiffers
  rw [hsuppression, hsequence, hpso, hqueue] at hsame
  exact ⟨hstate, hdiffers, hsame⟩

section
variable {s u w t : State} (hsource : s.Defers u w) (hf : w.applyDeferred.Follows t) (hd : s.staging.deferred = true)
include hsource hf

omit hf in
theorem State.Defers.stagedMap : w.stagedMap = s.stagedMap := by
  unfold State.stagedMap State.swapSource State.entry
  rw [hsource.staging, hsource.config]

omit hsource in
theorem State.Follows.gateBefore (hopen : t.gateOpen) : w.gateOpen := w.applyDeferred_gate.1 (hf.gate.1 hopen)

omit hsource in
/-- A deferred commit that the gate holds back stays pending. -/
theorem State.Follows.waits (hstaging : w.staging = s.staging) (hconfig : w.config = s.config) (hclosed : ¬ t.gateOpen) :
    t.staging = s.staging ∧ t.config = s.config := by
  have hwaits : w.applyDeferred = w :=
    State.applyDeferred_waits (.inr fun hopen => hclosed (hf.gate.2 (w.applyDeferred_gate.2 hopen)))
  rw [hwaits] at hf
  exact ⟨hf.staging.trans hstaging, hf.config.trans hconfig⟩

include hd

/-- What an applied deferred commit leaves, whatever event let it apply (R13 to R16, R51, R107). -/
theorem State.Defers.applies (hopen : t.gateOpen) :
    t.staging.deferred = false ∧ t.config = { s.config with map := s.stagedMap } ∧ (∀ p : Pos, t.staging.entries.get p = none) ∧
    s.Derived t ∧
    (s.ports.service.queue.length ≤ 13 → ∃ n ∈ t.ports.service.queue, n.kind = .commitApplied ∧ n.subject = 0 ∧
      ∀ p : Pos, n.payload.getLsbD p.val = (s.staging.entries.get p).isSome) ∧
    (∀ p : Pos, s.staging.entries.get p = none → t.pos p = u.pos p) ∧ u.CommitsCapture t ∧
    (∀ (p : Pos) (e : MapEntry), s.staging.entries.get p = some e → u.Committed t p e) := by
  have hwopen := hf.gateBefore hopen
  have hwd : w.staging.deferred = true := by rw [hsource.staging]; exact hd
  have hresembles := hf.resembles hwd hwopen
  have hstaging := hf.appliedStaging hwd hwopen
  have hsafety := hf.appliedSafety hwd hwopen
  have hentry (p : Pos) : w.staging.entries.get p = s.staging.entries.get p := by rw [hsource.staging]
  refine ⟨by rw [hstaging], ?_, fun p => by rw [hstaging]; exact Staging.empty_entries p, ?_, fun hroom => ?_, fun p hp => ?_, ?_,
    fun p e he => ?_⟩
  · rw [hresembles.committedConfig, hsource.config, hsource.stagedMap]
  · exact (hresembles.derived (hf.appliedRestraint hwd hwopen) hsafety).of_source hsource.decided hsource.decisions
  · have hservice := hsource.service
    obtain ⟨n, hn, hkind, hsubject, hpayload⟩ := hf.tellsApplied hwd hwopen (hservice.trans (Nat.succ_le_succ hroom))
    exact ⟨n, hn, hkind, hsubject, fun p => (hpayload p).trans (by rw [hentry])⟩
  · exact (hresembles.unstaged ((hentry p).trans hp)).trans (hsource.alike.pos p)
  · exact hsource.alike.commitsCapture (State.applyStaged_commitsCapture w hresembles (hf.appliedDone hwd hwopen))
  · exact hsource.alike.committed (hresembles.committed ((hentry p).trans he))

variable (hlegal : queueLegal (w.port .safety).queue) (hopen : t.gateOpen)
include hlegal hopen

omit hf hlegal hopen hd in
theorem State.Defers.stagedPositions_lt (h : ∃ q : Pos, s.staging.entries.get q = none) : w.stagedPositions.length < 16 := by
  refine w.stagedPositions_length_lt ?_
  rw [hsource.staging]
  exact h

theorem State.Defers.tellsDecision (hroom : (w.port .safety).queue.length + w.stagedPositions.length < 16) : s.TellsDecision t := by
  have hwopen := hf.gateBefore hopen
  have hwd : w.staging.deferred = true := by rw [hsource.staging]; exact hd
  have htells := (hf.resembles hwd hwopen).tellsDecision (hf.appliedRestraint hwd hwopen) (hf.appliedSafety hwd hwopen) hlegal hroom
  unfold State.TellsDecision at htells
  rw [hsource.decided.1, hsource.number] at htells
  exact htells

theorem State.Defers.tellsCommitted {p : Pos} {e : MapEntry} (he : s.staging.entries.get p = some e)
    (hroom : (w.port .safety).queue.length + w.stagedPositions.length ≤ 16) : u.TellsCommitted t p := by
  have hwopen := hf.gateBefore hopen
  have hwd : w.staging.deferred = true := by rw [hsource.staging]; exact hd
  intro hsequence _
  rw [← hsource.alike.pos] at hsequence
  have htells := (hf.resembles hwd hwopen).tells (hf.appliedSafety hwd hwopen) hlegal (by rw [hsource.staging]; exact he) hroom hsequence
  rw [hsource.alike.number] at htells
  exact htells

end

/-! ## The events -/

section
variable (s : State)

theorem State.unheld_defers : s.Defers s (s.received .safety).unheld := by
  have hdecisions := congrArg (List.filter fun n : Notice => n.kind = .suppressionChanged) (s.received_queues .safety .safety)
  have hservice := (congrArg List.length (s.received_queues .safety .service)).le.trans (Nat.le_succ _)
  have halike := s.received_alike .safety
  rw [s.received_form .safety] at hdecisions hservice halike ⊢
  exact ⟨⟨⟨fun _ => rfl, rfl, rfl, rfl, rfl⟩, rfl, halike.service⟩, rfl, rfl, ⟨rfl, rfl, rfl⟩, hdecisions, rfl, hservice⟩

/-- HOLD expired, before it is told. -/
def State.lapsed : State := { s with restraint := { s.restraint with hold := none, lastExpired := true } }

theorem State.holdLapsed_eq : s.holdLapsed =
    s.lapsed.post .safety .holdExpired 0 (oneByte s.restraint.holdCount ++ oneByte s.restraint.snapshots.length) := rfl

theorem State.holdLapsed_service : s.holdLapsed.port .service = s.port .service := by
  rw [s.holdLapsed_eq, State.post_port_other _ _ _ _ _ (by decide)]
  rfl

/-- The safety queue is told that HOLD expired, and nothing else. -/
theorem State.holdLapsed_received : Received (fun k _ => k = .holdExpired) (s.port .safety).queue 1 (s.holdLapsed.port .safety).queue :=
  s.lapsed.post_received .safety .holdExpired 0 _ .safety fun _ => rfl

theorem State.holdLapsed_defers : s.Defers s s.holdLapsed := by
  have hdecisions := s.holdLapsed_received.filter_kind (kind := .suppressionChanged) (fun _ => (nomatch ·))
  have hservice := (congrArg (fun p : PortState => p.queue.length) s.holdLapsed_service).le.trans (Nat.le_succ _)
  exact ⟨⟨⟨fun _ => rfl, rfl, rfl, rfl, rfl⟩, rfl, hservice⟩, rfl, rfl, ⟨rfl, rfl, rfl⟩, hdecisions, rfl, hservice⟩

variable (image readBack : StoreImage)

theorem State.saveJudged_safety : (s.saveJudged image readBack).port .safety = s.port .safety := by
  rw [State.saveJudged, State.post_port_other _ _ _ _ _ (by decide)]
  rfl

theorem State.saveJudged_service : ((s.saveJudged image readBack).port .service).queue.length ≤ (s.port .service).queue.length + 1 :=
  ((s.saveStored image readBack).post_received .service .saveDone 0 _ .service (About := fun _ _ => True) fun _ => trivial).length_le

theorem State.saveJudged_defers : s.Defers s (s.saveJudged image readBack) := by
  have hservice := s.saveJudged_service image readBack
  have hdecisions := congrArg (fun p : PortState => p.queue.filter fun n : Notice => n.kind = .suppressionChanged)
    (s.saveJudged_safety image readBack)
  exact ⟨⟨⟨fun _ => rfl, rfl, rfl, rfl, rfl⟩, rfl, hservice⟩, rfl, rfl, ⟨rfl, rfl, rfl⟩, hdecisions, rfl, hservice⟩

end

section
variable (s : State) (ig sp ge dr : Byte)

theorem State.reportedFrame_staging : (s.reportedFrame ig sp ge dr).staging = s.staging := by
  obtain ⟨-, -, hstaging, -⟩ := State.of_reportBack (s.reportedFrame_rest (ig := ig) (sp := sp) (ge := ge) (dr := dr))
  rw [hstaging, State.received_staging]

theorem State.reportedFrame_restraint : (s.reportedFrame ig sp ge dr).restraint = s.restraint := by
  obtain ⟨-, -, -, hrestraint, -⟩ := State.of_reportBack (s.reportedFrame_rest (ig := ig) (sp := sp) (ge := ge) (dr := dr))
  rw [hrestraint, State.received_restraint]

theorem State.reportedFrame_number : (s.reportedFrame ig sp ge dr).scanner.number = s.scanner.number := by
  rw [State.reportedFrame_scanner, s.received_form .cabin]

theorem State.reportedFrame_lines : (s.reportedFrame ig sp ge dr).scanner.lines = s.scanner.lines := by
  rw [State.reportedFrame_scanner, s.received_form .cabin]

variable (hkept : s.standstill = false ∨ (s.stored ig sp ge dr).standstill = true)
include hkept

theorem State.reportedFrame_keptSafety : (s.reportedFrame ig sp ge dr).port .safety = s.port .safety := by
  unfold State.reportedFrame
  rw [State.reportTaken_port _ _ _ _ _ (by decide), s.reportedFrame_kept ig sp ge dr hkept]
  exact (s.received_port .cabin .safety).trans (if_neg (by decide))

theorem State.reportedFrame_reported {v : Vehicle} (hignition : v.ignition = ignitionOf ig)
    (hspeed : v.speed = (s.stored ig sp ge dr).vehicle.speed) (p : Pos) :
    (s.reportedFrame ig sp ge dr).pos p = (s.reported v).pos p := by
  have hreported : (s.reported v).pos p = _ := PerPos.get_ofFn _ p
  have hevaluated : (s.pos p).reminder.evaluated (s.entry p).reminderClass (s.pos p).cls.stable (s.pos p).buckle.belt
      (s.stored ig sp ge dr).vehicle s.config.settings =
      (s.pos p).reminder.evaluated (s.entry p).reminderClass (s.pos p).cls.stable (s.pos p).buckle.belt v s.config.settings :=
    (ReminderRec.evaluated_congr _ hignition hspeed).symm
  rw [State.reportedFrame_pos, s.reportedFrame_keptInjection ig sp ge dr hkept, hreported, hignition, hevaluated]
  rfl

theorem State.reportedFrame_defers {v : Vehicle} (hignition : v.ignition = ignitionOf ig)
    (hspeed : v.speed = (s.stored ig sp ge dr).vehicle.speed) : s.Defers (s.reported v) (s.reportedFrame ig sp ge dr) := by
  have hpos := s.reportedFrame_reported ig sp ge dr hkept hignition hspeed
  have hconfig := State.reportedFrame_config (s := s) (ig := ig) (sp := sp) (ge := ge) (dr := dr)
  have hcapture := s.reportedFrame_keptCapture ig sp ge dr hkept
  have hlines := s.reportedFrame_lines ig sp ge dr
  have hnumber := s.reportedFrame_number ig sp ge dr
  have hstaging := s.reportedFrame_staging ig sp ge dr
  have hrestraint := s.reportedFrame_restraint ig sp ge dr
  have hservice := s.reportedFrame_keptService ig sp ge dr hkept
  have hsafety := s.reportedFrame_keptSafety ig sp ge dr hkept
  generalize s.reportedFrame ig sp ge dr = w at *
  have hlength : (w.port .service).queue.length ≤ (s.port .service).queue.length + 1 := by rw [hservice]; exact Nat.le_succ _
  exact ⟨⟨⟨hpos, hconfig, hcapture, hlines, hnumber⟩, hstaging, hlength⟩, hconfig, hstaging, by rw [hrestraint]; exact ⟨rfl, rfl, rfl⟩,
    by rw [hsafety], hnumber, hlength⟩

end

/-! ## R13 -/

theorem queueLegal_of_length_le_one {q : List Notice} (h : q.length ≤ 1) : queueLegal q := by
  refine ⟨h.trans (by decide), ?_⟩
  match q with
  | [] => exact .nil
  | [_] => exact List.nodup_singleton _

/-- What an applied commit leaves, with what it tells the safety port. `only` holds of the events that tell that port nothing themselves. -/
theorem State.Defers.settled {s u w t : State} {only : Prop} (hsource : s.Defers u w) (hf : w.applyDeferred.Follows t)
    (hd : s.staging.deferred = true) (hports : u.port .safety = s.port .safety)
    (hsilent : only → (w.port .safety).queue = (s.port .safety).queue)
    (hlength : (w.port .safety).queue.length ≤ (s.port .safety).queue.length + 1) (hopen : t.gateOpen) :
    t.staging.deferred = false ∧ t.config = { s.config with map := s.stagedMap } ∧
      (∀ p : Pos, t.staging.entries.get p = none) ∧ s.Derived t ∧
      (s.ports.service.queue.length ≤ 13 → ∃ n ∈ t.ports.service.queue, n.kind = .commitApplied ∧ n.subject = 0 ∧
        ∀ p : Pos, n.payload.getLsbD p.val = (s.staging.entries.get p).isSome) ∧
      ((∀ p : Pos, s.staging.entries.get p = none → t.pos p = u.pos p) ∧ u.CommitsCapture t ∧
       (only → (s.port .safety).queue = [] → (∃ q : Pos, s.staging.entries.get q = none) → s.TellsDecision t) ∧
       (∀ (p : Pos) (e : MapEntry), s.staging.entries.get p = some e → u.Committed t p e ∧
         (only ∨ (∃ q : Pos, s.staging.entries.get q = none) → u.TellsCommitted t p))) := by
  obtain ⟨hdeferred, hconfig, hempty, hderived, happlied, hunstaged, hcapture, hcommitted⟩ := hsource.applies hf hd hopen
  refine ⟨hdeferred, hconfig, hempty, hderived, happlied, hunstaged, hcapture, fun honly hqueue hfree => ?_,
    fun p e he => ⟨hcommitted p e he, fun hroom hsequence hqueue => ?_⟩⟩
  · have hnone : (w.port .safety).queue = [] := (hsilent honly).trans hqueue
    refine hsource.tellsDecision hf hd (queueLegal_of_length_le_one (by rw [hnone]; decide)) hopen ?_
    rw [hnone]
    exact (Nat.zero_add _).trans_lt (hsource.stagedPositions_lt hfree)
  · have hnone : (s.port .safety).queue = [] := by rw [← hports]; exact hqueue
    have hone : (w.port .safety).queue.length ≤ 1 := hlength.trans (by rw [hnone]; decide)
    refine hsource.tellsCommitted hf hd (queueLegal_of_length_le_one hone) hopen he ?_ hsequence hqueue
    rcases hroom with honly | hfree
    · rw [hsilent honly, hnone]
      exact (Nat.zero_add _).trans_le w.stagedPositions_length
    · have hlt := hsource.stagedPositions_lt hfree
      omega

/-- Settles O43. -/
theorem deferredCommitAppliesWhenAllThreeHold : Obligations.DeferredCommitAppliesWhenAllThreeHold := by
  unfold Obligations.DeferredCommitAppliesWhenAllThreeHold
  intro s t i hd hexec hcases
  rcases hcases with ⟨chk, rfl, hready, hsound, hheld⟩ | ⟨rfl, hrun, hheld⟩ | ⟨readBack, rfl, hrun, hsaving⟩ |
    ⟨ig, sp, ge, dr, chk, rfl, hready, hsound, h1, h3, hg, hdr⟩
  case inl =>
    have hdefers := s.unheld_defers
    have hqueue : ((s.received .safety).unheld.port .safety).queue = (s.port .safety).queue := s.received_queues .safety .safety
    have htake := State.takeFrame_ready (act := State.releaseAnswer) hready hsound rfl rfl
    rw [State.releaseAnswer_held ((s.received_holdActive .safety).trans hheld), State.answer_state, State.endHold_eq] at htake
    have ht : s.takeFrame .safety 0x22 [] chk State.releaseAnswer = t := Host.Outcome.next.inj hexec
    rw [htake] at ht
    have hf : (s.received .safety).unheld.applyDeferred.Follows t := ht ▸ (State.answered_shows _ _ _).follows
    exact ⟨hdefers.settled hf hd rfl (fun _ => hqueue) ((congrArg List.length hqueue).le.trans (Nat.le_succ _)),
      hf.waits hdefers.staging hdefers.config⟩
  case inr.inl =>
    have hdefers := s.holdLapsed_defers
    have ht : s.event (fun s => if s.holdActive then s.expireHold else s) = t := Host.Outcome.next.inj hexec
    rw [State.event_running hrun, if_pos hheld, State.expireHold_eq] at ht
    have hf : s.holdLapsed.applyDeferred.Follows t := ht ▸ State.judgeEco_follows _
    exact ⟨hdefers.settled hf hd rfl (fun h => absurd rfl h) s.holdLapsed_received.length_le,
      hf.waits hdefers.staging hdefers.config⟩
  case inr.inr.inl =>
    obtain ⟨image, himage⟩ := Option.isSome_iff_exists.1 hsaving
    have hdefers := s.saveJudged_defers image readBack
    have hqueue := congrArg PortState.queue (s.saveJudged_safety image readBack)
    have ht : s.event (State.endSave readBack) = t := Host.Outcome.next.inj hexec
    rw [State.event_running hrun, State.endSave_inFlight readBack himage] at ht
    have hf : (s.saveJudged image readBack).applyDeferred.Follows t := ht ▸ State.judgeEco_follows _
    exact ⟨hdefers.settled hf hd rfl (fun _ => hqueue) ((congrArg List.length hqueue).le.trans (Nat.le_succ _)),
      hf.waits hdefers.staging hdefers.config⟩
  case inr.inr.inr =>
    obtain ⟨t', ht, -, -, hshows⟩ := State.report_shows hready hsound h1 h3 hg hdr
    obtain rfl : t' = t := Host.Outcome.next.inj (ht.symm.trans hexec)
    refine ⟨fun hopen => ?_, hshows.follows.waits (s.reportedFrame_staging ig sp ge dr) State.reportedFrame_config⟩
    have hvehicle := State.shown_vehicle hshows
    have hkept : (s.stored ig sp ge dr).standstill = true := (State.shown_standstill hshows).symm.trans hopen.1
    have hdefers := s.reportedFrame_defers ig sp ge dr (.inr hkept) (v := t'.vehicle)
      (congrArg Vehicle.ignition hvehicle :) (congrArg Vehicle.speed hvehicle :)
    have hqueue := congrArg PortState.queue (s.reportedFrame_keptSafety ig sp ge dr (.inr hkept))
    exact hdefers.settled hshows.follows hd rfl (fun _ => hqueue) ((congrArg List.length hqueue).le.trans (Nat.le_succ _)) hopen

end Sys2Proof.Machine

/-! What hand-overs and fit decisions at some positions leave of the rest (R28 to R36). -/

namespace Sys2Proof.Machine

/-- A notice of a visited position to the cabin port: of its class, its reminder or its belt. -/
def VisitNotice (p : Pos) (k : NoticeKind) (n : Nat) : Prop := CabinNotice p k n ∨ (k = .beltChanged ∧ n = posNumber p)

/-- CAPTURE_DONE of a position. -/
def DoneNotice (p : Pos) (k : NoticeKind) (n : Nat) : Prop := k = .captureDone ∧ n = posNumber p

/-- From s to t the positions of which P holds were handed outcomes, or had their fits decided. -/
structure State.Visits (s t : State) (P : Pos → Prop) : Prop where
  rest : s.lineBack t = s
  nodes : ∀ l a, t.node l a = s.node l a
  others : ∀ q, ¬ P q → t.pos q = s.pos q
  safety : ∃ n, Received (fun k m => ∃ p, P p ∧ SafetyNotice p k m) (s.port .safety).queue n (t.port .safety).queue
  cabin : ∃ n, Received (fun k m => ∃ p, P p ∧ VisitNotice p k m) (s.port .cabin).queue n (t.port .cabin).queue
  service : ∃ n, Received (fun k m => ∃ p, P p ∧ DoneNotice p k m) (s.port .service).queue n (t.port .service).queue
  idle : (∀ c, s.capture = some c → ¬ P c.position) →
    t.capture = s.capture ∧ t.staging = s.staging ∧ t.port .service = s.port .service

theorem State.Visits.refl (s : State) (P : Pos → Prop) : s.Visits s P :=
  ⟨rfl, fun _ _ => rfl, fun _ _ => rfl, ⟨0, .refl 0⟩, ⟨0, .refl 0⟩, ⟨0, .refl 0⟩, fun _ => ⟨rfl, rfl, rfl⟩⟩

section
variable {s t u : State} {P Q : Pos → Prop}

theorem Received.comp {About : NoticeKind → Nat → Prop} {q r x : List Notice} (h : ∃ n, Received About q n r)
    (k : ∃ n, Received About r n x) : ∃ n, Received About q n x := by
  obtain ⟨n, hn⟩ := h
  obtain ⟨m, hm⟩ := k
  exact ⟨n + m, hn.trans hm⟩

theorem State.Visits.trans (h : s.Visits t P) (k : t.Visits u P) : s.Visits u P where
  rest := (congrArg s.lineBack k.rest).trans h.rest
  nodes l a := (k.nodes l a).trans (h.nodes l a)
  others q hq := (k.others q hq).trans (h.others q hq)
  safety := Received.comp h.safety k.safety
  cabin := Received.comp h.cabin k.cabin
  service := Received.comp h.service k.service
  idle hidle := by
    obtain ⟨hcapture, hstaging, hservice⟩ := h.idle hidle
    obtain ⟨hcapture', hstaging', hservice'⟩ := k.idle (by rw [hcapture]; exact hidle)
    exact ⟨hcapture'.trans hcapture, hstaging'.trans hstaging, hservice'.trans hservice⟩

theorem State.Visits.mono (h : s.Visits t P) (hPQ : ∀ p, P p → Q p) : s.Visits t Q := by
  have wider {K : Pos → NoticeKind → Nat → Prop} {q r : List Notice} (k : ∃ n, Received (fun k m => ∃ p, P p ∧ K p k m) q n r) :
      ∃ n, Received (fun k m => ∃ p, Q p ∧ K p k m) q n r := by
    obtain ⟨n, hn⟩ := k
    exact ⟨n, hn.mono (fun k m ⟨p, hp, hk⟩ => ⟨p, hPQ p hp, hk⟩) le_rfl⟩
  exact ⟨h.rest, h.nodes, fun q hq => h.others q fun k => hq (hPQ q k), wider h.safety, wider h.cabin, wider h.service,
    fun hidle => h.idle fun c hc k => hidle c hc (hPQ _ k)⟩

theorem State.Visits.ite {c : Prop} [Decidable c] (h : s.Visits t P) (k : s.Visits u P) : s.Visits (if c then t else u) P := by
  split
  · exact h
  · exact k

section
variable (h : s.Visits t P)
include h

theorem State.Visits.config : t.config = s.config := (congrArg State.config h.rest :)
theorem State.Visits.store : t.store = s.store := (congrArg State.store h.rest :)
theorem State.Visits.phase : t.phase = s.phase := (congrArg State.phase h.rest :)
theorem State.Visits.number : t.scanner.number = s.scanner.number := (congrArg (fun u : State => u.scanner.number) h.rest :)
theorem State.Visits.probing : t.scanner.probing = s.scanner.probing := (congrArg (fun u : State => u.scanner.probing) h.rest :)
theorem State.Visits.hold : t.restraint.hold = s.restraint.hold := (congrArg (fun u : State => u.restraint.hold) h.rest :)

theorem State.Visits.holdActive : t.holdActive = s.holdActive := by rw [State.holdActive, h.hold, State.holdActive]
theorem State.Visits.entry (p : Pos) : t.entry p = s.entry p := by rw [State.entry, h.config, State.entry]
theorem State.Visits.boundTo (l : Line) (a : Fin 6) (p : Pos) : t.boundTo l a p = s.boundTo l a p := by
  rw [State.boundTo, h.entry, State.boundTo]
theorem State.Visits.boundNode (p : Pos) : t.boundNode p = s.boundNode p := by
  rw [State.boundNode, h.entry, h.nodes, State.boundNode]

/-- A told class of a position that was not visited stays told. -/
theorem State.Visits.told {p : Pos} (hp : ¬ P p) (hs : s.ClassTold p) : t.ClassTold p := by
  obtain ⟨n, hn⟩ := h.safety
  unfold State.ClassTold
  rw [h.others p hp]
  refine hs.mono hn ?_ h.number
  rintro ⟨q, hq, ⟨-, hnumber⟩ | ⟨hkind, -⟩⟩
  · exact hp (Fin.ext (Nat.succ_injective hnumber : p.val = q.val) ▸ hq)
  · cases hkind

end

end

/-! ## Operations at a position -/

/-- An operation at a position, by its frame and what the ports hear. -/
theorem State.OutcomeFrame.visits {s t : State} {p : Pos} (h : s.OutcomeFrame t p)
    (hsafety : ∃ n, Received (SafetyNotice p) (s.port .safety).queue n (t.port .safety).queue)
    (hcabin : ∃ n, Received (VisitNotice p) (s.port .cabin).queue n (t.port .cabin).queue)
    (hservice : ∃ n, Received (DoneNotice p) (s.port .service).queue n (t.port .service).queue)
    (hidle : (∀ c, s.capture = some c → c.position ≠ p) →
      t.capture = s.capture ∧ t.staging = s.staging ∧ t.port .service = s.port .service) : s.Visits t (· = p) := by
  have at_p {K : Pos → NoticeKind → Nat → Prop} {q r : List Notice} (k : ∃ n, Received (K p) q n r) :
      ∃ n, Received (fun k m => ∃ x, x = p ∧ K x k m) q n r := by
    obtain ⟨n, hn⟩ := k
    exact ⟨n, hn.mono (fun k m hk => ⟨p, rfl, hk⟩) le_rfl⟩
  have hlines : t.scanner.lines = s.scanner.lines := (congrArg (fun u : State => u.scanner.lines) h.rest :)
  refine ⟨?_, fun l a => by rw [State.node, hlines, State.node], h.others, at_p hsafety, at_p hcabin, at_p hservice, hidle⟩
  have hrest := congrArg (fun u : State => { u with scanner := { u.scanner with lines := s.scanner.lines } }) h.rest
  exact hrest

section
variable (s : State) (p : Pos)

/-- The Classifier's part of an outcome. -/
theorem State.Classifies.visits {s t : State} {p : Pos} (h : s.Classifies true t p) : s.Visits t (· = p) := by
  obtain ⟨n, hn⟩ := h.cabin
  exact h.frame.visits h.safety ⟨n, hn.mono (fun _ _ => .inl) le_rfl⟩ ⟨0, .of_eq (by rw [h.service])⟩
    fun _ => ⟨h.capture, h.staging, h.service⟩

theorem State.modPos_visits (f : PosRec → PosRec) : s.Visits (s.modPos p f) (· = p) :=
  (s.modPos_outcome p f).visits ⟨0, .refl 0⟩ ⟨0, .refl 0⟩ ⟨0, .refl 0⟩ fun _ => ⟨rfl, rfl, rfl⟩

theorem State.evaluate_visits : s.Visits (s.evaluate p) (· = p) := by
  have hframe := s.evaluate_frame p
  have hport {q : Port} (hq : q ≠ .cabin) : (s.evaluate p).port q = s.port q := State.port_of_reminderBack hframe.rest hq
  refine hframe.outcome.visits ⟨0, .of_eq (by rw [hport (by decide)])⟩ ⟨_, (s.evaluate_received p).mono (fun _ _ k => .inl (.inr k)) le_rfl⟩
    ⟨0, .of_eq (by rw [hport (by decide)])⟩ fun _ => ⟨State.capture_of_reminderBack hframe.rest, ?_, hport (by decide)⟩
  exact (congrArg State.staging hframe.rest :)

theorem State.post_cabin_visits {k : NoticeKind} {n : Nat} (v : Half) (h : VisitNotice p k n) : s.Visits (s.post .cabin k n v) (· = p) := by
  have hport {q : Port} (hq : q ≠ .cabin) : (s.post .cabin k n v).port q = s.port q := State.post_port_other _ _ _ _ _ hq
  exact (s.post_outcome p .cabin k n v).visits ⟨0, .of_eq (by rw [hport (by decide)])⟩ ⟨1, s.post_received .cabin k n v .cabin fun _ => h⟩
    ⟨0, .of_eq (by rw [hport (by decide)])⟩ fun _ => ⟨rfl, rfl, hport (by decide)⟩

theorem State.takeBuckle_visits (x : SlotSample) : s.Visits (s.takeBuckle p x) (· = p) := by
  rw [State.takeBuckle_eq]
  refine State.Visits.trans ?_ (State.evaluate_visits _ p)
  unfold State.buckleTaken
  extract_lets taken
  have htaken : s.Visits taken (· = p) := s.modPos_visits p _
  exact .ite (htaken.trans (State.post_cabin_visits _ p _ (.inr ⟨rfl, rfl⟩))) htaken

theorem State.loseBelt_visits : s.Visits (s.loseBelt p) (· = p) := by
  unfold State.loseBelt
  extract_lets r cleared
  have hcleared : s.Visits cleared (· = p) := s.modPos_visits p _
  exact .ite (hcleared.trans ((cleared.post_cabin_visits p _ (.inr ⟨rfl, rfl⟩)).trans (State.evaluate_visits _ p))) hcleared

theorem State.setFit_visits (fit : FitState) : s.Visits (s.setFit p fit) (· = p) := by
  have hfitted : s.Visits (s.fitted p fit) (· = p) := s.modPos_visits p _
  have hcapped (u : State) : u.Visits (u.capped p) (· = p) := u.modPos_visits p _
  rw [State.setFit_eq, State.recompute_eq]
  exact hfitted.trans (.ite ((hcapped _).trans (State.loseBelt_visits _ p)) (hcapped _))

theorem State.refit_visits (n : NodeRec) (reason : Option NodeReason) : s.Visits (s.refit n reason p) (· = p) := by
  unfold State.refit
  split
  · split
    · exact s.setFit_visits p _
    · exact .refl s _
  · exact s.setFit_visits p _
  · exact s.setFit_visits p _
  · exact .refl s _

/-- The end of a capture of the visited position. -/
theorem State.abortCapture_visits (r : CaptureResult) (h : ∀ c, s.capture = some c → c.position = p) :
    s.Visits (s.abortCapture r) (· = p) := by
  cases hc : s.capture with
  | none => rw [State.abortCapture_idle r hc]; exact .refl s _
  | some c =>
    have hp := h c hc
    have hport {q : Port} (hq : q ≠ .service) : (s.abortCapture r).port q = s.port q := State.abortCapture_port r s hq
    refine (s.abortCapture_outcome r p).visits ⟨0, .of_eq (by rw [hport (by decide)])⟩ ⟨0, .of_eq (by rw [hport (by decide)])⟩ ?_
      fun k => absurd hp (k c hc)
    rw [State.abortCapture_inFlight r hc]
    exact ⟨1, State.post_received { s with capture := none } .service _ _ _ .service fun _ => ⟨rfl, by rw [hp]⟩⟩

theorem State.abortCaptureOf_visits (r : CaptureResult) : s.Visits (s.abortCaptureOf r p) (· = p) := by
  unfold State.abortCaptureOf
  split
  next h =>
    refine s.abortCapture_visits p r fun c hc => ?_
    rw [hc] at h
    simpa using h
  · exact .refl s _

/-- A sample at a position is taken by a capture of that position alone (R49). -/
theorem State.captureTake_visits (x : SlotSample) : s.Visits (s.captureTake p x) (· = p) := by
  cases hc : s.capture with
  | none =>
    have hidle : s.captureTake p x = s := by simp only [State.captureTake, hc]
    rw [hidle]; exact .refl s _
  | some c =>
    by_cases hp : c.position = p
    · have hservice : ∃ n, Received (DoneNotice p) (s.port .service).queue n ((s.captureTake p x).port .service).queue := by
        have hpost (u : State) (hu : u.port .service = s.port .service) (v : Half) :
            ∃ n, Received (DoneNotice p) (s.port .service).queue n ((u.post .service .captureDone (posNumber p) v).port .service).queue := by
          have h := u.post_received .service .captureDone (posNumber p) v .service (About := DoneNotice p) fun _ => ⟨rfl, rfl⟩
          rw [hu] at h
          exact ⟨1, h⟩
        by_cases hsteady : x.matFault = true ∨ 400 ≤ x.load
        · rw [State.captureTake_unstable hc hp hsteady]
          exact hpost { s with capture := none } rfl _
        · obtain ⟨hm, hl⟩ := not_or.1 hsteady
          rw [State.captureTake_steady hc hp (by simpa using hm) (Nat.lt_of_not_le hl)]
          split
          · exact ⟨0, .refl 0⟩
          · exact hpost _ rfl _
      have hothers {q : Port} (hq : q ≠ .service) : (s.captureTake p x).port q = s.port q := by
        by_cases hsteady : x.matFault = true ∨ 400 ≤ x.load
        · rw [State.captureTake_unstable hc hp hsteady, State.post_port_other _ _ _ _ _ hq]
          rfl
        · obtain ⟨hm, hl⟩ := not_or.1 hsteady
          rw [State.captureTake_steady hc hp (by simpa using hm) (Nat.lt_of_not_le hl)]
          split
          · rfl
          · rw [State.post_port_other _ _ _ _ _ hq]
            rfl
      exact (s.captureTake_outcome p x).visits ⟨0, .of_eq (by rw [hothers (by decide)])⟩ ⟨0, .of_eq (by rw [hothers (by decide)])⟩
        hservice fun k => absurd hp (k c hc)
    · rw [State.captureTake_other hc hp]; exact .refl s _

theorem State.pipeline_visits (x : SlotSample) : s.Visits (s.pipeline p x) (· = p) :=
  ((s.captureTake_visits p x).trans ((State.modPos_visits _ p _).trans (State.modPos_visits _ p _))).trans
    (State.takeBuckle_visits _ p x)

theorem State.handTo_visits (n : NodeRec) (slip : Bool) (o : PollOutcome) : s.Visits (s.handTo n slip o p) (· = p) := by
  cases h : s.delivered p slip o with
  | some x =>
    rw [State.handTo_sample _ _ _ _ _ h]
    exact (s.pipeline_visits p x).trans (State.takeOutcome_classifies _ _ p).visits
  | none =>
    rw [State.handTo_nothing _ _ _ _ _ h]
    exact (s.abortCaptureOf_visits p .node).trans (State.takeOutcome_classifies _ _ p).visits

end

/-! ## Walks -/

section
variable {f : Pos → State → State} (hf : ∀ (p : Pos) (s : State), s.Visits (f p s) (· = p))
include hf

theorem State.forPositions_visits (ps : List Pos) (s : State) : s.Visits (s.forPositions ps f) (· ∈ ps) := by
  induction ps generalizing s with
  | nil => exact .refl s _
  | cons p ps ih =>
    have hp := (hf p s).mono (Q := (· ∈ p :: ps)) fun q hq => by simp [show q = p from hq]
    exact hp.trans ((ih (f p s)).mono fun q hq => List.mem_cons_of_mem p hq)

/-- A walk around the visit to one of its positions; nothing comes before the visit to the lowest. -/
theorem State.forPositions_through {ps : List Pos} (hsorted : ps.Pairwise (· < ·)) (s : State) {p : Pos} (hp : p ∈ ps) :
    ∃ u, s.Visits u (fun q => q ∈ ps ∧ q ≠ p) ∧ (f p u).Visits (s.forPositions ps f) (fun q => q ∈ ps ∧ q ≠ p) ∧
      ((∀ q ∈ ps, ¬ q < p) → u = s) := by
  obtain ⟨as, bs, rfl⟩ := List.append_of_mem hp
  obtain ⟨-, hbs, hbefore⟩ := List.pairwise_append.1 hsorted
  obtain ⟨hafter, -⟩ := List.pairwise_cons.1 hbs
  refine ⟨s.forPositions as f, (State.forPositions_visits hf as s).mono fun q hq => ⟨by simp [hq], (hbefore q hq p (by simp)).ne⟩, ?_,
    fun hlowest => ?_⟩
  · have hrest := (State.forPositions_visits hf bs (f p (s.forPositions as f))).mono
      (Q := fun q => q ∈ as ++ p :: bs ∧ q ≠ p) fun q hq => ⟨by simp [hq], (hafter q hq).ne'⟩
    have hsplit : s.forPositions (as ++ p :: bs) f = (f p (s.forPositions as f)).forPositions bs f := by
      simp [State.forPositions, List.foldl_append]
    rw [hsplit]
    exact hrest
  · have hnil : as = [] := List.eq_nil_iff_forall_not_mem.2 fun q hq => hlowest q (by simp [hq]) (hbefore q hq p (by simp))
    rw [hnil]
    rfl

end

theorem State.bound_sorted (s : State) (l : Line) (a : Fin 6) : (s.bound l a).Pairwise (· < ·) :=
  (show allPos.Pairwise (· < ·) by decide).filter _

end Sys2Proof.Machine

/-! An outcome at an address by what it hands to one of its bound positions (R28 to R36). -/

namespace Sys2Proof.Machine

/-! ## What the class record after an outcome reads -/

section
variable {s t : State} {p : Pos}

theorem State.directClass_congr (hcls : (t.pos p).cls = (s.pos p).cls) (hhold : t.holdActive = s.holdActive) (cls : OccClass)
    (cause : FaultCause) : t.directClass p cls cause = s.directClass p cls cause := by
  rw [State.directClass, hcls, hhold, State.directClass]

theorem State.standingClass_congr (hcls : (t.pos p).cls = (s.pos p).cls) (hhold : t.holdActive = s.holdActive)
    (hconfig : t.config = s.config) (identified : Bool) : t.standingClass p identified = s.standingClass p identified := by
  unfold State.standingClass
  rw [hcls, hhold, State.profileOf_congr hconfig]

theorem State.onlineClass_congr (hcls : (t.pos p).cls = (s.pos p).cls) (hhold : t.holdActive = s.holdActive)
    (hconfig : t.config = s.config) (identified : Bool) (i : Option OccClass) :
    t.onlineClass p identified i = s.onlineClass p identified i := by
  unfold State.onlineClass
  rw [State.standingClass_congr hcls hhold hconfig, hhold, State.profileOf_congr hconfig]

/-- A class is heard of after an operation that the safety port does not hear of. -/
theorem State.Silent.heard {u : State} (h : s.Silent t p) (k : t.ClassHeard u p) : s.ClassHeard u p := by
  rcases k with ⟨hsequence, hqueue⟩ | htold
  · exact .inl ⟨hsequence.trans (congrArg ClassRec.sequence h.cls), hqueue.trans h.safety⟩
  · refine .inr fun hroom => htold ?_
    unfold State.HasRoom
    rw [h.safety]
    exact hroom

end

/-! ## A hand-over -/

section
variable (s : State) (p : Pos)

theorem State.abortCaptureOf_rest (r : CaptureResult) :
    { s.abortCaptureOf r p with capture := s.capture, ports := s.ports } = s := by
  unfold State.abortCaptureOf
  split
  · exact s.abortCapture_rest r
  · rfl

theorem State.abortCaptureOf_pos (r : CaptureResult) (q : Pos) : (s.abortCaptureOf r p).pos q = s.pos q :=
  (congrArg (fun u : State => u.pos q) (s.abortCaptureOf_rest p r) :)

theorem State.abortCaptureOf_holdActive (r : CaptureResult) : (s.abortCaptureOf r p).holdActive = s.holdActive :=
  (congrArg State.holdActive (s.abortCaptureOf_rest p r) :)

theorem State.abortCaptureOf_silent (r : CaptureResult) : s.Silent (s.abortCaptureOf r p) p := by
  have hsafety : (s.abortCaptureOf r p).port .safety = s.port .safety := by
    unfold State.abortCaptureOf
    split
    · exact State.abortCapture_port r s (by decide)
    · rfl
  exact ⟨by rw [s.abortCaptureOf_pos], by rw [hsafety], (s.abortCaptureOf_outcome r p).number⟩

theorem State.captureTake_safety (x : SlotSample) : (s.captureTake p x).port .safety = s.port .safety := by
  unfold State.captureTake
  split
  · rfl
  · split
    · rfl
    · split
      · exact State.abortCapture_port _ s (by decide)
      · split
        · rfl
        · exact State.post_port_other _ _ _ _ _ (by decide)

theorem State.takeBuckle_silent (x : SlotSample) : s.Silent (s.takeBuckle p x) p := by
  rw [State.takeBuckle_eq]
  refine State.Silent.trans ?_ (State.evaluate_frame _ p).silent
  unfold State.buckleTaken
  extract_lets taken
  have htaken : s.Silent taken p := s.modPos_silent p rfl
  exact .ite (htaken.trans (taken.post_cabin_silent p _ _ _)) htaken

theorem State.pipeline_silent (x : SlotSample) : s.Silent (s.pipeline p x) p := by
  have htaken : s.Silent (s.captureTake p x) p :=
    ⟨by rw [s.captureTake_pos], by rw [s.captureTake_safety], (s.captureTake_outcome p x).number⟩
  unfold State.pipeline
  extract_lets taken e pr loaded seated
  have hloaded : taken.Silent loaded p := taken.modPos_silent p rfl
  have hseated : loaded.Silent seated p := loaded.modPos_silent p rfl
  exact ((htaken.trans hloaded).trans hseated).trans (seated.takeBuckle_silent p x)

variable (n : NodeRec) (slip : Bool) (o : PollOutcome)

/-- A class that a hand-over changed is told to the safety port, where that had room (R86). -/
theorem State.handTo_heard : s.ClassHeard (s.handTo n slip o p) p := by
  cases h : s.delivered p slip o with
  | some x =>
    rw [State.handTo_sample _ _ _ _ _ h]
    exact (s.pipeline_silent p x).heard (State.takeOutcome_heard _ _ p)
  | none =>
    rw [State.handTo_nothing _ _ _ _ _ h]
    exact (s.abortCaptureOf_silent p .node).heard (State.takeOutcome_heard _ _ p)

theorem State.applyDirect_watched {d : Bool} (x : Direct) : ((s.applyDirect d x p).pos p).watched = (s.pos p).watched := by
  have hcleared : ((s.markCleared p).pos p).watched = (s.pos p).watched := by rw [State.markCleared, State.pos_modPos, if_pos rfl]
  rw [State.applyDirect_eq]
  split
  · exact hcleared
  · rw [State.changeClass_watched _ p (by cases x <;> rfl), hcleared]

/-- An outcome that asks for a direct class and delivers nothing leaves the watched flag (R126). -/
theorem State.takeOutcome_watched (h : Handover) {x : Direct} (hd : h.direct = some x) (hx : h.sample = none) :
    ((s.takeOutcome h p).pos p).watched = (s.pos p).watched := by
  cases hhold : s.holdActive with
  | true =>
    rw [s.takeOutcome_held h p hhold, hx, State.markedHeld, hd]
    simp [State.votedHeld]
  | false => rw [s.takeOutcome_free h p hhold, s.classify_direct h p hd, s.applyDirect_watched]

section
variable (hnothing : s.delivered p slip o = none)
include hnothing

theorem State.handTo_keeps : s.KeepsAllBut (s.handTo n slip o p) p := by
  rw [State.handTo_nothing _ _ _ _ _ hnothing]
  refine State.KeepsAllBut.trans (t := s.abortCaptureOf .node p) ?_ (State.takeOutcome_classifies _ _ p).keeps
  rw [State.KeepsAllBut, s.abortCaptureOf_pos]

theorem State.handover_sample : (s.handover n slip o p).sample = none := congrArg (Option.map _) hnothing

/-- A hand-over that delivers nothing and asks for a direct class (R33, R81, R84). -/
theorem State.handTo_direct {d : Direct} (hd : directAsked n (s.pos p).fit = some d) :
    ((s.handTo n slip o p).pos p).cls = s.directClass p d.cls d.cause ∧
      ((s.handTo n slip o p).pos p).watched = (s.pos p).watched := by
  have hsample := s.handover_sample p n slip o hnothing
  rw [State.handTo_nothing _ _ _ _ _ hnothing]
  refine ⟨?_, ?_⟩
  · rw [State.takeOutcome_direct _ _ _ (show (s.handover n slip o p).direct = some d from hd) hsample]
    exact State.directClass_congr (by rw [s.abortCaptureOf_pos]) (s.abortCaptureOf_holdActive p .node) _ _
  · rw [State.takeOutcome_watched _ _ _ (show (s.handover n slip o p).direct = some d from hd) hsample, s.abortCaptureOf_pos]

/-- A hand-over that delivers nothing and asks for no direct class, of a node that is not ONLINE, leaves the position. -/
theorem State.handTo_offline (hd : directAsked n (s.pos p).fit = none) (hn : n.state ≠ .online) (hid : o.identifies = false) (q : Pos) :
    (s.handTo n slip o p).pos q = s.pos q := by
  have hsample := s.handover_sample p n slip o hnothing
  rw [State.handTo_nothing _ _ _ _ _ hnothing, State.takeOutcome_offline _ (s.handover n slip o p) p hd hn hid hsample]
  exact s.abortCaptureOf_pos p _ q

/-- A hand-over of an ONLINE node that delivers nothing and asks for no direct class (R73 case 4). -/
theorem State.handTo_online (hd : directAsked n (s.pos p).fit = none) (hn : n.state = .online) :
    ((s.handTo n slip o p).pos p).cls = s.onlineClass p o.identifies none := by
  have hsample := s.handover_sample p n slip o hnothing
  have hconfig : (s.abortCaptureOf .node p).config = s.config := (congrArg State.config (s.abortCaptureOf_rest p .node) :)
  rw [State.handTo_nothing _ _ _ _ _ hnothing, State.takeOutcome_online _ (s.handover n slip o p) p hd hn, hsample]
  exact State.onlineClass_congr (by rw [s.abortCaptureOf_pos]) (s.abortCaptureOf_holdActive p .node) hconfig _ _

end

end

/-! ## An outcome at an address -/

section
variable (s : State) (l : Line) (a : Fin 6) (o : PollOutcome)

/-- The node record that an outcome leaves. -/
def State.nodeAfter : NodeRec := ((s.node l a).after s.standstill o).1

/-- The reason that an outcome has to change fits, if any. -/
def State.reasonAfter : Option NodeReason := ((s.node l a).after s.standstill o).2

theorem State.nodeTold_eq : s.nodeTold l a o = (s.setNode l a (s.nodeAfter l a o)).tellNode l a (s.nodeAfter l a o) (s.reasonAfter l a o) := rfl

/-- The told node changes the record of the node and the service port alone. -/
theorem State.nodeTold_rest : { s.nodeTold l a o with
    scanner := { (s.nodeTold l a o).scanner with lines := s.scanner.lines }, ports := s.ports } = s := by
  rw [State.nodeTold_eq]
  cases s.reasonAfter l a o <;> rfl

theorem State.nodeTold_pos (p : Pos) : (s.nodeTold l a o).pos p = s.pos p :=
  (congrArg (fun u : State => u.pos p) (s.nodeTold_rest l a o) :)

theorem State.nodeTold_config : (s.nodeTold l a o).config = s.config := (congrArg State.config (s.nodeTold_rest l a o) :)

theorem State.nodeTold_holdActive : (s.nodeTold l a o).holdActive = s.holdActive :=
  (congrArg State.holdActive (s.nodeTold_rest l a o) :)

theorem State.nodeTold_capture : (s.nodeTold l a o).capture = s.capture := (congrArg State.capture (s.nodeTold_rest l a o) :)

theorem State.nodeTold_staging : (s.nodeTold l a o).staging = s.staging := (congrArg State.staging (s.nodeTold_rest l a o) :)

theorem State.nodeTold_entry (p : Pos) : (s.nodeTold l a o).entry p = s.entry p := by
  rw [State.entry, s.nodeTold_config, State.entry]

theorem State.nodeTold_boundTo (m : Line) (b : Fin 6) (p : Pos) : (s.nodeTold l a o).boundTo m b p = s.boundTo m b p := by
  rw [State.boundTo, s.nodeTold_entry, State.boundTo]

theorem State.nodeTold_node (m : Line) (b : Fin 6) : (s.nodeTold l a o).node m b =
    if m = l ∧ b = a then s.nodeAfter l a o else s.node m b := by
  rw [← State.node_setNode, State.nodeTold_eq]
  cases s.reasonAfter l a o <;> rfl

theorem State.nodeTold_port {q : Port} (hq : q ≠ .service) : (s.nodeTold l a o).port q = s.port q := by
  rw [State.nodeTold_eq]
  cases s.reasonAfter l a o with
  | none => rfl
  | some why =>
    show ((s.setNode l a _).post .service _ _ _).port q = _
    rw [State.post_port_other _ _ _ _ _ hq]
    rfl

/-- Without a reason NODE_CHANGED is not posted (R36). -/
theorem State.nodeTold_silent (h : s.reasonAfter l a o = none) : (s.nodeTold l a o).port .service = s.port .service := by
  rw [State.nodeTold_eq, h]
  rfl

/-- With a reason NODE_CHANGED stands in the service queue, where that had room (R36). -/
theorem State.nodeTold_tells {why : NodeReason} (h : s.reasonAfter l a o = some why) :
    s.TellsNode (s.nodeTold l a o) l a (payloadOf (s.nodeAfter l a o).state.code why.code) := by
  intro hroom
  obtain ⟨m, hm, hkind, hsubject, hpayload, hscan⟩ := (s.setNode l a (s.nodeAfter l a o)).post_mem .service .nodeChanged
    (nodeSubject l a) (payloadOf (s.nodeAfter l a o).state.code why.code) (.inl hroom)
  refine ⟨m, ?_, hkind, hsubject.trans ?_, hpayload, hscan⟩
  · rw [State.nodeTold_eq, h]; exact hm
  · cases l <;> rfl

theorem State.nodeTold_service_length : ((s.nodeTold l a o).port .service).queue.length ≤ (s.port .service).queue.length + 1 := by
  rw [State.nodeTold_eq]
  cases s.reasonAfter l a o with
  | none => exact Nat.le_succ _
  | some why =>
    exact ((s.setNode l a (s.nodeAfter l a o)).post_received .service .nodeChanged _ _ .service (About := fun _ _ => True)
      fun _ => trivial).length_le

/-- The fits decided at an outcome, before the hand-overs. -/
def State.nodeRefitted : State :=
  (s.nodeTold l a o).forPositions (s.bound l a) (State.refit (s.nodeAfter l a o) (s.reasonAfter l a o))

theorem State.takeNodeOutcome_handed : s.takeNodeOutcome l a o = (s.nodeRefitted l a o).forPositions (s.bound l a)
    (State.handTo (s.nodeAfter l a o) (s.reasonAfter l a o = some .slip) o) := s.takeNodeOutcome_eq o l a

theorem State.nodeRefitted_visits : (s.nodeTold l a o).Visits (s.nodeRefitted l a o) (fun q => s.boundTo l a q = true) :=
  (State.forPositions_visits (fun p u => u.refit_visits p _ _) _ _).mono fun _ hq => State.mem_bound.1 hq

theorem State.takeNodeOutcome_visits : (s.nodeTold l a o).Visits (s.takeNodeOutcome l a o) (fun q => s.boundTo l a q = true) := by
  rw [State.takeNodeOutcome_handed]
  exact (s.nodeRefitted_visits l a o).trans
    ((State.forPositions_visits (fun p u => u.handTo_visits p _ _ _) _ _).mono fun _ hq => State.mem_bound.1 hq)

/-- Without a reason no fit is decided. -/
theorem State.nodeRefitted_none (h : s.reasonAfter l a o = none) : s.nodeRefitted l a o = s.nodeTold l a o := by
  unfold State.nodeRefitted
  rw [h]
  have hid (u : State) (ps : List Pos) : u.forPositions ps (State.refit (s.nodeAfter l a o) none) = u := by
    induction ps with
    | nil => rfl
    | cons p ps ih => exact ih
  exact hid _ _

theorem State.refit_silent (n : NodeRec) (reason : Option NodeReason) (p : Pos) : s.Silent (s.refit n reason p) p := by
  unfold State.refit
  split
  · split
    · exact s.setFit_silent p _
    · exact .refl s p
  · exact s.setFit_silent p _
  · exact s.setFit_silent p _
  · exact .refl s p

/-- The safety port does not hear of fits. -/
theorem State.nodeRefitted_safety : ((s.nodeRefitted l a o).port .safety).queue = (s.port .safety).queue := by
  have htold : ((s.nodeTold l a o).port .safety).queue = (s.port .safety).queue := by rw [s.nodeTold_port l a o (by decide)]
  exact State.forPositions_keeps (P := fun u => (u.port .safety).queue = (s.port .safety).queue)
    (fun p u hu => (u.refit_silent _ _ p).safety.trans hu) _ _ htold

/-- An outcome by its part at one bound position p: the fit decided in u, the outcome handed over in v. -/
theorem State.takeNodeOutcome_through {p : Pos} (hp : s.boundTo l a p = true) :
    ∃ u v, (s.nodeTold l a o).Visits u (fun q => s.boundTo l a q = true ∧ q ≠ p) ∧
      (u.refit (s.nodeAfter l a o) (s.reasonAfter l a o) p).Visits v (fun q => s.boundTo l a q = true ∧ q ≠ p) ∧
      (v.handTo (s.nodeAfter l a o) (s.reasonAfter l a o = some .slip) o p).Visits (s.takeNodeOutcome l a o)
        (fun q => s.boundTo l a q = true ∧ q ≠ p) ∧
      ((∀ q : Pos, q < p → s.boundTo l a q = false) → v = s.nodeRefitted l a o) := by
  have hmem : p ∈ s.bound l a := State.mem_bound.2 hp
  obtain ⟨u, hu, hrefit, -⟩ := State.forPositions_through (f := State.refit (s.nodeAfter l a o) (s.reasonAfter l a o))
    (fun p u => u.refit_visits p _ _) (s.bound_sorted l a) (s.nodeTold l a o) hmem
  obtain ⟨v, hv, hhanded, hlowest⟩ := State.forPositions_through
    (f := State.handTo (s.nodeAfter l a o) (s.reasonAfter l a o = some .slip) o) (fun p u => u.handTo_visits p _ _ _)
    (s.bound_sorted l a) (s.nodeRefitted l a o) hmem
  have within (q : Pos) (hq : q ∈ s.bound l a ∧ q ≠ p) : s.boundTo l a q = true ∧ q ≠ p := ⟨State.mem_bound.1 hq.1, hq.2⟩
  rw [State.takeNodeOutcome_handed]
  refine ⟨u, v, hu.mono within, (hrefit.trans hv).mono within, hhanded.mono within, fun h => hlowest fun q hq hlt => ?_⟩
  exact Bool.false_ne_true ((h q hlt).symm.trans (State.mem_bound.1 hq))

end

end Sys2Proof.Machine

/-! The round of a line: the skips that a visit hands on, and the poll it stops at (R21, R33, R34). -/

namespace Sys2Proof.Machine

/-! ## An outcome at one bound position -/

section
variable {s : State} {l : Line} {a : Fin 6} {o : PollOutcome} {p : Pos}

theorem State.boundTo_iff : s.boundTo l a p = true ↔ (s.entry p).enabled = true ∧ (s.entry p).line = l ∧ (s.entry p).address = a := by
  simp [State.boundTo, and_assoc]

/-- A position is bound to one address. -/
theorem State.boundTo_unique {m : Line} {b : Fin 6} (h : s.boundTo l a p = true) (k : s.boundTo m b p = true) : l = m ∧ a = b := by
  obtain ⟨-, rfl, rfl⟩ := State.boundTo_iff.1 h
  obtain ⟨-, rfl, rfl⟩ := State.boundTo_iff.1 k
  exact ⟨rfl, rfl⟩

theorem State.boundNode_of_boundTo (h : s.boundTo l a p = true) : s.boundNode p = s.node l a := by
  obtain ⟨-, rfl, rfl⟩ := State.boundTo_iff.1 h
  rfl

/-- The part of an outcome at a bound position: its fit is decided in u and the outcome handed to it in v. -/
structure State.HandedAt (s : State) (l : Line) (a : Fin 6) (o : PollOutcome) (p : Pos) (u v : State) : Prop where
  before : u.pos p = s.pos p
  entry : u.entry p = s.entry p
  node : u.boundNode p = s.nodeAfter l a o
  refit : v.pos p = (u.refit (s.nodeAfter l a o) (s.reasonAfter l a o) p).pos p
  config : v.config = s.config
  hold : v.holdActive = s.holdActive
  handed : (v.handTo (s.nodeAfter l a o) (s.reasonAfter l a o = some .slip) o p).Visits (s.takeNodeOutcome l a o)
    (fun q => s.boundTo l a q = true ∧ q ≠ p)
  lowest : (∀ q : Pos, q < p → s.boundTo l a q = false) → v = s.nodeRefitted l a o
  captured : (∀ c, s.capture = some c → c.position = p) →
    v.capture = s.capture ∧ v.staging = s.staging ∧ v.port .service = (s.nodeTold l a o).port .service

theorem State.refit_stages (s : State) (n : NodeRec) (reason : Option NodeReason) (p : Pos) : s.Stages (s.refit n reason p) [p] := by
  unfold State.refit
  split
  · split
    · exact s.setFit_stages p _
    · exact .refl s _
  · exact s.setFit_stages p _
  · exact s.setFit_stages p _
  · exact .refl s _

theorem State.takeNodeOutcome_at (hp : s.boundTo l a p = true) : ∃ u v, s.HandedAt l a o p u v := by
  obtain ⟨u, v, hu, hv, hhanded, hlowest⟩ := s.takeNodeOutcome_through l a o hp
  have hself : ¬ (s.boundTo l a p = true ∧ p ≠ p) := fun h => h.2 rfl
  have hrefit := u.refit_visits p (s.nodeAfter l a o) (s.reasonAfter l a o)
  refine ⟨u, v, (hu.others p hself).trans (s.nodeTold_pos l a o p), (hu.entry p).trans (s.nodeTold_entry l a o p), ?_, hv.others p hself,
    ?_, ?_, hhanded, hlowest, fun hcaptured => ?_⟩
  · have hbound : (s.nodeTold l a o).boundTo l a p = true := by rw [s.nodeTold_boundTo]; exact hp
    rw [hu.boundNode, State.boundNode_of_boundTo hbound, s.nodeTold_node, if_pos ⟨rfl, rfl⟩]
  · exact hv.config.trans (hrefit.config.trans (hu.config.trans (s.nodeTold_config l a o)))
  · exact hv.holdActive.trans (hrefit.holdActive.trans (hu.holdActive.trans (s.nodeTold_holdActive l a o)))
  · have hstages := u.refit_stages (s.nodeAfter l a o) (s.reasonAfter l a o) p
    have htold := s.nodeTold_capture l a o
    obtain ⟨hcapture, hstaging, hservice⟩ := hu.idle fun c hc hbound => hbound.2 (hcaptured c (htold.symm.trans hc))
    have hrefitted := hstages.capture.trans (hcapture.trans htold)
    obtain ⟨hcapture', hstaging', hservice'⟩ := hv.idle fun c hc hbound => hbound.2 (hcaptured c (hrefitted.symm.trans hc))
    exact ⟨hcapture'.trans hrefitted, hstaging'.trans (hstages.staging.trans (hstaging.trans (s.nodeTold_staging l a o))),
      hservice'.trans (hstages.service.trans hservice)⟩

section
variable {u v : State} (h : s.HandedAt l a o p u v)
include h

theorem State.HandedAt.result : (s.takeNodeOutcome l a o).pos p =
    (v.handTo (s.nodeAfter l a o) (s.reasonAfter l a o = some .slip) o p).pos p := h.handed.others p fun k => k.2 rfl

theorem State.HandedAt.cls : (v.pos p).cls = (s.pos p).cls := by
  rw [h.refit, (u.refit_silent _ _ p).cls, h.before]

theorem State.HandedAt.unrefitted (hr : s.reasonAfter l a o = none) : v.pos p = s.pos p := by
  rw [h.refit, hr]
  exact h.before

end

/-- A class that an outcome changed is told to the safety port: asked of the lowest bound position, while the queue has room (R86). -/
theorem State.takeNodeOutcome_told (hp : s.boundTo l a p = true) (hlowest : ∀ q : Pos, q < p → s.boundTo l a q = false)
    (hroom : (s.port .safety).queue.length < 16) :
    ((s.takeNodeOutcome l a o).pos p).cls.sequence = (s.pos p).cls.sequence ∨ (s.takeNodeOutcome l a o).ClassTold p := by
  obtain ⟨u, v, h⟩ := s.takeNodeOutcome_at (o := o) hp
  rcases v.handTo_heard p (s.nodeAfter l a o) (s.reasonAfter l a o = some .slip) o with ⟨hsequence, -⟩ | htold
  · rw [h.result, hsequence, h.cls]
    exact .inl rfl
  · refine .inr (h.handed.told (fun k => k.2 rfl) (htold (.inl ?_)))
    rw [h.lowest hlowest, s.nodeRefitted_safety]
    exact hroom

end

/-! ## Hand-overs by the state of the node (R33) -/

section
variable (s : State) (p : Pos) (n : NodeRec) (slip : Bool) (o : PollOutcome) (hnothing : s.delivered p slip o = none)
include hnothing

/-- A hand-over of an UNSEEN or LOST node asks for the class of the verdict. -/
theorem State.handTo_lost (hn : n.state = .unseen ∨ n.state = .lost) (hid : o.identifies = false) :
    ((s.handTo n slip o p).pos p).cls = s.lossClass p n.verdict ∧ ((s.handTo n slip o p).pos p).watched = (s.pos p).watched := by
  have hasked := directAsked_lost (s.pos p).fit hn
  unfold State.lossClass
  cases hv : n.verdict with
  | none =>
    rw [hv] at hasked
    rw [s.handTo_offline p n slip o hnothing hasked (by rcases hn with h | h <;> rw [h] <;> decide) hid]
    exact ⟨rfl, rfl⟩
  | absent => rw [hv] at hasked; exact s.handTo_direct p n slip o hnothing hasked
  | fault => rw [hv] at hasked; exact s.handTo_direct p n slip o hnothing hasked

/-- A hand-over of an identified node to a position that misfits asks for FAULT. -/
theorem State.handTo_misfit (hn : n.state = .online ∨ n.state = .silent) (hfit : (s.pos p).fit = .misfit ∨ (s.pos p).fit = .noSlot) :
    ((s.handTo n slip o p).pos p).cls = s.misfitClass p (s.pos p).fit := by
  have hasked := directAsked_identified (s.pos p).fit hn
  unfold State.misfitClass
  rcases hfit with h | h
  · rw [h] at hasked ⊢
    exact (s.handTo_direct p n slip o hnothing (d := .fault .misfit) (by rw [h]; exact hasked)).1
  · rw [h] at hasked ⊢
    exact (s.handTo_direct p n slip o hnothing (d := .fault .noSlot) (by rw [h]; exact hasked)).1

/-- A hand-over of a SILENT node leaves a position that does not misfit. -/
theorem State.handTo_held (hn : n.state = .silent) (hmisfit : (s.pos p).fit ≠ .misfit) (hslot : (s.pos p).fit ≠ .noSlot)
    (hid : o.identifies = false) (q : Pos) : (s.handTo n slip o p).pos q = s.pos q := by
  refine s.handTo_offline p n slip o hnothing ?_ (by rw [hn]; decide) hid q
  rw [directAsked_identified _ (.inr hn)]
  cases hfit : (s.pos p).fit with
  | misfit => exact absurd hfit hmisfit
  | noSlot => exact absurd hfit hslot
  | fits => rfl
  | unchecked => rfl

end

theorem State.lossClass_congr {s t : State} {p : Pos} (hcls : (t.pos p).cls = (s.pos p).cls) (hhold : t.holdActive = s.holdActive)
    (v : Verdict) : t.lossClass p v = s.lossClass p v := by
  unfold State.lossClass
  rw [hcls, State.directClass_congr hcls hhold, State.directClass_congr hcls hhold]

theorem State.misfitClass_congr {s t : State} {p : Pos} (hcls : (t.pos p).cls = (s.pos p).cls) (hhold : t.holdActive = s.holdActive)
    (fit : FitState) : t.misfitClass p fit = s.misfitClass p fit := by
  unfold State.misfitClass
  rw [hcls, State.directClass_congr hcls hhold, State.directClass_congr hcls hhold]

/-! ## Skips (R21) -/

section
variable {s t : State} {l : Line} {p : Pos}

/-- A skip that is handed on is said of states that agree in the position, HOLD and the node. -/
theorem State.TakesSkip.congr {u : State} {b : Fin 6} (h : t.TakesSkip u l b p) (hpos : t.pos p = s.pos p)
    (hhold : t.holdActive = s.holdActive) (hnode : t.node l b = s.node l b) : s.TakesSkip u l b p := by
  obtain ⟨hkeeps, hcls⟩ := h
  unfold State.KeepsAllBut at hkeeps
  rw [hpos] at hkeeps
  rw [hnode, State.lossClass_congr (congrArg PosRec.cls hpos) hhold] at hcls
  exact ⟨hkeeps, hcls⟩

variable (s l) (a : Fin 6)

theorem State.skip_visits : s.Visits (s.takeNodeOutcome l a .skip) (fun q => s.boundTo l a q = true) := by
  refine State.Visits.trans (t := s.nodeTold l a .skip) ?_ (s.takeNodeOutcome_visits l a .skip)
  have hport (q : Port) : (s.nodeTold l a .skip).port q = s.port q := rfl
  refine ⟨rfl, fun m b => ?_, fun _ _ => rfl, ⟨0, .of_eq (by rw [hport])⟩, ⟨0, .of_eq (by rw [hport])⟩, ⟨0, .of_eq (by rw [hport])⟩,
    fun _ => ⟨rfl, rfl, hport _⟩⟩
  rw [s.nodeTold_node]
  split
  next h => rw [h.1, h.2]; rfl
  · rfl

variable {a}

theorem State.pollFor_none (h : s.pollFor l a = none) : (s.node l a).state = .unseen ∨ (s.node l a).state = .lost := by
  unfold State.pollFor at h
  cases hstate : (s.node l a).state <;> rw [hstate] at h
  · exact .inl rfl
  · cases h
  · cases h
  · exact .inr rfl

theorem State.skip_takesSkip (hpoll : s.pollFor l a = none) (hp : s.boundTo l a p = true) :
    s.TakesSkip (s.takeNodeOutcome l a .skip) l a p := by
  obtain ⟨u, v, h⟩ := s.takeNodeOutcome_at (o := .skip) hp
  have hpos : v.pos p = s.pos p := h.unrefitted rfl
  have hlost := v.handTo_lost p (s.nodeAfter l a .skip) (s.reasonAfter l a .skip = some .slip) .skip rfl (s.pollFor_none l hpoll) rfl
  refine ⟨?_, ?_⟩
  · have hkeeps := v.handTo_keeps p (s.nodeAfter l a .skip) (s.reasonAfter l a .skip = some .slip) .skip rfl
    unfold State.KeepsAllBut at hkeeps ⊢
    rw [hpos, ← h.result] at hkeeps
    exact hkeeps
  · rw [h.result, hlost.1]
    exact State.lossClass_congr h.cls h.hold _

/-! ## The next poll -/

theorem State.nextPoll_polled {c : PollCommand} (h : s.pollFor l a = some c) (as : List (Fin 6)) :
    s.nextPoll l (a :: as) = some { address := a, command := c, frame := pollFrame a c } := by
  unfold State.pollFor at h
  unfold State.nextPoll
  rw [List.findSome?_cons]
  cases hstate : (s.node l a).state <;> rw [hstate] at h <;> simp only at h ⊢
  · split at h <;> cases h
    rw [if_pos ‹_›]
  · cases h; rfl
  · cases h; rfl
  · split at h <;> cases h
    rw [if_pos ‹_›]

theorem State.nextPoll_skipped (h : s.pollFor l a = none) (as : List (Fin 6)) : s.nextPoll l (a :: as) = s.nextPoll l as := by
  unfold State.pollFor at h
  unfold State.nextPoll
  rw [List.findSome?_cons]
  cases hstate : (s.node l a).state <;> rw [hstate] at h <;> simp only at h ⊢
  · split at h <;> cases h
    rw [if_neg ‹_›]
  · cases h
  · cases h
  · split at h <;> cases h
    rw [if_neg ‹_›]

theorem State.nextPoll_congr (hnodes : ∀ l a, t.node l a = s.node l a) (hprobing : t.scanner.probing = s.scanner.probing)
    (as : List (Fin 6)) : t.nextPoll l as = s.nextPoll l as := by
  unfold State.nextPoll
  simp only [hnodes, hprobing]

/-! ## Exchanges -/

theorem State.setExchange_exchange (x : Option Exchange) (m : Line) :
    ((s.setExchange l x).scanner.lines.get m).exchange = if m = l then x else (s.scanner.lines.get m).exchange := by
  unfold State.setExchange State.setLine
  simp only [PerLine.get_set]
  split
  · rfl
  · rfl

theorem State.setNode_exchange (b : Fin 6) (n : NodeRec) (m : Line) :
    ((s.setNode l b n).scanner.lines.get m).exchange = (s.scanner.lines.get m).exchange := by
  unfold State.setNode State.setLine
  simp only [PerLine.get_set]
  split
  next h => rw [h]
  · rfl

theorem State.takeNodeOutcome_exchange (b : Fin 6) (o : PollOutcome) (m : Line) :
    ((s.takeNodeOutcome l b o).scanner.lines.get m).exchange = (s.scanner.lines.get m).exchange := by
  have h := congrArg (fun t : State => (t.scanner.lines.get m).exchange) (State.takeNodeOutcome_rest l b o s)
  exact h.trans (s.setNode_exchange l b _ m)

theorem State.visit_cons_polled {c : PollCommand} (h : s.pollFor l a = some c) (as : List (Fin 6)) :
    s.visit l (a :: as) = s.setExchange l (some { address := a, command := c, frame := pollFrame a c }) := by
  rw [State.visit, h]

theorem State.visit_cons_skipped (h : s.pollFor l a = none) (as : List (Fin 6)) :
    s.visit l (a :: as) = (s.takeNodeOutcome l a .skip).visit l as := by
  rw [State.visit, h]

/-- A visit ends at the next poll (R21). -/
theorem State.visit_exchange (as : List (Fin 6)) (m : Line) : ((s.visit l as).scanner.lines.get m).exchange =
    if m = l then s.nextPoll l as else (s.scanner.lines.get m).exchange := by
  induction as generalizing s with
  | nil => exact s.setExchange_exchange l none m
  | cons a as ih =>
    cases hpoll : s.pollFor l a with
    | some c => rw [s.visit_cons_polled l hpoll, s.setExchange_exchange, s.nextPoll_polled l hpoll]
    | none =>
      have hskip := s.skip_visits l a
      rw [s.visit_cons_skipped l hpoll, ih, s.takeNodeOutcome_exchange, s.nextPoll_skipped l hpoll,
        s.nextPoll_congr l hskip.nodes hskip.probing]

theorem State.setExchange_visits (x : Option Exchange) (P : Pos → Prop) : s.Visits (s.setExchange l x) P := by
  refine ⟨rfl, fun m b => ?_, fun _ _ => rfl, ⟨0, .refl 0⟩, ⟨0, .refl 0⟩, ⟨0, .refl 0⟩, fun _ => ⟨rfl, rfl, rfl⟩⟩
  unfold State.setExchange State.setLine State.node
  rw [PerLine.get_set]
  split
  next h => rw [h]
  · rfl

/-! ## Visits -/

/-- A visit of addresses reaches a position: the address it is bound to comes before the next poll. -/
def State.Reaches (s : State) (l : Line) (as : List (Fin 6)) (q : Pos) : Prop :=
  ∃ b ∈ as, s.boundTo l b q = true ∧ s.nextPoll l (as.filter (· ≤ b)) = none

section
variable {s l} {as : List (Fin 6)} (hsorted : (a :: as).Pairwise (· < ·))
include hsorted

theorem filter_le_head : (a :: as).filter (· ≤ a) = [a] := by
  obtain ⟨hafter, -⟩ := List.pairwise_cons.1 hsorted
  rw [List.filter_cons_of_pos (by simp), List.filter_eq_nil_iff.2 fun b hb => by simpa using hafter b hb]

theorem filter_le_tail {b : Fin 6} (hb : b ∈ as) : (a :: as).filter (· ≤ b) = a :: as.filter (· ≤ b) := by
  obtain ⟨hafter, -⟩ := List.pairwise_cons.1 hsorted
  exact List.filter_cons_of_pos (by simpa using (hafter b hb).le)

end

theorem State.visit_visits {as : List (Fin 6)} (hsorted : as.Pairwise (· < ·)) : s.Visits (s.visit l as) (s.Reaches l as) := by
  induction as generalizing s with
  | nil => exact s.setExchange_visits l none _
  | cons a as ih =>
    cases hpoll : s.pollFor l a with
    | some c => rw [s.visit_cons_polled l hpoll]; exact s.setExchange_visits l _ _
    | none =>
      have hskip := s.skip_visits l a
      rw [s.visit_cons_skipped l hpoll]
      refine (hskip.mono fun q hq => ⟨a, by simp, hq, ?_⟩).trans
        ((ih (s.takeNodeOutcome l a .skip) (List.pairwise_cons.1 hsorted).2).mono ?_)
      · rintro q ⟨b, hb, hbound, hnone⟩
        refine ⟨b, List.mem_cons_of_mem a hb, (hskip.boundTo l b q).symm.trans hbound, ?_⟩
        rw [filter_le_tail hsorted hb, s.nextPoll_skipped l hpoll, ← s.nextPoll_congr l hskip.nodes hskip.probing]
        exact hnone
      · rw [filter_le_head hsorted, s.nextPoll_skipped l hpoll]
        rfl

/-- The skip of a reached address is handed to the positions bound to it (R21, R34). -/
theorem State.visit_takesSkip {as : List (Fin 6)} (hsorted : as.Pairwise (· < ·)) {b : Fin 6} (hb : b ∈ as)
    (hbound : s.boundTo l b p = true) (hnone : s.nextPoll l (as.filter (· ≤ b)) = none) : s.TakesSkip (s.visit l as) l b p := by
  induction as generalizing s with
  | nil => cases hb
  | cons a as ih =>
    have hrest := (List.pairwise_cons.1 hsorted).2
    have hpoll : s.pollFor l a = none := by
      have hle : a ≤ b := by
        rcases List.mem_cons.1 hb with rfl | hb
        · exact le_rfl
        · exact ((List.pairwise_cons.1 hsorted).1 b hb).le
      cases hpoll : s.pollFor l a with
      | none => rfl
      | some c =>
        rw [List.filter_cons_of_pos (by simpa using hle), s.nextPoll_polled l hpoll] at hnone
        cases hnone
    have hskip := s.skip_visits l a
    have hvisit := State.visit_visits (s.takeNodeOutcome l a .skip) l hrest
    rw [s.visit_cons_skipped l hpoll]
    by_cases hab : b = a
    · subst hab
      have hkept : ((s.takeNodeOutcome l b .skip).visit l as).pos p = (s.takeNodeOutcome l b .skip).pos p := by
        refine hvisit.others p ?_
        rintro ⟨c, hc, hcbound, -⟩
        obtain ⟨-, rfl⟩ := State.boundTo_unique hbound ((hskip.boundTo l c p).symm.trans hcbound)
        exact lt_irrefl b ((List.pairwise_cons.1 hsorted).1 b hc)
      have htakes := s.skip_takesSkip l hpoll hbound
      unfold State.TakesSkip State.KeepsAllBut at htakes ⊢
      rw [hkept]
      exact htakes
    · have hbas : b ∈ as := (List.mem_cons.1 hb).resolve_left hab
      have hunbound : s.boundTo l a p ≠ true := fun k => hab (State.boundTo_unique hbound k).2
      rw [filter_le_tail hsorted hbas, s.nextPoll_skipped l hpoll] at hnone
      refine State.TakesSkip.congr (ih _ hrest hbas ((hskip.boundTo l b p).trans hbound) ?_) (hskip.others p hunbound)
        hskip.holdActive (hskip.nodes l b)
      rw [s.nextPoll_congr l hskip.nodes hskip.probing]
      exact hnone

end

end Sys2Proof.Machine

/-! What hand-overs leave of the scan mode, and both lines' rounds at a scan tick (R20, R21, R129). -/

namespace Sys2Proof.Machine

/-! ## Operations that wake nothing -/

/-- From s to t nothing of the vehicle state changed but a running countdown started again, and neither scan timer nor configuration. -/
structure State.Slept (s t : State) : Prop where
  config : t.config = s.config
  vehicle : { t.vehicle with eco := s.vehicle.eco } = s.vehicle
  timer : t.scanner.timer = s.scanner.timer
  eco : s.EcoGoesOn t

section
variable {s t u : State}

theorem State.Slept.refl (s : State) : s.Slept s := ⟨rfl, rfl, rfl, .inl rfl⟩

theorem State.Slept.trans (h : s.Slept t) (k : t.Slept u) : s.Slept u := by
  have hfull : t.ecoFull = s.ecoFull := by rw [State.ecoFull, h.config, State.ecoFull]
  refine ⟨k.config.trans h.config, ?_, k.timer.trans h.timer, ?_⟩
  · rw [← h.vehicle, ← k.vehicle]
  · unfold State.EcoGoesOn
    rcases k.eco with hk | hk <;> rcases h.eco with hh | hh <;> rw [hk, hh]
    · exact .inl rfl
    · exact .inr rfl
    · exact .inr (by rw [hfull])
    · exact .inr (by rw [hfull, Option.map_map]; rfl)

theorem State.Slept.ite {c : Prop} [Decidable c] (h : s.Slept t) (k : s.Slept u) : s.Slept (if c then t else u) := by
  split
  · exact h
  · exact k

/-- An operation that leaves the vehicle state. -/
theorem State.Slept.of_vehicle (hconfig : t.config = s.config) (hvehicle : t.vehicle = s.vehicle)
    (htimer : t.scanner.timer = s.scanner.timer) : s.Slept t :=
  ⟨hconfig, by rw [hvehicle], htimer, .inl (congrArg Vehicle.eco hvehicle)⟩

theorem State.Stages.slept {ps : List Pos} (h : s.Stages t ps) : s.Slept t :=
  ⟨h.config, h.vehicle, congrArg Scanner.timer h.scanner, h.eco⟩

theorem State.forPositions_slept {f : Pos → State → State} (hf : ∀ (p : Pos) (s : State), s.Slept (f p s)) (ps : List Pos) (s : State) :
    s.Slept (s.forPositions ps f) :=
  State.forPositions_keeps (P := s.Slept) (fun p u hu => hu.trans (hf p u)) ps s (.refl s)

end

section
variable (s : State) (p : Pos)

theorem State.derivedAt_slept (d : Bool) : s.Slept (s.derivedAt d p) := by
  unfold State.derivedAt
  have hderived := s.deriveSuppression_frame
  exact .ite (.of_vehicle (congrArg State.config hderived :) (congrArg State.vehicle hderived :)
    (congrArg (fun u : State => u.scanner.timer) hderived :)) (.refl s)

theorem State.changeClass_slept (d : Bool) (cls : OccClass) (cause : FaultCause) : s.Slept (s.changeClass d cls cause p) := by
  rw [State.changeClass_eq]
  have hposted : s.Slept (s.classPosted p cls cause) := ((s.modPos_stages p _).trans (State.postClass_stages _ p)).slept
  have hraised : s.Slept (s.classRaised p cls cause) := hposted.trans (State.evaluate_frame _ p).stages.slept
  have hmarked (u : State) : u.Slept (u.markWatched p) := .ite (u.modPos_stages p _).slept (.refl u)
  exact (hraised.trans ((State.derivedAt_slept _ p d).trans (hmarked _))).trans (State.restartEco_stages _ p).slept

theorem State.markCleared_slept : s.Slept (s.markCleared p) := (s.modPos_stages p _).slept

theorem State.applyDirect_slept (d : Bool) (x : Direct) : s.Slept (s.applyDirect d x p) := by
  rw [State.applyDirect_eq]
  exact .ite (s.markCleared_slept p) ((s.markCleared_slept p).trans (State.changeClass_slept _ p d _ _))

theorem State.returnUnresolved_slept (d : Bool) : s.Slept (s.returnUnresolved d p) := by
  rw [State.returnUnresolved_eq]
  exact .ite ((s.markCleared_slept p).trans (State.modPos_stages _ p _).slept)
    ((s.markCleared_slept p).trans (State.changeClass_slept _ p d _ _))

theorem State.completeVote_slept : s.Slept (s.completeVote p) := by
  unfold State.completeVote
  exact .ite (s.changeClass_slept p true _ _) (.refl s)

theorem State.standing_slept (identified : Bool) : s.Slept (s.standing identified p) := by
  unfold State.standing
  exact (State.Slept.ite (s.returnUnresolved_slept p true) (.refl s)).trans (State.completeVote_slept _ p)

theorem State.markedHeld_slept (h : Handover) : s.Slept (s.markedHeld h p) := .ite (s.modPos_stages p _).slept (.refl s)

/-- An outcome that delivers nothing wakes nothing. -/
theorem State.takeOutcome_slept (h : Handover) (hx : h.sample = none) : s.Slept (s.takeOutcome h p) := by
  cases hhold : s.holdActive with
  | true =>
    rw [s.takeOutcome_held h p hhold, hx]
    exact s.markedHeld_slept p h
  | false =>
    rw [s.takeOutcome_free h p hhold]
    cases hd : h.direct with
    | some x => rw [s.classify_direct h p hd]; exact s.applyDirect_slept p true x
    | none =>
      by_cases hn : h.node = .online
      · rw [s.classify_online h p hd hn, hx]; exact s.standing_slept p _
      · rw [s.classify_offline h p hd hn]; exact .refl s

theorem State.abortCaptureOf_slept (r : CaptureResult) : s.Slept (s.abortCaptureOf r p) :=
  have h := s.abortCaptureOf_rest p r
  .of_vehicle (congrArg State.config h :) (congrArg State.vehicle h :) (congrArg (fun u : State => u.scanner.timer) h :)

theorem State.handTo_slept (n : NodeRec) (slip : Bool) (o : PollOutcome) (hnothing : s.delivered p slip o = none) :
    s.Slept (s.handTo n slip o p) := by
  rw [State.handTo_nothing _ _ _ _ _ hnothing]
  exact (s.abortCaptureOf_slept p .node).trans (State.takeOutcome_slept _ p _ (s.handover_sample p n slip o hnothing))

/-- A hand-over that delivers nothing writes no staged entry. -/
theorem State.handTo_staging (n : NodeRec) (slip : Bool) (o : PollOutcome) (hnothing : s.delivered p slip o = none) :
    (s.handTo n slip o p).staging = s.staging := by
  rw [State.handTo_nothing _ _ _ _ _ hnothing, (State.takeOutcome_classifies _ _ p).staging]
  exact (congrArg State.staging (s.abortCaptureOf_rest p .node) :)

variable (l : Line) (a : Fin 6)

theorem State.skip_slept : s.Slept (s.takeNodeOutcome l a .skip) := by
  rw [State.takeNodeOutcome_handed, State.nodeRefitted_none _ _ _ _ rfl]
  have htold : s.Slept (s.nodeTold l a .skip) := .of_vehicle rfl rfl rfl
  exact htold.trans (State.forPositions_slept (fun p u => u.handTo_slept p _ _ .skip rfl) _ _)

theorem State.skip_staging : (s.takeNodeOutcome l a .skip).staging = s.staging := by
  rw [State.takeNodeOutcome_handed, State.nodeRefitted_none _ _ _ _ rfl]
  exact State.forPositions_reads (g := State.staging) (fun p u => u.handTo_staging p _ _ .skip rfl) _ _

theorem State.visit_staging (as : List (Fin 6)) : (s.visit l as).staging = s.staging := by
  induction as generalizing s with
  | nil => rfl
  | cons a as ih =>
    cases hpoll : s.pollFor l a with
    | some c => rw [s.visit_cons_polled l hpoll]; rfl
    | none => rw [s.visit_cons_skipped l hpoll, ih, s.skip_staging]

theorem State.visit_slept (as : List (Fin 6)) : s.Slept (s.visit l as) := by
  induction as generalizing s with
  | nil => exact .of_vehicle rfl rfl rfl
  | cons a as ih =>
    cases hpoll : s.pollFor l a with
    | some c => rw [s.visit_cons_polled l hpoll]; exact .of_vehicle rfl rfl rfl
    | none => rw [s.visit_cons_skipped l hpoll]; exact (s.skip_slept l a).trans (ih _)

end

/-! ## Both lines' rounds -/

theorem allAddresses_sorted : allAddresses.Pairwise (· < ·) := by decide

theorem mem_allAddresses (a : Fin 6) : a ∈ allAddresses := by revert a; decide

/-- The state with its free choices counted. -/
def State.recounted (s : State) (n : Nat) : State := { s with freeCount := n }

theorem State.beginRounds_form (s : State) : ∃ n l m, l ≠ m ∧
    s.beginRounds = ((s.recounted n).visit l allAddresses).visit m allAddresses := by
  unfold State.beginRounds
  split
  · exact ⟨s.freeCount + 1, .b, .a, by decide, rfl⟩
  · split
    · exact ⟨s.freeCount + 1, .a, .b, by decide, rfl⟩
    · exact ⟨s.freeCount, .a, .b, by decide, rfl⟩

/-- What the rounds of both lines leave at their beginning. -/
structure State.RoundsBegin (s t : State) : Prop where
  visits : s.Visits t (fun q => ∃ l, s.Reaches l allAddresses q)
  slept : s.Slept t
  staging : t.staging = s.staging
  exchange : ∀ l, (t.scanner.lines.get l).exchange = s.nextPoll l allAddresses
  skips : ∀ l b p, s.boundTo l b p = true → s.nextPoll l (allAddresses.filter (· ≤ b)) = none → s.TakesSkip t l b p

theorem Line.eq_or_eq {l m : Line} (h : l ≠ m) (k : Line) : k = l ∨ k = m := by
  cases l <;> cases m <;> cases k <;> simp_all

/-- The rounds of two lines in either order. -/
theorem State.visit_visit_rounds (s : State) {l m : Line} (hlm : l ≠ m) :
    s.RoundsBegin ((s.visit l allAddresses).visit m allAddresses) := by
  have hfirst := s.visit_visits l allAddresses_sorted
  have hsecond := (s.visit l allAddresses).visit_visits m allAddresses_sorted
  have hpoll (k : Line) (as : List (Fin 6)) : (s.visit l allAddresses).nextPoll k as = s.nextPoll k as :=
    s.nextPoll_congr k hfirst.nodes hfirst.probing as
  have hreaches (q : Pos) (h : (s.visit l allAddresses).Reaches m allAddresses q) : s.Reaches m allAddresses q := by
    obtain ⟨b, hb, hbound, hnone⟩ := h
    exact ⟨b, hb, (hfirst.boundTo m b q).symm.trans hbound, (hpoll m _).symm.trans hnone⟩
  refine ⟨(hfirst.mono fun q hq => ⟨l, hq⟩).trans (hsecond.mono fun q hq => ⟨m, hreaches q hq⟩),
    (s.visit_slept l _).trans (State.visit_slept _ m _), (State.visit_staging _ m _).trans (s.visit_staging l _), fun k => ?_, fun k b p hbound hnone => ?_⟩
  · rw [State.visit_exchange, State.visit_exchange]
    rcases Line.eq_or_eq hlm k with rfl | rfl
    · rw [if_neg hlm, if_pos rfl]
    · rw [if_pos rfl, hpoll]
  · have hother {k' : Line} {as : List (Fin 6)} {u : State} (hbu : u.boundTo k b p = true) (hk : k ≠ k') : ¬ u.Reaches k' as p := by
      rintro ⟨c, -, hcbound, -⟩
      exact hk (State.boundTo_unique hbu hcbound).1
    rcases Line.eq_or_eq hlm k with rfl | rfl
    · have htakes := s.visit_takesSkip k allAddresses_sorted (mem_allAddresses b) hbound hnone
      have hkept := hsecond.others p (hother ((hfirst.boundTo k b p).trans hbound) hlm)
      unfold State.TakesSkip State.KeepsAllBut at htakes ⊢
      rw [hkept]
      exact htakes
    · exact State.TakesSkip.congr ((s.visit l allAddresses).visit_takesSkip k allAddresses_sorted (mem_allAddresses b)
        ((hfirst.boundTo k b p).trans hbound) ((hpoll k _).trans hnone)) (hfirst.others p (hother hbound hlm.symm))
        hfirst.holdActive (hfirst.nodes k b)

theorem State.beginRounds_begins (s : State) : ∃ n, (s.recounted n).RoundsBegin s.beginRounds := by
  obtain ⟨n, l, m, hlm, hform⟩ := s.beginRounds_form
  rw [hform]
  exact ⟨n, (s.recounted n).visit_visit_rounds hlm⟩

end Sys2Proof.Machine

/-! The scan tick: the scan number, the probe decision, the counted scans and the rounds (R20 to R23, R101). -/

namespace Sys2Proof.Machine

/-! ## A counted scan (R101) -/

/-- A position whose scans are counted: AUDIBLE, and neither confirmed nor frozen. -/
def PosRec.CountsScans (r : PosRec) : Prop :=
  r.reminder.step = .audible ∧ r.reminder.confirmed = false ∧ r.cls.stable ≠ .fault

theorem PosRec.countsScans_iff (r : PosRec) : r.CountsScans ↔
    r.reminder.step = .audible ∧ r.reminder.confirmed = false ∧ r.frozen = false := by
  unfold PosRec.CountsScans PosRec.frozen
  refine and_congr_right fun hstep => and_congr_right fun _ => ?_
  simp [hstep]

/-- The re-issue count after another request. -/
def nextReissue (n : Nat) : Nat := if n < 15 then n + 1 else 15

theorem min_eq_nextReissue {n : Nat} (h : n ≤ 15) : min (n + 1) 15 = nextReissue n := by
  unfold nextReissue
  split <;> omega

theorem nextReissue_lt (n : Nat) : nextReissue n < 256 := by
  unfold nextReissue
  split <;> omega

section
variable {s : State} {p : Pos}

theorem State.countScan_idle (h : ¬ (s.pos p).CountsScans) : s.countScan p = s := by
  rw [PosRec.countsScans_iff] at h
  exact if_neg h

variable (h : (s.pos p).CountsScans)
include h

theorem State.countScan_counts (hlt : (s.pos p).reminder.scans + 1 < s.config.settings.reissueInterval) :
    s.countScan p = s.modPos p fun r => { r with reminder := { r.reminder with scans := r.reminder.scans + 1 } } := by
  rw [PosRec.countsScans_iff] at h
  exact (if_pos h).trans (if_neg (Nat.not_le_of_lt hlt))

theorem State.countScan_asks (hle : s.config.settings.reissueInterval ≤ (s.pos p).reminder.scans + 1)
    (hreissues : (s.pos p).reminder.reissues ≤ 15) : s.countScan p =
      (s.modPos p fun r => { r with reminder := { r.reminder with
        reissues := nextReissue (s.pos p).reminder.reissues, scans := 0 } }).post .cabin .audibleRequest (p.val + 1)
        (BitVec.ofNat 16 (nextReissue (s.pos p).reminder.reissues)) := by
  rw [PosRec.countsScans_iff] at h
  refine ((if_pos h).trans (if_pos hle)).trans ?_
  rw [min_eq_nextReissue hreissues, ← payloadOf_zero (nextReissue_lt _), State.postAudible]
  have hset : ((s.setReminder p { (s.pos p).reminder with reissues := nextReissue (s.pos p).reminder.reissues, scans := 0 }).pos p).reminder =
      { (s.pos p).reminder with reissues := nextReissue (s.pos p).reminder.reissues, scans := 0 } := by
    rw [State.setReminder, State.pos_modPos, if_pos rfl]
  rw [hset]
  rfl

end

/-- AUDIBLE_REQUEST of a position. -/
def AudibleNotice (p : Pos) (k : NoticeKind) (n : Nat) : Prop := k = .audibleRequest ∧ n = p.val + 1

theorem State.countScan_received (s : State) (p : Pos) :
    Received (AudibleNotice p) (s.port .cabin).queue 1 ((s.countScan p).port .cabin).queue := by
  unfold State.countScan
  extract_lets r
  split
  · split
    · exact State.post_received (s.setReminder p { r with reissues := min (r.reissues + 1) 15, scans := 0 }) .cabin _ _ _ .cabin
        fun _ => ⟨rfl, rfl⟩
    · exact .refl 1
  · exact .refl 1

theorem State.countScans_received (ps : List Pos) (s : State) :
    Received (fun k n => ∃ p ∈ ps, AudibleNotice p k n) (s.port .cabin).queue ps.length
      ((s.forPositions ps fun p s => s.countScan p).port .cabin).queue := by
  induction ps generalizing s with
  | nil => exact .refl 0
  | cons p ps ih =>
    have hp := (s.countScan_received p).mono (Wider := fun k n => ∃ q ∈ p :: ps, AudibleNotice q k n)
      (fun k n hk => ⟨p, by simp, hk⟩) le_rfl
    have hps := (ih (s.countScan p)).mono (Wider := fun k n => ∃ q ∈ p :: ps, AudibleNotice q k n)
      (fun k n ⟨q, hq, hk⟩ => ⟨q, List.mem_cons_of_mem p hq, hk⟩) le_rfl
    rw [List.length_cons, Nat.add_comm]
    exact hp.trans hps

/-! ## The scan started and counted -/

section
variable (s : State)

/-- The counted scans change the reminders and the cabin port alone. -/
theorem State.scanCounted_rest : s.scanStarted.reminderBack s.scanCounted = s.scanStarted :=
  State.forPositions_reminder (fun p s => s.countScan_frame p) _ _

/-- The counted scan of a position, in a state that earlier counts have left. -/
theorem State.scanCounted_visit (p : Pos) : ∃ u, s.scanStarted.Stages u allPos ∧ u.pos p = s.pos p ∧
    (s.scanCounted.pos p) = ((u.countScan p).pos p) ∧
    ((s.port .cabin).queue = [] → (u.port .cabin).queue.length < 16) ∧
    (∀ {k n}, (AudibleNotice p k n) → ∀ v, (u.countScan p).Tells .cabin k n v → s.scanCounted.Tells .cabin k n v) := by
  obtain ⟨as, bs, hall⟩ := List.append_of_mem (mem_allPos p)
  have hlength : as.length < 16 := by
    have h := congrArg List.length hall
    rw [List.length_append, List.length_cons] at h
    have h16 : allPos.length = 16 := rfl
    omega
  obtain ⟨-, hnodup, hdisjoint⟩ := List.nodup_append.1 (hall ▸ allPos_nodup)
  have hbefore : p ∉ as := fun h => hdisjoint p h p (by simp) rfl
  have hafter : p ∉ bs := (List.nodup_cons.1 hnodup).1
  have hsplit : s.scanCounted = ((s.scanStarted.forPositions as fun p s => s.countScan p).countScan p).forPositions bs
      fun p s => s.countScan p := by
    unfold State.scanCounted
    rw [hall]
    simp [State.forPositions, List.foldl_append]
  have hstages := State.forPositions_stages (f := fun p s => s.countScan p) (fun p s => (s.countScan_frame p).stages)
  have hu := hstages as s.scanStarted
  have hrest := hstages bs ((s.scanStarted.forPositions as fun p s => s.countScan p).countScan p)
  refine ⟨_, hu.mono fun q _ => mem_allPos q, hu.others p hbefore, ?_, fun hempty => ?_, fun hk v htells => ?_⟩
  · rw [hsplit]
    exact hrest.others p hafter
  · have hle := (State.countScans_received as s.scanStarted).length_le
    have hnone : (s.scanStarted.port .cabin).queue = [] := hempty
    rw [hnone, List.length_nil, Nat.zero_add] at hle
    exact hle.trans_lt hlength
  · rw [hsplit]
    refine htells.mono (State.countScans_received bs _) ?_ (congrArg Scanner.number hrest.scanner)
    rintro ⟨q, hq, -, hnumber⟩
    have heq : q = p := Fin.ext (Nat.succ_injective (hnumber.symm.trans hk.2))
    exact hafter (heq ▸ hq)

theorem State.scanCounted_pos (p : Pos) : { s.scanCounted.pos p with reminder := (s.pos p).reminder } = s.pos p := by
  obtain ⟨u, -, hpos, hvisit, -⟩ := s.scanCounted_visit p
  have hown := (u.countScan_frame p).own
  rw [hvisit, ← hpos]
  exact hown

theorem Scanner.decideProbe_keeps (c : Scanner) (m : ScanMode) : (c.decideProbe m).number = c.number ∧
    (c.decideProbe m).timer = c.timer ∧ (c.decideProbe m).lines = c.lines := by
  unfold Scanner.decideProbe
  split
  · exact ⟨rfl, rfl, rfl⟩
  · cases m with
    | run => simp only; split <;> exact ⟨rfl, rfl, rfl⟩
    | eco => exact ⟨rfl, rfl, rfl⟩

theorem State.scanStarted_number : s.scanStarted.scanner.number = s.scanner.number + 1 :=
  (Scanner.decideProbe_keeps _ s.vehicle.mode).1

theorem State.scanStarted_lines : s.scanStarted.scanner.lines = s.scanner.lines := by
  obtain ⟨-, -, hlines⟩ := Scanner.decideProbe_keeps
    { s.scanner with number := s.scanner.number + 1, timer := some s.vehicle.mode.period } s.vehicle.mode
  exact hlines

omit s in
theorem State.of_reminderBack {s t : State} (h : s.reminderBack t = s) : t.scanner = s.scanner ∧ t.config = s.config ∧
    t.staging = s.staging ∧ t.restraint = s.restraint ∧ t.store = s.store ∧ t.phase = s.phase ∧ t.vehicle = s.vehicle :=
  ⟨(congrArg State.scanner h :), (congrArg State.config h :), (congrArg State.staging h :), (congrArg State.restraint h :),
    (congrArg State.store h :), (congrArg State.phase h :), (congrArg State.vehicle h :)⟩

theorem State.scanCounted_scanner : s.scanCounted.scanner = s.scanStarted.scanner :=
  (State.of_reminderBack s.scanCounted_rest).1

theorem State.scanCounted_number : s.scanCounted.scanner.number = s.scanner.number + 1 := by
  rw [s.scanCounted_scanner]
  exact s.scanStarted_number

theorem State.scanCounted_node (l : Line) (a : Fin 6) : s.scanCounted.node l a = s.node l a := by
  rw [State.node, s.scanCounted_scanner, s.scanStarted_lines, State.node]

theorem State.scanCounted_config : s.scanCounted.config = s.config := by
  have h := State.config_of_reminderBack s.scanCounted_rest
  exact h

theorem State.scanCounted_entry (p : Pos) : s.scanCounted.entry p = s.entry p := by
  rw [State.entry, s.scanCounted_config, State.entry]

/-- SCAN_TICK in the running part. -/
theorem State.exec_scanTick {s : State} (hrun : s.phase = .running) :
    exec .scanTick s = .next s.beginScan.judgeEco := congrArg Host.Outcome.next (State.event_running hrun _)

/-- What SCAN_TICK leaves, by the counted scans and the rounds. -/
theorem State.beginScan_begins : ∃ n, (s.scanCounted.recounted n).RoundsBegin s.beginScan :=
  s.scanCounted.beginRounds_begins

end

/-! ## Addresses that get a poll -/

section
variable {s : State} {l : Line}

theorem State.nextPoll_ne_none {as : List (Fin 6)} {b : Fin 6} (hb : b ∈ as) (hpoll : s.pollFor l b ≠ none) : s.nextPoll l as ≠ none := by
  induction as with
  | nil => cases hb
  | cons a as ih =>
    cases h : s.pollFor l a with
    | some c => rw [s.nextPoll_polled l h]; exact Option.some_ne_none _
    | none =>
      rw [s.nextPoll_skipped l h]
      exact ih ((List.mem_cons.1 hb).resolve_left fun k => hpoll (k ▸ h))

theorem State.pollFor_answering {a : Fin 6} (h : (s.node l a).state = .online ∨ (s.node l a).state = .silent) :
    s.pollFor l a = some .sample := by
  unfold State.pollFor
  rcases h with h | h <;> rw [h]

/-- A visit reaches no position that is disabled or whose node answers. -/
theorem State.not_reaches {as : List (Fin 6)} {p : Pos} (h : (s.entry p).enabled = false ∨
    (s.node (s.entry p).line (s.entry p).address).state = .online ∨ (s.node (s.entry p).line (s.entry p).address).state = .silent) :
    ¬ s.Reaches l as p := by
  rintro ⟨b, hb, hbound, hnone⟩
  obtain ⟨henabled, rfl, rfl⟩ := State.boundTo_iff.1 hbound
  have hanswers := h.resolve_left (by rw [henabled]; exact Bool.noConfusion)
  refine State.nextPoll_ne_none (b := (s.entry p).address) (by simp [hb]) ?_ hnone
  rw [State.pollFor_answering hanswers]
  exact Option.some_ne_none _

end

end Sys2Proof.Machine

/-! SCAN_TICK (R20 to R24, R101). -/

namespace Sys2Proof.Machine

section
variable {c t : State} {n : Nat} (h : (c.recounted n).RoundsBegin t)
include h

/-- What the rounds leave of a position that they do not reach. -/
theorem State.RoundsBegin.pos {p : Pos} (hp : ¬ ∃ l, c.Reaches l allAddresses p) : t.pos p = c.pos p := h.visits.others p hp

theorem State.RoundsBegin.tells {p : Pos} (hp : ¬ ∃ l, c.Reaches l allAddresses p) {k : NoticeKind} {m : Nat} (hk : AudibleNotice p k m)
    {v : Half} (htells : c.Tells .cabin k m v) : t.Tells .cabin k m v := by
  obtain ⟨i, hi⟩ := h.visits.cabin
  refine State.Tells.mono (s := c.recounted n) htells hi ?_ h.visits.number
  obtain ⟨rfl, rfl⟩ := hk
  rintro ⟨q, hq, (⟨hkind, -⟩ | ⟨-, hnumber⟩) | ⟨hkind, -⟩⟩
  · cases hkind
  · exact hp ((Fin.ext (Nat.succ_injective hnumber) : p = q) ▸ hq)
  · cases hkind

theorem State.RoundsBegin.nextPoll (l : Line) (as : List (Fin 6)) : t.nextPoll l as = c.nextPoll l as :=
  c.nextPoll_congr l h.visits.nodes h.visits.probing as

theorem State.RoundsBegin.number : t.scanner.number = c.scanner.number := h.visits.number

end

/-- The rounds of a scan tick reach no position that is disabled or whose node answers. -/
theorem State.scanCounted_not_reaches {s : State} {p : Pos} (h : (s.entry p).enabled = false ∨
    (s.node (s.entry p).line (s.entry p).address).state = .online ∨ (s.node (s.entry p).line (s.entry p).address).state = .silent) :
    ¬ ∃ l, s.scanCounted.Reaches l allAddresses p := by
  rintro ⟨l, hreaches⟩
  refine State.not_reaches ?_ hreaches
  rw [s.scanCounted_entry, s.scanCounted_node]
  exact h

/-- Settles O32: the cases of a counted scan, and SCAN_TICK at a position that its rounds do not reach. -/
theorem unconfirmedAudibleIsReissued : Obligations.UnconfirmedAudibleIsReissued := by
  unfold Obligations.UnconfirmedAudibleIsReissued
  refine ⟨fun s p => ⟨fun h hlt => State.countScan_counts h hlt, fun h hle hreissues => State.countScan_asks h hle hreissues,
    fun h => State.countScan_idle h⟩, fun s hrun => ⟨_, State.exec_scanTick hrun, ?_⟩⟩
  intro p node hunreached r counts count
  obtain ⟨i, hbegins⟩ := s.beginScan_begins
  have hnot := State.scanCounted_not_reaches hunreached
  obtain ⟨u, hu, hbefore, hvisit, hroom, htold⟩ := s.scanCounted_visit p
  generalize s.beginScan = t at hbegins ⊢
  have hsettings : u.config.settings = s.config.settings := congrArg LiveConfig.settings hu.config
  have hresult : t.judgeEco.pos p = (u.countScan p).pos p := (hbegins.pos hnot).trans hvisit
  rw [hresult]
  refine ⟨fun hcounts hlt => ?_, fun hcounts hle hreissues => ?_, fun hcounts => ?_⟩
  · rw [State.countScan_counts (by rw [hbefore]; exact hcounts) (by rw [hbefore, hsettings]; exact hlt), State.pos_modPos,
      if_pos rfl, hbefore]
  · have hasks := State.countScan_asks (s := u) (p := p) (by rw [hbefore]; exact hcounts) (by rw [hbefore, hsettings]; exact hle)
      (by rw [hbefore]; exact hreissues)
    refine ⟨?_, fun hempty => ?_⟩
    · rw [hasks]
      have hposted (x : State) (v : Half) : (x.post .cabin .audibleRequest (p.val + 1) v).pos p = x.pos p := rfl
      rw [hposted, State.pos_modPos, if_pos rfl, hbefore]
      rfl
    · have hposted := State.post_tells (s := u.modPos p fun r => { r with reminder := { r.reminder with
        reissues := nextReissue (u.pos p).reminder.reissues, scans := 0 } }) (BitVec.ofNat 16 (nextReissue (u.pos p).reminder.reissues))
        (port := .cabin) (k := .audibleRequest) (n := p.val + 1) (.inl (hroom hempty))
      rw [← hasks] at hposted
      obtain ⟨m, hm, hkind, hsubject, hpayload, hscan⟩ := hbegins.tells hnot ⟨rfl, rfl⟩ (htold ⟨rfl, rfl⟩ _ hposted)
      have hnumber : t.scanner.number = s.scanner.number + 1 := hbegins.number.trans s.scanCounted_number
      refine ⟨m, hm, hkind, hsubject, ?_, hscan.trans hnumber⟩
      rw [hpayload, hbefore]
      rfl
  · rw [State.countScan_idle (by rw [hbefore]; exact hcounts), hbefore]

/-! ## O13 -/

section
variable (s : State)

/-- The probe decision of a scan tick (R22). -/
theorem Scanner.decideProbe_decides (c : Scanner) (m : ScanMode) : (c.decideProbe m).firstScan = false ∧
    (c.firstScan = true → (c.decideProbe m).probing = true ∧ (c.decideProbe m).probeCount = c.probeCount) ∧
    (c.firstScan = false → m = .eco → (c.decideProbe m).probing = false ∧ (c.decideProbe m).probeCount = c.probeCount) ∧
    (c.firstScan = false → m = .run → c.probeCount = 9 → (c.decideProbe m).probing = true ∧ (c.decideProbe m).probeCount = 0) ∧
    (c.firstScan = false → m = .run → c.probeCount ≠ 9 →
      (c.decideProbe m).probing = false ∧ (c.decideProbe m).probeCount = c.probeCount + 1) := by
  unfold Scanner.decideProbe
  cases hfirst : c.firstScan with
  | true => simp
  | false =>
    cases m with
    | eco => simp
    | run => by_cases hcount : c.probeCount = 9 <;> simp [hcount]

theorem State.pollFor_eq (l : Line) (a : Fin 6) : s.pollFor l a =
    if (s.node l a).state = .online ∨ (s.node l a).state = .silent then some .sample
    else if s.scanner.probing = true then some .identify else none := by
  unfold State.pollFor
  cases (s.node l a).state <;> simp

/-- The next poll is the first that an address gets. -/
theorem State.nextPoll_eq_find (l : Line) (as : List (Fin 6)) : s.nextPoll l as =
    match as.find? fun a => (s.pollFor l a).isSome with
    | none => none
    | some a => (s.pollFor l a).map fun c => { address := a, command := c, frame := pollFrame a c } := by
  induction as with
  | nil => rfl
  | cons a as ih =>
    cases h : s.pollFor l a with
    | some c => rw [s.nextPoll_polled l h, List.find?_cons_of_pos (by rw [h]; rfl)]; simp only [h, Option.map_some]
    | none => rw [s.nextPoll_skipped l h, List.find?_cons_of_neg (by rw [h]; exact Bool.false_ne_true), ih]

/-- A 16-bit word as two bytes, high byte first. -/
theorem halfBytes_eq (x : Half) : halfBytes x = [x.extractLsb' 8 8, x.extractLsb' 0 8] := by
  have hhigh : oneByte (x.toNat / 256) = x.extractLsb' 8 8 := by
    apply BitVec.eq_of_toNat_eq
    rw [oneByte, BitVec.toNat_ofNat, BitVec.extractLsb'_toNat, Nat.shiftRight_eq_div_pow]
  have hlow : oneByte x.toNat = x.extractLsb' 0 8 := by
    apply BitVec.eq_of_toNat_eq
    rw [oneByte, BitVec.toNat_ofNat, BitVec.extractLsb'_toNat, Nat.shiftRight_zero]
  rw [halfBytes, twoBytes, hhigh, hlow]

theorem pollFrame_eq (a : Fin 6) (c : PollCommand) :
    let command : Byte := if c = .identify then 0x01 else 0x02
    let crc := crc16 [BitVec.ofNat 8 (a.val + 1), command]
    pollFrame a c = [0xC3, BitVec.ofNat 8 (a.val + 1), command, crc.extractLsb' 8 8, crc.extractLsb' 0 8] := by
  intro command crc
  have hcode : c.code = command := by cases c <;> rfl
  have hbytes : halfBytes crc = _ := halfBytes_eq crc
  unfold pollFrame
  rw [hcode]
  show [0xC3, BitVec.ofNat 8 (a.val + 1), command] ++ halfBytes crc = _
  rw [hbytes]
  rfl

/-- The skip of an address is handed to its positions at a scan tick. -/
theorem State.RoundsBegin.takesSkip {s c t : State} {n : Nat} (h : (c.recounted n).RoundsBegin t) {l : Line} {a : Fin 6} {p : Pos}
    (hpos : { c.pos p with reminder := (s.pos p).reminder } = s.pos p) (hhold : c.holdActive = s.holdActive)
    (hnode : c.node l a = s.node l a) (hbound : c.boundTo l a p = true) (hnone : c.nextPoll l (allAddresses.filter (· ≤ a)) = none) :
    s.TakesSkip t l a p := by
  obtain ⟨hkeeps, hcls⟩ := h.skips l a p hbound hnone
  have hcls' : (t.pos p).cls = c.lossClass p (c.node l a).verdict := hcls
  have hkeeps' : c.KeepsAllBut t p := hkeeps
  have hsame : (c.pos p).cls = (s.pos p).cls := (congrArg PosRec.cls hpos :)
  rw [hnode, State.lossClass_congr hsame hhold] at hcls'
  refine ⟨?_, hcls'⟩
  unfold State.KeepsAllBut at hkeeps' ⊢
  generalize c.pos p = r at hkeeps' hpos
  rw [← hpos, ← hkeeps']

end

/-- c is s with the scan started and counted. -/
structure State.Counted (s c : State) : Prop where
  scanner : c.scanner =
    ({ s.scanner with number := s.scanner.number + 1, timer := some s.vehicle.mode.period } : Scanner).decideProbe s.vehicle.mode
  pos : ∀ p, { c.pos p with reminder := (s.pos p).reminder } = s.pos p
  config : c.config = s.config
  vehicle : c.vehicle = s.vehicle
  restraint : c.restraint = s.restraint
  staging : c.staging = s.staging
  store : c.store = s.store
  phase : c.phase = s.phase

theorem State.scanCounted_counted (s : State) : s.Counted s.scanCounted := by
  have hpos := s.scanCounted_pos
  obtain ⟨hscanner, hconfig, hstaging, hrestraint, hstore, hphase, hvehicle⟩ := State.of_reminderBack s.scanCounted_rest
  generalize s.scanCounted = c at *
  exact ⟨hscanner, hpos, hconfig, hvehicle, hrestraint, hstaging, hstore, hphase⟩

section
variable {s c t : State} (h : s.Counted c)
include h

theorem State.Counted.node (l : Line) (a : Fin 6) : c.node l a = s.node l a := by
  obtain ⟨-, -, hlines⟩ := Scanner.decideProbe_keeps
    { s.scanner with number := s.scanner.number + 1, timer := some s.vehicle.mode.period } s.vehicle.mode
  rw [State.node, h.scanner, hlines, State.node]

theorem State.Counted.boundTo (l : Line) (a : Fin 6) (p : Pos) : c.boundTo l a p = s.boundTo l a p := by
  rw [State.boundTo, State.entry, h.config, State.boundTo, State.entry]

theorem State.Counted.holdActive : c.holdActive = s.holdActive := by rw [State.holdActive, h.restraint, State.holdActive]

end

section
variable {s c t : State} {n : Nat} (h : s.Counted c) (hb : (c.recounted n).RoundsBegin t)
include h hb

/-- The scan number, the scan timer and the probe decision after a scan tick (R20, R22). -/
theorem State.Counted.scan : t.scanner.number = s.scanner.number + 1 ∧ t.scanner.timer = some s.vehicle.mode.period ∧
    t.scanner.firstScan = c.scanner.firstScan ∧ t.scanner.probing = c.scanner.probing ∧ t.scanner.probeCount = c.scanner.probeCount := by
  obtain ⟨hnumber, htimer, -⟩ := Scanner.decideProbe_keeps
    { s.scanner with number := s.scanner.number + 1, timer := some s.vehicle.mode.period } s.vehicle.mode
  rw [← h.scanner] at hnumber htimer
  have hrest := hb.visits.rest
  exact ⟨hb.number.trans hnumber, hb.slept.timer.trans htimer, (congrArg (fun u : State => u.scanner.firstScan) hrest :),
    hb.visits.probing, (congrArg (fun u : State => u.scanner.probeCount) hrest :)⟩

/-- An address before its line's first poll is skipped, and its skip handed on; an address after it is not reached (R21). -/
theorem State.Counted.skips {l : Line} {a : Fin 6} {p : Pos} (hbound : s.boundTo l a p = true) :
    (t.nextPoll l (allAddresses.filter (· ≤ a)) = none → s.TakesSkip t l a p) ∧
    (t.nextPoll l (allAddresses.filter (· ≤ a)) ≠ none → { t.pos p with reminder := (s.pos p).reminder } = s.pos p) := by
  rw [hb.nextPoll]
  refine ⟨hb.takesSkip (h.pos p) h.holdActive (h.node l a) ((h.boundTo l a p).trans hbound), fun hpolled => ?_⟩
  rw [hb.pos ?_]
  · exact h.pos p
  · rintro ⟨m, b, -, hbound', hnone⟩
    obtain ⟨rfl, rfl⟩ := State.boundTo_unique hbound ((h.boundTo m b p).symm.trans hbound')
    exact hpolled hnone

theorem State.Counted.disabled {p : Pos} (hp : (s.entry p).enabled = false) :
    { t.pos p with reminder := (s.pos p).reminder } = s.pos p := by
  rw [hb.pos ?_]
  · exact h.pos p
  · rintro ⟨m, b, -, hbound, -⟩
    obtain ⟨henabled, -⟩ := State.boundTo_iff.1 ((h.boundTo m b p).symm.trans hbound)
    exact Bool.false_ne_true (hp.symm.trans henabled)

theorem State.Counted.rest : t.config = s.config ∧ t.store = s.store ∧ t.staging = s.staging ∧ t.phase = s.phase ∧
    { t.vehicle with eco := s.vehicle.eco } = s.vehicle := by
  refine ⟨hb.visits.config.trans h.config, hb.visits.store.trans h.store, hb.staging.trans h.staging,
    hb.visits.phase.trans h.phase, ?_⟩
  have hvehicle : { t.vehicle with eco := c.vehicle.eco } = c.vehicle := hb.slept.vehicle
  rw [h.vehicle] at hvehicle
  exact hvehicle

end

/-- Settles O13: the scan started, the counted scans, and the rounds of both lines. -/
theorem scanTickNumbersProbesAndPolls : Obligations.ScanTickNumbersProbesAndPolls := by
  unfold Obligations.ScanTickNumbersProbesAndPolls
  refine ⟨fun s hrun => ⟨_, State.exec_scanTick hrun, ?_⟩, State.pollFor_eq, fun s l as => ?_, pollFrame_eq, by decide +kernel⟩
  · obtain ⟨n, hb⟩ := s.beginScan_begins
    have hc := s.scanCounted_counted
    generalize s.beginScan = t at hb ⊢
    generalize s.scanCounted = c at hb hc
    obtain ⟨hfirst, hfirstScan, heco, hten, hother⟩ := Scanner.decideProbe_decides
      { s.scanner with number := s.scanner.number + 1, timer := some s.vehicle.mode.period } s.vehicle.mode
    rw [← hc.scanner] at hfirst hfirstScan heco hten hother
    obtain ⟨hnumber, htimer, hfirstT, hprobing, hcount⟩ := hc.scan hb
    obtain ⟨hconfig, hstore, hstaging, hphase, hvehicle⟩ := hc.rest hb
    rw [← hfirstT] at hfirst
    rw [← hprobing, ← hcount] at hfirstScan heco hten hother
    refine ⟨hnumber, htimer.trans ?_, hfirst, hfirstScan, heco, hten, hother, fun l => ?_, fun l a => ?_, fun l a p hbound => ?_,
      fun p hp => ?_, hconfig, hstore, hstaging, hphase, hvehicle⟩
    · cases s.vehicle.mode <;> rfl
    · exact (hb.exchange l).trans (hb.nextPoll l _).symm
    · exact (hb.visits.nodes l a).trans (hc.node l a)
    · exact hc.skips hb hbound
    · exact hc.disabled hb hp
  · exact ((s.visit_exchange l as l).trans (if_pos rfl)).trans (s.nextPoll_eq_find l as)

end Sys2Proof.Machine

/-! The end of an exchange: the outcome at its address, and the round that goes on (R19, R21, R25 to R36). -/

namespace Sys2Proof.Machine

section
variable (s : State) (l : Line) (a : Fin 6) (o : PollOutcome)

/-- The exchange of a line ended with an outcome, before the round goes on. -/
def State.outcomeTaken : State := (s.setExchange l none).takeNodeOutcome l a o

/-- The exchange of a line ended with an outcome, and the round gone on with the next address. -/
def State.exchangeEnded : State := (s.outcomeTaken l a o).visit l (addressesAfter a)

/-- The slot count recorded for a node. -/
def NodeRec.slotCount (n : NodeRec) : Nat :=
  match n.identity with
  | none => 0
  | some id => id.slots

theorem State.endExchange_eq {x : Exchange} (hx : (s.scanner.lines.get l).exchange = some x) (chars : List Byte) :
    s.endExchange l chars = s.exchangeEnded l x.address (judgeReply x (s.node l x.address).slotCount chars) := by
  unfold State.endExchange State.exchangeEnded State.outcomeTaken NodeRec.slotCount
  rw [hx]
  simp only
  cases (s.node l x.address).identity <;> rfl

/-! ## The state in which the outcome is taken -/

theorem State.idled_visits (P : Pos → Prop) : s.Visits (s.setExchange l none) P := s.setExchange_visits l none P

theorem State.idled_nodeAfter : (s.setExchange l none).nodeAfter l a o = s.nodeAfter l a o := by
  have hnode := (s.idled_visits l fun _ => False).nodes l a
  unfold State.nodeAfter
  rw [hnode]
  rfl

theorem State.idled_reasonAfter : (s.setExchange l none).reasonAfter l a o = s.reasonAfter l a o := by
  have hnode := (s.idled_visits l fun _ => False).nodes l a
  unfold State.reasonAfter
  rw [hnode]
  rfl

/-! ## What stays -/

theorem State.outcomeTaken_rest : s.lineBack (s.outcomeTaken l a o) = s := by
  have h := congrArg s.lineBack (State.takeNodeOutcome_rest l a o (s.setExchange l none))
  exact h

theorem State.exchangeEnded_rest : s.lineBack (s.exchangeEnded l a o) = s := by
  have h := congrArg s.lineBack (State.visit_rest l (addressesAfter a) (s.outcomeTaken l a o))
  exact (Eq.trans h (s.outcomeTaken_rest l a o) :)

theorem State.addressesAfter_sorted : (addressesAfter a).Pairwise (· < ·) := allAddresses_sorted.filter _

theorem State.mem_addressesAfter {a b : Fin 6} : b ∈ addressesAfter a ↔ a < b := by simp [addressesAfter, mem_allAddresses]

theorem State.addressesAfter_filter (b : Fin 6) : (addressesAfter a).filter (· ≤ b) =
    [0, 1, 2, 3, 4, 5].filter fun x => a < x ∧ x ≤ b := by
  rw [addressesAfter, List.filter_filter]
  refine List.filter_congr fun x _ => ?_
  rw [Bool.decide_and, Bool.and_comm]

/-- What the round that goes on leaves. -/
theorem State.exchangeEnded_visits :
    (s.outcomeTaken l a o).Visits (s.exchangeEnded l a o) ((s.outcomeTaken l a o).Reaches l (addressesAfter a)) :=
  State.visit_visits _ l (State.addressesAfter_sorted a)

theorem State.outcomeTaken_visits : ((s.setExchange l none).nodeTold l a o).Visits (s.outcomeTaken l a o)
    (fun q => s.boundTo l a q = true) := State.takeNodeOutcome_visits _ l a o

theorem State.outcomeTaken_node (m : Line) (b : Fin 6) : (s.outcomeTaken l a o).node m b =
    if m = l ∧ b = a then s.nodeAfter l a o else s.node m b := by
  have hnode := (s.idled_visits l fun _ => False).nodes
  refine (State.takeNodeOutcome_node l m a b o (s.setExchange l none)).trans ?_
  rw [hnode, hnode]
  rfl

theorem State.exchangeEnded_node (m : Line) (b : Fin 6) : (s.exchangeEnded l a o).node m b =
    if m = l ∧ b = a then s.nodeAfter l a o else s.node m b := by
  rw [(s.exchangeEnded_visits l a o).nodes, s.outcomeTaken_node]

theorem State.outcomeTaken_config : (s.outcomeTaken l a o).config = s.config :=
  (s.outcomeTaken_visits l a o).config.trans ((s.setExchange l none).nodeTold_config l a o)

theorem State.outcomeTaken_boundTo (m : Line) (b : Fin 6) (p : Pos) : (s.outcomeTaken l a o).boundTo m b p = s.boundTo m b p := by
  rw [State.boundTo, State.entry, s.outcomeTaken_config, State.boundTo, State.entry]

theorem State.outcomeTaken_holdActive : (s.outcomeTaken l a o).holdActive = s.holdActive :=
  (s.outcomeTaken_visits l a o).holdActive.trans ((s.setExchange l none).nodeTold_holdActive l a o)

theorem State.outcomeTaken_pos {p : Pos} (hp : s.boundTo l a p ≠ true) : (s.outcomeTaken l a o).pos p = s.pos p :=
  ((s.outcomeTaken_visits l a o).others p hp).trans ((s.setExchange l none).nodeTold_pos l a o p)

/-- What the round reaches is bound to a later address. -/
theorem State.reaches_later {p : Pos} (h : (s.outcomeTaken l a o).Reaches l (addressesAfter a) p) :
    ∃ b, a < b ∧ s.boundTo l b p = true ∧
      (s.outcomeTaken l a o).nextPoll l ([0, 1, 2, 3, 4, 5].filter fun x => a < x ∧ x ≤ b) = none := by
  obtain ⟨b, hb, hbound, hnone⟩ := h
  rw [State.addressesAfter_filter] at hnone
  exact ⟨b, State.mem_addressesAfter.1 hb, (s.outcomeTaken_boundTo l a o l b p).symm.trans hbound, hnone⟩

/-- The round leaves what the outcome left of the positions bound to its address. -/
theorem State.not_reaches_bound {p : Pos} (hp : s.boundTo l a p = true) : ¬ (s.outcomeTaken l a o).Reaches l (addressesAfter a) p := by
  intro h
  obtain ⟨b, hb, hbound, -⟩ := s.reaches_later l a o h
  obtain ⟨-, rfl⟩ := State.boundTo_unique hp hbound
  exact lt_irrefl a hb

theorem State.exchangeEnded_pos {p : Pos} (hp : s.boundTo l a p = true) : (s.exchangeEnded l a o).pos p = (s.outcomeTaken l a o).pos p :=
  (s.exchangeEnded_visits l a o).others p (s.not_reaches_bound l a o hp)

theorem State.exchangeEnded_nextPoll (as : List (Fin 6)) :
    (s.exchangeEnded l a o).nextPoll l as = (s.outcomeTaken l a o).nextPoll l as :=
  (s.outcomeTaken l a o).nextPoll_congr l (s.exchangeEnded_visits l a o).nodes (s.exchangeEnded_visits l a o).probing as

/-- A position bound to no address of the line, or to one that the round does not reach, keeps its record. -/
theorem State.exchangeEnded_unreached {p : Pos} (hp : s.boundTo l a p ≠ true)
    (hreach : ¬ (s.outcomeTaken l a o).Reaches l (addressesAfter a) p) : (s.exchangeEnded l a o).pos p = s.pos p :=
  ((s.exchangeEnded_visits l a o).others p hreach).trans (s.outcomeTaken_pos l a o hp)

/-! ## What an outcome leaves, whatever it is -/

theorem State.exchangeEnded_capture (h : ∀ c, s.capture = some c → s.boundTo l a c.position ≠ true ∧
    ¬ (s.outcomeTaken l a o).Reaches l (addressesAfter a) c.position) : (s.exchangeEnded l a o).capture = s.capture := by
  have htold : ((s.setExchange l none).nodeTold l a o).capture = s.capture := State.nodeTold_capture _ l a o
  obtain ⟨htaken, -⟩ := (s.outcomeTaken_visits l a o).idle fun c hc => (h c (htold.symm.trans hc)).1
  have hcapture := htaken.trans htold
  obtain ⟨hended, -⟩ := (s.exchangeEnded_visits l a o).idle fun c hc => (h c (hcapture.symm.trans hc)).2
  exact hended.trans hcapture

theorem State.exchangeEnded_exchange (m : Line) : ((s.exchangeEnded l a o).scanner.lines.get m).exchange =
    if m = l then (s.exchangeEnded l a o).nextPoll l (addressesAfter a) else (s.scanner.lines.get m).exchange := by
  rw [s.exchangeEnded_nextPoll]
  refine (State.visit_exchange (s.outcomeTaken l a o) l (addressesAfter a) m).trans ?_
  split
  · rfl
  next h =>
    refine (State.takeNodeOutcome_exchange (s.setExchange l none) l a o m).trans ?_
    rw [State.setExchange_exchange, if_neg h]

theorem State.exchangeEnded_skipped {b : Fin 6} {p : Pos} (hab : a < b)
    (hnone : (s.exchangeEnded l a o).nextPoll l ([0, 1, 2, 3, 4, 5].filter fun x => a < x ∧ x ≤ b) = none)
    (hbound : s.boundTo l b p = true) : s.TakesSkip (s.exchangeEnded l a o) l b p := by
  have hunbound : s.boundTo l a p ≠ true := fun h => hab.ne (State.boundTo_unique h hbound).2
  rw [s.exchangeEnded_nextPoll, ← State.addressesAfter_filter] at hnone
  refine State.TakesSkip.congr (State.visit_takesSkip (s.outcomeTaken l a o) l (State.addressesAfter_sorted a)
    (State.mem_addressesAfter.2 hab) ((s.outcomeTaken_boundTo l a o l b p).trans hbound) hnone) (s.outcomeTaken_pos l a o hunbound)
    (s.outcomeTaken_holdActive l a o) ?_
  rw [s.outcomeTaken_node, if_neg fun h => hab.ne' h.2]

theorem State.exchangeEnded_after : s.AfterOutcome (s.exchangeEnded l a o) l a := by
  have hrest := s.exchangeEnded_rest l a o
  refine {
    nodes := fun m b h => ?nodes, positions := fun p hp => ?positions, exchange := (s.exchangeEnded_exchange l a o l).trans (if_pos rfl)
    otherLine := fun m hm => (s.exchangeEnded_exchange l a o m).trans (if_neg hm)
    config := (congrArg State.config hrest :), store := (congrArg State.store hrest :)
    saveImage := (congrArg State.saveImage hrest :), phase := (congrArg State.phase hrest :)
    number := (congrArg (fun u : State => u.scanner.number) hrest :), hold := (congrArg (fun u : State => u.restraint.hold) hrest :)
    snapshots := (congrArg (fun u : State => u.restraint.snapshots) hrest :)
    deferred := (congrArg (fun u : State => u.staging.deferred) hrest :)
    skipped := fun b p hab hnone hbound => s.exchangeEnded_skipped l a o hab hnone hbound
    unreached := fun b p hbound h => ?unreached, noCapture := fun h => ?noCapture
    otherCapture := fun c hc hbound honline => ?otherCapture }
  case nodes => rw [s.exchangeEnded_node, if_neg (by tauto)]
  case positions =>
    have hunbound {b : Fin 6} (hbound : s.boundTo l b p = true) : False := by
      obtain ⟨henabled, hline, -⟩ := State.boundTo_iff.1 hbound
      rcases hp with hp | hp
      · exact Bool.false_ne_true (hp.symm.trans henabled)
      · exact hp hline
    refine s.exchangeEnded_unreached l a o hunbound fun hreach => ?_
    obtain ⟨b, -, hbound, -⟩ := s.reaches_later l a o hreach
    exact hunbound hbound
  case unreached =>
    have hne : b ≠ a := by
      rcases h with h | h
      · exact h.ne
      · exact h.1.ne'
    refine s.exchangeEnded_unreached l a o (fun k => hne (State.boundTo_unique hbound k).2) fun hreach => ?_
    obtain ⟨c, hac, hcbound, hnone⟩ := s.reaches_later l a o hreach
    obtain ⟨-, rfl⟩ := State.boundTo_unique hbound hcbound
    rcases h with h | h
    · exact lt_asymm h hac
    · exact h.2 ((s.exchangeEnded_nextPoll l a o _).trans hnone)
  case noCapture => rw [s.exchangeEnded_capture l a o (by rw [h]; exact fun _ => nofun), h]
  case otherCapture =>
    rw [s.exchangeEnded_capture l a o fun d hd => ?_, hc]
    obtain rfl : c = d := Option.some.inj (hc.symm.trans hd)
    refine ⟨by rw [hbound]; exact Bool.false_ne_true, fun hreach => ?_⟩
    obtain ⟨b, hab, hbbound, -⟩ := s.reaches_later l a o hreach
    refine State.not_reaches (.inr (.inl ?_)) hreach
    obtain ⟨-, hline, haddress⟩ := State.boundTo_iff.1 hbbound
    have hentry : (s.outcomeTaken l a o).entry c.position = s.entry c.position := by
      rw [State.entry, s.outcomeTaken_config, State.entry]
    rw [hentry, s.outcomeTaken_node, if_neg (by rw [haddress]; exact fun h => hab.ne' h.2)]
    exact honline

end

/-- Judging the countdown leaves what an outcome is said to leave. -/
theorem State.AfterOutcome.judgeEco {s t : State} {l : Line} {a : Fin 6} (h : s.AfterOutcome t l a) : s.AfterOutcome t.judgeEco l a :=
  { nodes := h.nodes, positions := h.positions, exchange := h.exchange, otherLine := h.otherLine, config := h.config, store := h.store
    saveImage := h.saveImage, phase := h.phase, number := h.number, hold := h.hold, snapshots := h.snapshots, deferred := h.deferred
    skipped := h.skipped, unreached := h.unreached, noCapture := h.noCapture, otherCapture := h.otherCapture }

end Sys2Proof.Machine

/-! What the end of an exchange leaves of the positions bound to its address, of the notices and of a capture (R31 to R36, R51, R86). -/

namespace Sys2Proof.Machine

section
variable {s : State} {l : Line} {a : Fin 6} {o : PollOutcome} {p : Pos}

/-! ## A bound position -/

/-- The part of an ended exchange at a bound position: its fit is decided in u and the outcome handed to it in v. -/
structure State.EndedAt (s : State) (l : Line) (a : Fin 6) (o : PollOutcome) (p : Pos) (u v : State) : Prop where
  before : u.pos p = s.pos p
  entry : u.entry p = s.entry p
  node : u.boundNode p = s.nodeAfter l a o
  refit : v.pos p = (u.refit (s.nodeAfter l a o) (s.reasonAfter l a o) p).pos p
  config : v.config = s.config
  hold : v.holdActive = s.holdActive
  result : (s.exchangeEnded l a o).pos p = (v.handTo (s.nodeAfter l a o) (s.reasonAfter l a o = some .slip) o p).pos p

theorem State.HandedAt.ended {u v : State} (h : (s.setExchange l none).HandedAt l a o p u v) (hp : s.boundTo l a p = true) :
    s.EndedAt l a o p u v := by
  have hresult := h.result
  have hnode := h.node
  have hrefit := h.refit
  rw [s.idled_nodeAfter] at hresult hnode hrefit
  rw [s.idled_reasonAfter] at hresult hrefit
  exact ⟨h.before, h.entry, hnode, hrefit, h.config, h.hold, (s.exchangeEnded_pos l a o hp).trans hresult⟩

theorem State.exchangeEnded_at (hp : s.boundTo l a p = true) : ∃ u v, s.EndedAt l a o p u v := by
  obtain ⟨u, v, h⟩ := (s.setExchange l none).takeNodeOutcome_at (o := o) (l := l) (a := a) (p := p) hp
  exact ⟨u, v, h.ended hp⟩

/-- Without a reason no fit is decided. -/
theorem State.EndedAt.kept {u v : State} (h : s.EndedAt l a o p u v) (hr : s.reasonAfter l a o = none) : v.pos p = s.pos p := by
  have hrefit := h.refit
  rw [hr] at hrefit
  exact hrefit.trans h.before

section
variable (hp : s.boundTo l a p = true) (hr : s.reasonAfter l a o = none)
  (hnothing : ∀ v : State, v.pos p = s.pos p → v.delivered p (s.reasonAfter l a o = some .slip) o = none)
include hp hr hnothing

theorem State.exchangeEnded_keeps : s.KeepsAllBut (s.exchangeEnded l a o) p := by
  obtain ⟨u, v, h⟩ := s.exchangeEnded_at (o := o) hp
  have hkeeps := v.handTo_keeps p (s.nodeAfter l a o) _ o (hnothing v (h.kept hr))
  unfold State.KeepsAllBut at hkeeps ⊢
  rw [h.kept hr, ← h.result] at hkeeps
  exact hkeeps

/-- An outcome that leaves the node UNSEEN or LOST gives a position the class of the verdict. -/
theorem State.exchangeEnded_lost (hn : (s.nodeAfter l a o).state = .unseen ∨ (s.nodeAfter l a o).state = .lost)
    (hid : o.identifies = false) : ((s.exchangeEnded l a o).pos p).cls = s.lossClass p (s.nodeAfter l a o).verdict := by
  obtain ⟨u, v, h⟩ := s.exchangeEnded_at (o := o) hp
  have hlost := v.handTo_lost p (s.nodeAfter l a o) _ o (hnothing v (h.kept hr)) hn hid
  rw [h.result, hlost.1]
  exact State.lossClass_congr (congrArg PosRec.cls (h.kept hr)) h.hold _

/-- A position that misfits an identified node is asked for FAULT again. -/
theorem State.exchangeEnded_misfit (hn : (s.nodeAfter l a o).state = .online ∨ (s.nodeAfter l a o).state = .silent)
    (hfit : (s.pos p).fit = .misfit ∨ (s.pos p).fit = .noSlot) :
    ((s.exchangeEnded l a o).pos p).cls = s.misfitClass p (s.pos p).fit := by
  obtain ⟨u, v, h⟩ := s.exchangeEnded_at (o := o) hp
  have hpos := h.kept hr
  rw [h.result, v.handTo_misfit p (s.nodeAfter l a o) _ o (hnothing v (h.kept hr)) hn (by rw [hpos]; exact hfit), hpos]
  exact State.misfitClass_congr (congrArg PosRec.cls hpos) h.hold _

/-- An outcome that leaves the node SILENT leaves a position that does not misfit. -/
theorem State.exchangeEnded_held (hn : (s.nodeAfter l a o).state = .silent) (hid : o.identifies = false)
    (hmisfit : (s.pos p).fit ≠ .misfit) (hslot : (s.pos p).fit ≠ .noSlot) : (s.exchangeEnded l a o).pos p = s.pos p := by
  obtain ⟨u, v, h⟩ := s.exchangeEnded_at (o := o) hp
  have hpos := h.kept hr
  rw [h.result, v.handTo_held p (s.nodeAfter l a o) _ o (hnothing v (h.kept hr)) hn (by rw [hpos]; exact hmisfit) (by rw [hpos]; exact hslot) hid,
    hpos]

end

/-- A loss of the node takes the fit, the capabilities and the injection of a position and gives it the class of the verdict
(R5, R30, R31, R33). -/
theorem State.exchangeEnded_losesNode (hp : s.boundTo l a p = true)
    (hr : s.reasonAfter l a o = some .thirdMiss ∨ s.reasonAfter l a o = some .slip)
    (hnothing : ∀ v : State, v.delivered p (s.reasonAfter l a o = some .slip) o = none)
    (hn : (s.nodeAfter l a o).state = .unseen ∨ (s.nodeAfter l a o).state = .lost) (hid : o.identifies = false) :
    s.LosesNode (s.exchangeEnded l a o) p (s.nodeAfter l a o).verdict := by
  obtain ⟨u, v, h⟩ := s.exchangeEnded_at (o := o) hp
  have hrefit : u.refit (s.nodeAfter l a o) (s.reasonAfter l a o) p = u.setFit p .unchecked := by
    rcases hr with hr | hr <;> rw [hr] <;> rfl
  have hpos : v.pos p = (u.setFit p .unchecked).pos p := by rw [← hrefit]; exact h.refit
  have hrecord := u.setFit_record p .unchecked
  rw [h.before] at hrecord
  rw [hrecord] at hpos
  obtain ⟨hcls, hwatched⟩ := v.handTo_lost p (s.nodeAfter l a o) _ o (hnothing v) hn hid
  have hkeeps := v.handTo_keeps p (s.nodeAfter l a o) (s.reasonAfter l a o = some .slip) o (hnothing v)
  have hsame : (v.pos p).cls = (s.pos p).cls := (congrArg PosRec.cls hpos :)
  rw [State.lossClass_congr hsame h.hold] at hcls
  unfold State.LosesNode
  rw [h.result]
  exact ⟨hkeeps.fit.trans (congrArg PosRec.fit hpos :), hkeeps.childCap.trans (congrArg PosRec.childCap hpos :),
    hkeeps.beltCap.trans (congrArg PosRec.beltCap hpos :), hkeeps.injection.trans (congrArg PosRec.injection hpos :),
    hkeeps.load.trans (congrArg PosRec.load hpos :), hwatched.trans (congrArg PosRec.watched hpos :),
    (hkeeps.child.trans (congrArg PosRec.child hpos :)).trans (if_congr (by rw [Bool.and_eq_true]; exact and_iff_left rfl) rfl rfl),
    (hkeeps.buckle.trans (congrArg PosRec.buckle hpos :)).trans (if_congr (by rw [Bool.and_eq_true]; exact and_iff_left rfl) rfl rfl), hcls⟩

/-! ## Notices -/

theorem State.exchangeEnded_number : (s.exchangeEnded l a o).scanner.number = s.scanner.number :=
  (s.exchangeEnded_after l a o).number

/-- A changed class of a bound position is told (R80, R86). -/
theorem State.exchangeEnded_tellsClass (hp : s.boundTo l a p = true) : s.TellsClass (s.exchangeEnded l a o) l a p := by
  intro hlowest hsequence hroom
  rcases (s.setExchange l none).takeNodeOutcome_told (o := o) hp hlowest hroom with hsame | htold
  · refine absurd ?_ hsequence
    rw [s.exchangeEnded_pos l a o hp]
    exact hsame
  · obtain ⟨n, hn, hkind, hsubject, hpayload, hscan⟩ :=
      (s.exchangeEnded_visits l a o).told (s.not_reaches_bound l a o hp) htold
    exact ⟨n, hn, hkind, hsubject, hpayload.trans (ClassRec.payload_eq _), hscan.trans s.exchangeEnded_number⟩

/-- After NODE_CHANGED the service port receives ends of captures alone. -/
theorem State.exchangeEnded_service : ∃ n, Received (fun k _ => k = .captureDone)
    (((s.setExchange l none).nodeTold l a o).port .service).queue n ((s.exchangeEnded l a o).port .service).queue := by
  have wider {P : Pos → Prop} {q r : List Notice} (h : ∃ n, Received (fun k m => ∃ p, P p ∧ DoneNotice p k m) q n r) :
      ∃ n, Received (fun k _ => k = .captureDone) q n r := by
    obtain ⟨n, hn⟩ := h
    exact ⟨n, hn.mono (fun k m ⟨p, hp, hk⟩ => hk.1) le_rfl⟩
  exact Received.comp (wider (s.outcomeTaken_visits l a o).service) (wider (s.exchangeEnded_visits l a o).service)

theorem State.exchangeEnded_tellsNode {why : NodeReason} (hr : s.reasonAfter l a o = some why) :
    s.TellsNode (s.exchangeEnded l a o) l a (payloadOf (s.nodeAfter l a o).state.code why.code) := by
  intro hroom
  have htells := (s.setExchange l none).nodeTold_tells l a o (why := why) (by rw [s.idled_reasonAfter, hr])
  rw [s.idled_nodeAfter] at htells
  obtain ⟨n, hn, hkind, hrest⟩ := htells hroom
  obtain ⟨i, hi⟩ := State.exchangeEnded_service (s := s) (l := l) (a := a) (o := o)
  exact ⟨n, hi.mem hn (by rw [hkind]; exact (nomatch ·)), hkind, hrest⟩

theorem State.exchangeEnded_tellsNoNode (hr : s.reasonAfter l a o = none) : s.TellsNoNode (s.exchangeEnded l a o) := by
  have hsilent := (s.setExchange l none).nodeTold_silent l a o (by rw [s.idled_reasonAfter, hr])
  obtain ⟨i, hi⟩ := State.exchangeEnded_service (s := s) (l := l) (a := a) (o := o)
  rw [hsilent] at hi
  exact hi.filter_kind fun _ => (nomatch ·)

/-! ## Captures -/

/-- An outcome that delivers nothing aborts a capture of a bound position with NODE (R51). -/
theorem State.exchangeEnded_losesCapture
    (hnothing : ∀ (v : State) (p : Pos), v.delivered p (s.reasonAfter l a o = some .slip) o = none) :
    s.LosesCapture (s.exchangeEnded l a o) l a := by
  intro c hc hp
  obtain ⟨u, v, h⟩ := (s.setExchange l none).takeNodeOutcome_at (o := o) (l := l) (a := a) (p := c.position) hp
  obtain ⟨hcapture, hstaging, hservice⟩ := h.captured fun d hd => by rw [Option.some.inj (hc.symm.trans hd)]
  have hvc : v.capture = some c := hcapture.trans hc
  have hhand := State.handTo_nothing v ((s.setExchange l none).nodeAfter l a o)
    ((s.setExchange l none).reasonAfter l a o = some .slip) o c.position (by rw [s.idled_reasonAfter]; exact hnothing v _)
  have habort : v.abortCaptureOf .node c.position = v.abortCapture .node := by
    unfold State.abortCaptureOf
    rw [hvc]
    exact if_pos (by simp)
  have hclass := State.takeOutcome_classifies (v.abortCaptureOf .node c.position)
    (v.handover ((s.setExchange l none).nodeAfter l a o) ((s.setExchange l none).reasonAfter l a o = some .slip) o c.position) c.position
  rw [← hhand, habort] at hclass
  have hnone := hclass.capture.trans (v.abortCapture_capture .node)
  obtain ⟨hcaptureT, hstagingT, hserviceT⟩ := h.handed.idle (by rw [hnone]; exact fun _ => nofun)
  obtain ⟨hcaptureE, hstagingE, hserviceE⟩ := (s.exchangeEnded_visits l a o).idle fun d hd => by
    rw [show (s.outcomeTaken l a o).capture = none from hcaptureT.trans hnone] at hd
    cases hd
  refine ⟨hcaptureE.trans (hcaptureT.trans hnone), ?_, fun hroom => ?_⟩
  · calc (s.exchangeEnded l a o).staging
      _ = (s.outcomeTaken l a o).staging := hstagingE
      _ = _ := hstagingT
      _ = (v.abortCapture .node).staging := hclass.staging
      _ = v.staging := (congrArg State.staging (v.abortCapture_rest .node) :)
      _ = s.staging := hstaging
  · have hlength := (s.setExchange l none).nodeTold_service_length l a o
    have hvroom : (v.port .service).queue.length ≤ 15 := by
      rw [hservice]
      exact hlength.trans (Nat.succ_le_succ hroom)
    obtain ⟨n, hn, hkind, hsubject, hpayload, hscan⟩ := State.abortCapture_tells .node hvc hvroom
    have hnumber : v.scanner.number = s.scanner.number := by
      have hhanded := h.handed.number.trans (hclass.frame.number.trans (State.abortCapture_outcome v .node c.position).number)
      have hended := (s.exchangeEnded_visits l a o).number
      exact (hended.trans hhanded).symm.trans s.exchangeEnded_number
    refine ⟨n, ?_, hkind, hsubject, hpayload, hscan.trans hnumber⟩
    rw [hserviceE]
    show n ∈ (((s.setExchange l none).takeNodeOutcome l a o).port .service).queue
    rw [hserviceT, hclass.service]
    exact hn

end

end Sys2Proof.Machine

/-! Misses and identity slips (R25, R26, R30 to R33, R36, R51). -/

namespace Sys2Proof.Machine

/-! ## What is received -/

/-- The cases of R25 that make a miss. -/
theorem judgeReply_missed {x : Exchange} {slots : Nat} {chars : List Byte} {k : MissKind} (h : x.Missed slots chars k) :
    judgeReply x slots chars = .miss k := by
  unfold Exchange.Missed at h
  extract_lets len synced whole crcOk asked count agrees at h
  cases k with
  | timeout =>
    rcases h with rfl | ⟨hsync, h⟩
    · exact judgeReply_nothing x slots
    · by_cases hhead : chars.length < 4
      · exact judgeReply_headCut x slots chars hsync hhead
      · obtain ⟨hlen, hcut⟩ := h.resolve_left hhead
        exact judgeReply_cut x slots chars hsync (Nat.le_of_not_lt hhead) hlen hcut
  | crc =>
    obtain ⟨hwhole, hcrc⟩ := h
    exact judgeReply_badCrc hwhole hcrc
  | format =>
    rcases h with ⟨hne, hsync⟩ | ⟨hsync, hhead, hlen⟩ | ⟨hwhole, hcrc, h⟩
    · exact judgeReply_unsynced x slots chars hne hsync
    · exact judgeReply_tooLong x slots chars hsync hhead hlen
    · by_cases hasked : asked
      · obtain ⟨haddress, hkind⟩ := hasked
        have hagrees : ¬ agrees := fun k => h ⟨⟨haddress, hkind⟩, k⟩
        rw [judgeReply_contents hwhole hcrc haddress hkind]
        cases hcommand : x.command with
        | identify =>
          obtain ⟨hmiss, -⟩ := readPayload_identify_cases (slots := slots) hwhole.2.2
          refine hmiss ?_
          have hnot : ¬ (4 ≤ len ∧ 1 ≤ count ∧ count ≤ 4 ∧ len = 4 + count) := by
            intro k
            apply hagrees
            unfold agrees
            rw [hcommand]
            exact k
          omega
        | sample =>
          obtain ⟨hmiss, -⟩ := readPayload_sample_cases (slots := slots) hwhole.2.2
          refine hmiss ?_
          have hnot : ¬ (1 ≤ len ∧ blocksFill slots ((chars.drop 5).take (len - 1)) = true) := by
            intro k
            apply hagrees
            unfold agrees
            rw [hcommand]
            exact k
          by_cases hlen : len = 0
          · exact .inl hlen
          · exact .inr (by rw [← Bool.not_eq_true]; exact fun k => hnot ⟨Nat.pos_of_ne_zero hlen, k⟩)
      · refine judgeReply_misdirected hwhole hcrc ?_
        by_cases haddress : (byteAt chars 1).toNat = x.address.val + 1 + 128
        · exact .inr fun hkind => hasked ⟨haddress, hkind⟩
        · exact .inl haddress

/-! ## The node record after a miss (R26, R31, R32) -/

theorem NodeRec.missed_eq (n : NodeRec) (k : MissKind) : n.missed k = n.countMiss k := by cases k <;> rfl

section
variable (n : NodeRec) (st : Bool) (k : MissKind)

theorem NodeRec.missed_state : (n.missed k).state = n.state ∧ (n.missed k).misses = n.misses ∧ (n.missed k).verdict = n.verdict := by
  cases k <;> exact ⟨rfl, rfl, rfl⟩

/-- The verdict that a missed probe leaves (R32). -/
def NodeRec.keptVerdict : Verdict := if n.verdict = .absent then .absent else lossVerdict st

variable {n}

theorem NodeRec.after_miss_online (h : n.state = .online) :
    n.after st (.miss k) = ({ n.missed k with state := .silent, misses := 1 }, none) := by
  obtain ⟨hstate, -⟩ := n.missed_state k
  rw [NodeRec.missed_eq] at hstate ⊢
  simp only [NodeRec.after, hstate, h]

theorem NodeRec.after_miss_second (h : n.state = .silent) (hm : n.misses = 1) :
    n.after st (.miss k) = ({ n.missed k with misses := 2 }, none) := by
  obtain ⟨hstate, hmisses, -⟩ := n.missed_state k
  rw [NodeRec.missed_eq] at hstate hmisses ⊢
  simp only [NodeRec.after, hstate, h, hmisses, hm, Nat.one_lt_two, if_true]

theorem NodeRec.after_miss_third (h : n.state = .silent) (hm : n.misses = 2) :
    n.after st (.miss k) = ({ n.missed k with state := .lost, misses := 0, verdict := lossVerdict st }, some .thirdMiss) := by
  obtain ⟨hstate, hmisses, -⟩ := n.missed_state k
  rw [NodeRec.missed_eq] at hstate hmisses ⊢
  simp only [NodeRec.after, hstate, h, hmisses, hm, Nat.lt_irrefl, if_false]

theorem NodeRec.after_miss_probe (h : n.state = .unseen ∨ n.state = .lost) :
    n.after st (.miss k) = ({ n.missed k with misses := 0, verdict := n.keptVerdict st }, none) := by
  obtain ⟨hstate, -, hverdict⟩ := n.missed_state k
  rw [NodeRec.missed_eq] at hstate hverdict ⊢
  rcases h with h | h
  · simp only [NodeRec.after, hstate, h, hverdict, NodeRec.keptVerdict]
    cases n.verdict <;> rfl
  · simp only [NodeRec.after, hstate, h, hverdict, NodeRec.keptVerdict]
    cases n.verdict <;> rfl

end

/-! ## The part after a miss -/

section
variable (s : State) (l : Line) (a : Fin 6) (k : MissKind)

/-- The state after an exchange that ends with a miss. -/
def State.afterMiss : State := s.exchangeEnded l a (.miss k)

theorem State.afterMiss_node : (s.afterMiss l a k).node l a = s.nodeAfter l a (.miss k) := by
  unfold State.afterMiss
  rw [State.exchangeEnded_node, if_pos ⟨rfl, rfl⟩]

/-- The position of a node that goes on SILENT (R31, R33). -/
theorem State.afterMiss_silent (hr : s.reasonAfter l a (.miss k) = none) (hn : (s.nodeAfter l a (.miss k)).state = .silent) {p : Pos}
    (hp : s.boundTo l a p = true) : s.KeepsAllBut (s.afterMiss l a k) p ∧ ((s.afterMiss l a k).pos p).cls = s.misfitClass p (s.pos p).fit ∧
      ((s.pos p).fit ≠ .misfit → (s.pos p).fit ≠ .noSlot → (s.afterMiss l a k).pos p = s.pos p) := by
  have hheld := State.exchangeEnded_held (o := .miss k) hp hr (fun _ _ => rfl) hn rfl
  refine ⟨State.exchangeEnded_keeps hp hr fun _ _ => rfl, ?_, hheld⟩
  by_cases hfit : (s.pos p).fit = .misfit ∨ (s.pos p).fit = .noSlot
  · exact State.exchangeEnded_misfit hp hr (fun _ _ => rfl) (.inr hn) hfit
  · obtain ⟨hmisfit, hslot⟩ := not_or.1 hfit
    unfold State.afterMiss
    rw [hheld hmisfit hslot]
    cases h : (s.pos p).fit with
    | misfit => exact absurd h hmisfit
    | noSlot => exact absurd h hslot
    | fits => rfl
    | unchecked => rfl

/-- The node record and its positions after a miss, by the node's state (R26, R31 to R33, R36). -/
structure State.MissLeaves (s t : State) (l : Line) (a : Fin 6) (k : MissKind) : Prop where
  online : (s.node l a).state = .online → t.node l a = { (s.node l a).missed k with state := .silent, misses := 1 }
  second : (s.node l a).state = .silent → (s.node l a).misses = 1 → t.node l a = { (s.node l a).missed k with misses := 2 }
  third : (s.node l a).state = .silent → (s.node l a).misses = 2 →
    t.node l a = { (s.node l a).missed k with state := .lost, misses := 0, verdict := lossVerdict s.standstill } ∧
      s.TellsNode t l a 0x0302
  probe : (s.node l a).state = .unseen ∨ (s.node l a).state = .lost →
    t.node l a = { (s.node l a).missed k with misses := 0, verdict := (s.node l a).keptVerdict s.standstill }
  quiet : (s.node l a).state ≠ .silent ∨ (s.node l a).misses = 1 → s.TellsNoNode t
  held : ∀ p, s.boundTo l a p = true → (s.node l a).state = .online ∨ ((s.node l a).state = .silent ∧ (s.node l a).misses = 1) →
    s.KeepsAllBut t p ∧ (t.pos p).cls = s.misfitClass p (s.pos p).fit ∧
      ((s.pos p).fit ≠ .misfit → (s.pos p).fit ≠ .noSlot → t.pos p = s.pos p)
  lost : ∀ p, s.boundTo l a p = true → (s.node l a).state = .silent → (s.node l a).misses = 2 →
    s.LosesNode t p (lossVerdict s.standstill)
  probed : ∀ p, s.boundTo l a p = true → (s.node l a).state = .unseen ∨ (s.node l a).state = .lost →
    s.KeepsAllBut t p ∧ (t.pos p).cls = s.lossClass p ((s.node l a).keptVerdict s.standstill)

section
variable {s l a k} {o : PollOutcome} {n : NodeRec} {r : Option NodeReason} (h : (s.node l a).after s.standstill o = (n, r))
include h

theorem State.nodeAfter_of : s.nodeAfter l a o = n := congrArg Prod.fst h
theorem State.reasonAfter_of : s.reasonAfter l a o = r := congrArg Prod.snd h

end

theorem State.afterMiss_leaves : s.MissLeaves (s.afterMiss l a k) l a k := by
  have hnode := s.afterMiss_node l a k
  have honline (h : (s.node l a).state = .online) := NodeRec.after_miss_online s.standstill k h
  have hsecond (h : (s.node l a).state = .silent) (hm : (s.node l a).misses = 1) := NodeRec.after_miss_second s.standstill k h hm
  have hthird (h : (s.node l a).state = .silent) (hm : (s.node l a).misses = 2) := NodeRec.after_miss_third s.standstill k h hm
  have hprobe (h : (s.node l a).state = .unseen ∨ (s.node l a).state = .lost) := NodeRec.after_miss_probe s.standstill k h
  refine ⟨fun h => hnode.trans (State.nodeAfter_of (honline h)), fun h hm => hnode.trans (State.nodeAfter_of (hsecond h hm)),
    fun h hm => ⟨hnode.trans (State.nodeAfter_of (hthird h hm)), ?_⟩, fun h => hnode.trans (State.nodeAfter_of (hprobe h)), fun h => ?_,
    fun p hp h => ?_, fun p hp h hm => ?_, fun p hp h => ?_⟩
  · have htells := State.exchangeEnded_tellsNode (State.reasonAfter_of (hthird h hm))
    have hpayload : (0x0302 : Half) = payloadOf NodeState.lost.code NodeReason.thirdMiss.code := by decide
    rw [State.nodeAfter_of (hthird h hm)] at htells
    rw [hpayload]
    exact htells
  · refine State.exchangeEnded_tellsNoNode ?_
    cases hstate : (s.node l a).state with
    | unseen => exact State.reasonAfter_of (hprobe (.inl hstate))
    | online => exact State.reasonAfter_of (honline hstate)
    | silent => exact State.reasonAfter_of (hsecond hstate (h.resolve_left fun k => k hstate))
    | lost => exact State.reasonAfter_of (hprobe (.inr hstate))
  · rcases h with h | ⟨h, hm⟩
    · exact s.afterMiss_silent l a k (State.reasonAfter_of (honline h)) (by rw [State.nodeAfter_of (honline h)]) hp
    · refine s.afterMiss_silent l a k (State.reasonAfter_of (hsecond h hm)) ?_ hp
      rw [State.nodeAfter_of (hsecond h hm)]
      exact ((s.node l a).missed_state k).1.trans h
  · have hloses := State.exchangeEnded_losesNode hp (.inl (State.reasonAfter_of (hthird h hm))) (fun _ => rfl)
      (.inr (by rw [State.nodeAfter_of (hthird h hm)])) rfl
    rw [State.nodeAfter_of (hthird h hm)] at hloses
    exact hloses
  · have hr := State.reasonAfter_of (hprobe h)
    have hn : (s.nodeAfter l a (.miss k)).state = .unseen ∨ (s.nodeAfter l a (.miss k)).state = .lost := by
      rw [State.nodeAfter_of (hprobe h)]
      obtain ⟨hstate, -⟩ := (s.node l a).missed_state k
      exact h.imp hstate.trans hstate.trans
    have hlost := State.exchangeEnded_lost hp hr (fun _ _ => rfl) hn rfl
    rw [State.nodeAfter_of (hprobe h)] at hlost
    exact ⟨State.exchangeEnded_keeps hp hr fun _ _ => rfl, hlost⟩

/-- The end of an exchange in the running part. -/
theorem State.exec_exchange {s : State} {l : Line} {x : Exchange} {chars : List Byte} {i : Instr} (hrun : s.phase = .running)
    (hx : (s.scanner.lines.get l).exchange = some x) (hi : exec i s = .next (s.event (State.endExchange l chars))) {o : PollOutcome}
    (ho : judgeReply x (s.node l x.address).slotCount chars = o) : exec i s = .next (s.exchangeEnded l x.address o).judgeEco := by
  rw [hi, State.event_running hrun, s.endExchange_eq l hx, ho]

end

/-- Settles O14: the kinds of a miss by the cases of R25, and what each leaves by the node's state. -/
theorem cutReplyIsTimeoutMiss : Obligations.CutReplyIsTimeoutMiss := by
  unfold Obligations.CutReplyIsTimeoutMiss
  refine ⟨fun s l a p => State.boundTo_iff, ?_⟩
  intro s l x chars k i hrun hx hi n counted verdict kept
  have hexec : exec i s = .next (s.afterMiss l x.address k).judgeEco := by
    rcases hi with ⟨rfl, rfl⟩ | ⟨hi, hmissed⟩
    · exact State.exec_exchange (chars := []) hrun hx rfl rfl
    · have hjudged : judgeReply x (s.node l x.address).slotCount chars = .miss k := judgeReply_missed hmissed
      rcases hi with rfl | rfl | rfl
      · exact State.exec_exchange hrun hx rfl hjudged
      · exact State.exec_exchange hrun hx rfl hjudged
      · exact State.exec_exchange hrun hx rfl hjudged
  have hleaves := s.afterMiss_leaves l x.address k
  have hafter : s.AfterOutcome (s.afterMiss l x.address k) l x.address := s.exchangeEnded_after l x.address _
  have hcapture : s.LosesCapture (s.afterMiss l x.address k) l x.address := State.exchangeEnded_losesCapture fun _ _ => rfl
  have htells (p : Pos) (hp : s.boundTo l x.address p = true) : s.TellsClass (s.afterMiss l x.address k) l x.address p :=
    State.exchangeEnded_tellsClass hp
  generalize s.afterMiss l x.address k = t at *
  exact ⟨_, hexec, hafter.judgeEco, hcapture, hleaves.online, hleaves.second, hleaves.third, hleaves.probe, hleaves.quiet,
    fun p hp => ⟨htells p hp, hleaves.held p hp, hleaves.lost p hp, hleaves.probed p hp⟩⟩

end Sys2Proof.Machine

/-! Identity slips and identifications (R4, R5, R7, R28, R30, R33, R36). -/

namespace Sys2Proof.Machine

/-! ## A valid SAMPLE reply -/

section
variable {s : State} {l : Line} {x : Exchange} {id : NodeIdentity} {serial : Byte} {blocks : List SlotSample}

theorem NodeRec.slotCount_of {n : NodeRec} (h : n.identity = some id) : n.slotCount = id.slots := by rw [NodeRec.slotCount, h]

theorem NodeRec.serialByte_of {n : NodeRec} (h : n.identity = some id) : n.serialByte = id.id.extractLsb' 0 8 := by
  rw [NodeRec.serialByte, h]

/-- The SAMPLE reply that a node with as many blocks as slots recorded forms is taken. -/
theorem State.exec_sample (hrun : s.phase = .running) (hx : (s.scanner.lines.get l).exchange = some x) (hc : x.command = .sample)
    (hid : (s.node l x.address).identity = some id) (hslots : id.slots = blocks.length) (hcount : within 1 4 blocks.length = true)
    (hblocks : ∀ b ∈ blocks, b.sendable = true) : exec (.seatReplyReceived l (sampleReply x.address serial blocks)) s =
      .next (s.exchangeEnded l x.address (.sample serial blocks)).judgeEco := by
  refine State.exec_exchange hrun hx rfl ?_
  rw [NodeRec.slotCount_of hid, hslots]
  obtain ⟨a, c, f⟩ := x
  obtain rfl : c = .sample := hc
  exact (sampleReply_read a f serial hcount hblocks).2

/-- The node record after a SAMPLE reply with another serial byte (R30). -/
theorem NodeRec.after_slip {n : NodeRec} (st : Bool) (h : serial ≠ n.serialByte) : n.after st (.sample serial blocks) =
    ({ n with state := .unseen, misses := 0, verdict := lossVerdict st }, some .slip) := if_neg h

end

/-- Settles O17: a SAMPLE reply with another serial byte loses the node. -/
theorem changedSerialIsSlip : Obligations.ChangedSerialIsSlip := by
  unfold Obligations.ChangedSerialIsSlip
  intro s l x id serial blocks hrun hx hc hid hslots hcount hblocks hserial verdict
  have hexec := State.exec_sample (serial := serial) hrun hx hc hid hslots hcount hblocks
  have hslip := NodeRec.after_slip (blocks := blocks) s.standstill (by rw [NodeRec.serialByte_of hid]; exact hserial)
  have hr := State.reasonAfter_of hslip
  have hn := State.nodeAfter_of hslip
  have hnothing (v : State) (p : Pos) :
      v.delivered p (s.reasonAfter l x.address (.sample serial blocks) = some .slip) (.sample serial blocks) = none := by
    rw [hr]
    rfl
  have hnode := s.exchangeEnded_node l x.address (.sample serial blocks) l x.address
  have htells := State.exchangeEnded_tellsNode hr
  have hpayload : (0x0003 : Half) = payloadOf NodeState.unseen.code NodeReason.slip.code := by decide
  have hafter := s.exchangeEnded_after l x.address (.sample serial blocks)
  have hcapture := State.exchangeEnded_losesCapture hnothing
  have hloses (p : Pos) (hp : s.boundTo l x.address p = true) := State.exchangeEnded_losesNode hp (.inr hr) (fun v => hnothing v p)
    (.inl (by rw [hn])) rfl
  have hclass (p : Pos) (hp : s.boundTo l x.address p = true) := State.exchangeEnded_tellsClass (o := .sample serial blocks) hp
  rw [hn] at htells
  simp only [hn] at hloses
  rw [if_pos ⟨rfl, rfl⟩, hn] at hnode
  rw [hpayload]
  generalize s.exchangeEnded l x.address (.sample serial blocks) = t at *
  exact ⟨_, hexec, hafter.judgeEco, hnode, htells, hcapture, fun p hp => ⟨hloses p hp, hclass p hp⟩⟩

/-! ## Fits (R4) -/

theorem extractLsb'_eq_iff {x y : BitVec 24} (k w : Nat) (hw : k + w = 24) :
    x.extractLsb' k w = y.extractLsb' k w ↔ x.toNat / 2 ^ k = y.toNat / 2 ^ k := by
  have hpow : 2 ^ k * 2 ^ w = 2 ^ 24 := by rw [← pow_add, hw]
  have hlt (z : BitVec 24) : z.toNat / 2 ^ k < 2 ^ w := Nat.div_lt_of_lt_mul (by rw [hpow]; exact z.isLt)
  rw [← BitVec.toNat_inj, BitVec.extractLsb'_toNat, BitVec.extractLsb'_toNat, Nat.shiftRight_eq_div_pow, Nat.shiftRight_eq_div_pow,
    Nat.mod_eq_of_lt (hlt x), Nat.mod_eq_of_lt (hlt y)]

section
variable (e : MapEntry) (id : NodeIdentity)

theorem MapEntry.fitWith_misfit : e.fitWith id = .misfit ↔ ¬ e.matchMode.selects id.id e.identity = true := by
  unfold MapEntry.fitWith
  cases e.matchMode.selects id.id e.identity
  · simp
  · simp only [Bool.not_true, Bool.false_eq_true, if_false]
    split <;> simp

theorem MapEntry.fitWith_noSlot : e.fitWith id = .noSlot ↔
    e.matchMode.selects id.id e.identity = true ∧ id.slots < e.slot.val + 1 := by
  unfold MapEntry.fitWith
  cases e.matchMode.selects id.id e.identity
  · simp
  · simp only [Bool.not_true, Bool.false_eq_true, if_false, true_and]
    split <;> simp_all

theorem MapEntry.fitWith_fits : e.fitWith id = .fits ↔
    e.matchMode.selects id.id e.identity = true ∧ e.slot.val + 1 ≤ id.slots := by
  unfold MapEntry.fitWith
  cases e.matchMode.selects id.id e.identity
  · simp
  · simp only [Bool.not_true, Bool.false_eq_true, if_false, true_and]
    split
    next h => simp [Nat.not_le_of_lt h]
    next h => simp [Nat.le_of_not_lt h]

theorem MapEntry.fitWith_cases : e.fitWith id = .fits ∨ e.fitWith id = .misfit ∨ e.fitWith id = .noSlot := by
  unfold MapEntry.fitWith
  split
  · exact .inr (.inl rfl)
  · split
    · exact .inr (.inr rfl)
    · exact .inl rfl

end

/-! ## An identification -/

section
variable {s : State} {l : Line} {a : Fin 6} {id : NodeIdentity} {p : Pos}

/-- The node record of an identification (R28). -/
def NodeRec.identified (n : NodeRec) (id : NodeIdentity) : NodeRec :=
  { n with state := .online, misses := 0, identity := some id, verdict := .none }

theorem State.identity_node : s.nodeAfter l a (.identity id) = (s.node l a).identified id := rfl

theorem State.identity_reason : s.reasonAfter l a (.identity id) = some .identified := rfl

/-- What an identification leaves of a bound position (R5, R7, R33, R44, R81, R82). -/
theorem State.identity_pos (hp : s.boundTo l a p = true) :
    let t := s.exchangeEnded l a (.identity id)
    let fitted := ((s.pos p).fitted ((s.entry p).fitWith id)).recapped (s.entry p) ((s.node l a).identified id)
    { t.pos p with cls := fitted.cls, reminder := fitted.reminder, watched := fitted.watched } = fitted ∧
      (t.pos p).cls = if (s.entry p).fitWith id = .fits then s.onlineClass p true none else s.misfitClass p ((s.entry p).fitWith id) := by
  intro t fitted
  obtain ⟨u, v, h⟩ := s.exchangeEnded_at (o := .identity id) hp
  have hrefit : v.pos p = (u.setFit p ((s.entry p).fitWith id)).pos p := by rw [← h.entry]; exact h.refit
  have hrecord := u.setFit_record p ((s.entry p).fitWith id)
  rw [h.before, h.entry, h.node, State.identity_node] at hrecord
  have hpos : v.pos p = fitted.withReminder ((u.setFit p ((s.entry p).fitWith id)).pos p).reminder := hrefit.trans hrecord
  have hfit : (v.pos p).fit = (s.entry p).fitWith id := (congrArg PosRec.fit hpos :)
  have hcls : (v.pos p).cls = (s.pos p).cls := (congrArg PosRec.cls hpos :)
  have hresult : t.pos p = _ := h.result
  have hkeeps := v.handTo_keeps p (s.nodeAfter l a (.identity id)) (s.reasonAfter l a (.identity id) = some .slip) (.identity id) rfl
  unfold State.KeepsAllBut at hkeeps
  rw [hresult]
  refine ⟨?_, ?_⟩
  · generalize State.pos (State.handTo _ _ _ _ _) p = r at hkeeps
    rw [hpos] at hkeeps
    exact (congrArg (fun y : PosRec => { y with cls := fitted.cls, reminder := fitted.reminder, watched := fitted.watched }) hkeeps :)
  · by_cases hfits : (s.entry p).fitWith id = .fits
    · rw [if_pos hfits, v.handTo_online p _ _ _ rfl ?_ rfl]
      · exact State.onlineClass_congr hcls h.hold h.config true none
      · rw [hfit, hfits]
        rfl
    · have hmisfit := ((s.entry p).fitWith_cases id).resolve_left hfits
      rw [if_neg hfits, v.handTo_misfit p _ _ _ rfl (.inl rfl) (by rw [hfit]; exact hmisfit), hfit]
      exact State.misfitClass_congr hcls h.hold _

/-! ## Positions of other addresses -/

theorem State.lossClass_lastInstant (v : Verdict) : (s.lossClass p v).lastInstant = (s.pos p).cls.lastInstant := by
  have hdirect (cls : OccClass) (cause : FaultCause) : (s.directClass p cls cause).lastInstant = (s.pos p).cls.lastInstant := by
    unfold State.directClass ClassRec.directed
    split
    · rfl
    · split <;> rfl
  cases v with
  | none => rfl
  | absent => exact hdirect _ _
  | fault => exact hdirect _ _

/-- A position that is not bound to the address keeps all but its class, its reminder and its watched flag, and the last instant class. -/
theorem State.exchangeEnded_unbound (o : PollOutcome) (hp : s.boundTo l a p = false) : s.KeepsAllBut (s.exchangeEnded l a o) p ∧
    ((s.exchangeEnded l a o).pos p).cls.lastInstant = (s.pos p).cls.lastInstant := by
  have hunbound : s.boundTo l a p ≠ true := by rw [hp]; exact Bool.false_ne_true
  by_cases hreach : (s.outcomeTaken l a o).Reaches l (addressesAfter a) p
  · obtain ⟨b, hab, hbound, hnone⟩ := s.reaches_later l a o hreach
    rw [← s.exchangeEnded_nextPoll] at hnone
    obtain ⟨hkeeps, hcls⟩ := s.exchangeEnded_skipped l a o hab hnone hbound
    exact ⟨hkeeps, by rw [hcls, State.lossClass_lastInstant]⟩
  · rw [State.KeepsAllBut, s.exchangeEnded_unreached l a o hunbound hreach]
    exact ⟨rfl, rfl⟩

end

end Sys2Proof.Machine

/-! Identifications, settled (R4, R5, R7, R28, R33, R44, R81, R82). -/

namespace Sys2Proof.Machine

/-- The bits that a match mode selects are equal where the identities agree above them (R4). -/
theorem MatchMode.selects_iff (m : MatchMode) (x y : BitVec 24) : m.selects x y = true ↔
    match m with
    | .exact => x = y
    | .variant => x.toNat / 4096 = y.toNat / 4096
    | .model => x.toNat / 65536 = y.toNat / 65536
    | .any => True := by
  cases m with
  | exact => exact decide_eq_true_iff
  | variant => exact decide_eq_true_iff.trans (extractLsb'_eq_iff 12 12 rfl)
  | model => exact decide_eq_true_iff.trans (extractLsb'_eq_iff 16 8 rfl)
  | any => exact iff_of_true rfl trivial

section
variable {s : State} {l : Line} {a : Fin 6} {id : NodeIdentity} {p : Pos}

/-- What a fit decided for an entry and a node leaves of a record (R5, R7, R44, R68, R91, R132). -/
structure PosRec.Refitted (r x : PosRec) (e : MapEntry) (n : NodeRec) (f : FitState) : Prop where
  fit : x.fit = f
  childCap : x.childCap = (e.capsWith n f).1
  beltCap : x.beltCap = (e.capsWith n f).2
  load : x.load = if f = .fits ∧ r.fit ≠ .fits then .cleared else r.load
  injection : x.injection = if f = .fits then r.injection else none
  child : x.child = if r.childCap = true ∧ x.childCap = false then .cleared else r.child
  buckle : x.buckle = if r.beltCap = true ∧ x.beltCap = false then .cleared else r.buckle

theorem PosRec.refitted (r : PosRec) (e : MapEntry) (n : NodeRec) (fit : FitState) :
    r.Refitted ((r.fitted fit).recapped e n) e n fit :=
  { fit := rfl, childCap := rfl, beltCap := rfl, load := rfl, injection := rfl
    child := if_congr (by rw [Bool.and_eq_true, Bool.not_eq_true']; rfl) rfl rfl
    buckle := if_congr (by rw [Bool.and_eq_true, Bool.not_eq_true']; rfl) rfl rfl }

/-- A record that differs in class, reminder and watched flag alone has the same fit. -/
theorem PosRec.Refitted.of_eq {r x y : PosRec} {e : MapEntry} {n : NodeRec} {fit : FitState} (h : r.Refitted y e n fit)
    (hxy : { x with cls := y.cls, reminder := y.reminder, watched := y.watched } = y) : r.Refitted x e n fit := by
  rw [← hxy] at h
  exact ⟨h.fit, h.childCap, h.beltCap, h.load, h.injection, h.child, h.buckle⟩

theorem State.identity_refitted (hp : s.boundTo l a p = true) : (s.pos p).Refitted ((s.exchangeEnded l a (.identity id)).pos p)
    (s.entry p) ((s.node l a).identified id) ((s.entry p).fitWith id) :=
  (PosRec.refitted _ _ _ _).of_eq (State.identity_pos hp).1

end

/-- Settles O15: a fit decided from the identity, and the outcome handed on. -/
theorem validIdentityReplyIdentifiesAndFits : Obligations.ValidIdentityReplyIdentifiesAndFits := by
  unfold Obligations.ValidIdentityReplyIdentifiesAndFits
  refine ⟨fun e id => ?_, fun s l x id hrun hx hc hsendable => ?_⟩
  · intro same
    have hsame : e.matchMode.selects id.id e.identity = true ↔ same := e.matchMode.selects_iff id.id e.identity
    rw [← hsame]
    exact ⟨e.fitWith_misfit id, e.fitWith_noSlot id, e.fitWith_fits id⟩
  · have hread : judgeReply x (s.node l x.address).slotCount (identityReply x.address id) = .identity id := by
      obtain ⟨a, c, f⟩ := x
      obtain rfl : c = .identify := hc
      exact (identityReply_read a f _ hsendable).2
    have hexec := State.exec_exchange (i := .seatReplyReceived l (identityReply x.address id)) hrun hx rfl hread
    have hafter := s.exchangeEnded_after l x.address (.identity id)
    have hnode := s.exchangeEnded_node l x.address (.identity id) l x.address
    have htells := State.exchangeEnded_tellsNode (State.identity_reason (s := s) (l := l) (a := x.address) (id := id))
    have hpayload : (0x0101 : Half) = payloadOf NodeState.online.code NodeReason.identified.code := by decide
    have hpos (p : Pos) (hp : s.boundTo l x.address p = true) := State.identity_refitted (id := id) hp
    have hcls (p : Pos) (hp : s.boundTo l x.address p = true) := (State.identity_pos (id := id) hp).2
    have hclass (p : Pos) (hp : s.boundTo l x.address p = true) := State.exchangeEnded_tellsClass (o := .identity id) hp
    have hunbound (p : Pos) (hp : s.boundTo l x.address p = false) := (State.exchangeEnded_unbound (.identity id) hp).1.fit
    rw [if_pos ⟨rfl, rfl⟩, State.identity_node] at hnode
    rw [hpayload]
    generalize s.exchangeEnded l x.address (.identity id) = t at *
    refine ⟨_, hexec, hafter.judgeEco, hnode, htells, fun p hp => ?_, hunbound⟩
    have h := hpos p hp
    have hentry : t.entry p = s.entry p := congrArg (fun c => c.map.get p) hafter.config
    have hbound : t.boundNode p = (s.node l x.address).identified id := by
      obtain ⟨-, hline, haddress⟩ := State.boundTo_iff.1 hp
      rw [State.boundNode, hentry, hline, haddress, hnode]
    have hcaps : t.CapsInEffect p := State.capsInEffect_of (by rw [hentry, hbound, h.childCap, h.fit])
      (by rw [hentry, hbound, h.beltCap, h.fit])
    exact ⟨hclass p hp, h.fit, hcaps, h.load, h.injection, h.child, h.buckle, hcls p hp⟩

end Sys2Proof.Machine

/-! A delivered sample at one position: its pipeline, its belt notice, and a capture that takes it (R34, R49, R86, R90). -/

namespace Sys2Proof.Machine

/-! ## The pipeline (R39, R56, R90) -/

section
variable (s : State) (p : Pos) (y : SlotSample)

/-- A record that a delivered sample has passed, before its class is formed. -/
def PosRec.sampled (r : PosRec) (e : MapEntry) (pr : Profile) (y : SlotSample) : PosRec :=
  { r with
    load := r.load.take e pr y, child := r.child.take r.childCap pr (r.load.take e pr y).f y, buckle := r.buckled y }

/-- The part of the pipeline before the buckle decoder. -/
def State.seated : State :=
  ((s.captureTake p y).modPos p fun r => { r with load := r.load.take (s.entry p) (s.profileOf p) y }).modPos p
    fun r => { r with child := r.child.take r.childCap (s.profileOf p) r.load.f y }

theorem State.pipeline_eq : s.pipeline p y = (s.seated p y).takeBuckle p y := by
  have hconfig := (s.captureTake_outcome p y).config
  have hentry : (s.captureTake p y).entry p = s.entry p := by rw [State.entry, hconfig, State.entry]
  unfold State.pipeline State.seated
  extract_lets taken e pr loaded seated
  have he : e = s.entry p := hentry
  have hpr : pr = s.profileOf p := State.profileOf_congr hconfig p
  unfold seated loaded
  rw [he, hpr]

theorem State.seated_pos : (s.seated p y).pos p = { s.pos p with
    load := (s.pos p).load.take (s.entry p) (s.profileOf p) y
    child := (s.pos p).child.take (s.pos p).childCap (s.profileOf p) ((s.pos p).load.take (s.entry p) (s.profileOf p) y).f y } := by
  unfold State.seated
  rw [State.pos_modPos, if_pos rfl, State.pos_modPos, if_pos rfl, s.captureTake_pos]

theorem State.buckleTaken_pos : (s.buckleTaken p y).pos p = { s.pos p with buckle := (s.pos p).buckled y } := by
  unfold State.buckleTaken
  extract_lets taken
  have htaken : taken.pos p = { s.pos p with buckle := (s.pos p).buckled y } := by rw [State.pos_modPos, if_pos rfl]
  split
  · exact htaken
  · exact htaken

/-- What the pipeline leaves of the record. -/
theorem State.pipeline_pos : (s.pipeline p y).pos p =
    ((s.pos p).sampled (s.entry p) (s.profileOf p) y).withReminder ((s.pipeline p y).pos p).reminder := by
  have htaken := (s.seated p y).buckleTaken_pos p y
  have hown := (State.evaluate_frame ((s.seated p y).buckleTaken p y) p).own
  rw [s.seated_pos] at htaken
  rw [htaken, ← State.takeBuckle_eq, ← s.pipeline_eq] at hown
  exact (congrArg (fun x : PosRec => x.withReminder ((s.pipeline p y).pos p).reminder) hown :)

theorem State.seated_port {q : Port} (hq : q ≠ .service) : (s.seated p y).port q = s.port q := by
  show (s.captureTake p y).port q = s.port q
  unfold State.captureTake
  split
  · rfl
  · split
    · rfl
    · split
      · exact State.abortCapture_port _ s hq
      · split
        · rfl
        · exact State.post_port_other _ _ _ _ _ hq

/-! ## The belt notice (R90) -/

/-- The cabin port has been told of the belt state of a position as it stands. -/
def State.BeltTold (s : State) (p : Pos) : Prop :=
  s.Tells .cabin .beltChanged (posNumber p) (BitVec.ofNat 16 (s.pos p).buckle.belt.code)

theorem State.BeltTold.of_received {s t : State} {p : Pos} {About : NoticeKind → Nat → Prop} (h : s.BeltTold p)
    (hposts : ∃ n, Received About (s.port .cabin).queue n (t.port .cabin).queue) (hother : ¬ About .beltChanged (posNumber p))
    (hbuckle : (t.pos p).buckle = (s.pos p).buckle) (hscan : t.scanner.number = s.scanner.number) : t.BeltTold p := by
  obtain ⟨n, hn⟩ := hposts
  unfold State.BeltTold
  rw [hbuckle]
  exact h.mono hn hother hscan

/-- A told belt state of a position that was not visited stays told. -/
theorem State.BeltTold.visited {s t : State} {p : Pos} {P : Pos → Prop} (h : s.BeltTold p) (hvisits : s.Visits t P) (hp : ¬ P p) :
    t.BeltTold p := by
  refine h.of_received hvisits.cabin ?_ (by rw [hvisits.others p hp]) hvisits.number
  rintro ⟨q, hq, ((⟨hkind, -⟩ | ⟨hkind | hkind, -⟩) | ⟨-, hnumber⟩)⟩
  · cases hkind
  · cases hkind
  · cases hkind
  · exact hp (Fin.ext (Nat.succ_injective hnumber : p.val = q.val) ▸ hq)

/-- The belt state that a sample changed is told, where the cabin port had room. -/
theorem State.takeBuckle_tells (hroom : (s.port .cabin).queue.length < 16)
    (hchanged : ((s.pos p).buckled y).belt ≠ (s.pos p).buckle.belt) : (s.takeBuckle p y).BeltTold p := by
  have hposted : (s.buckleTaken p y).BeltTold p := by
    unfold State.BeltTold
    rw [s.buckleTaken_buckle]
    unfold State.buckleTaken
    extract_lets taken
    rw [if_pos hchanged]
    exact State.post_tells (s := taken) _ (.inl hroom)
  rw [State.takeBuckle_eq]
  refine hposted.of_received ⟨_, State.evaluate_received _ p⟩ ?_ (State.evaluate_buckle _ p) (State.evaluate_frame _ p).outcome.number
  rintro ⟨hkind | hkind, -⟩
  · cases hkind
  · cases hkind

/-- Classifying tells the cabin port nothing of belts. -/
theorem State.BeltTold.classified {s t : State} {p : Pos} (h : s.BeltTold p) (hclass : s.Classifies true t p) : t.BeltTold p := by
  refine h.of_received hclass.cabin ?_ hclass.keeps.buckle hclass.frame.number
  rintro (⟨hkind, -⟩ | ⟨hkind | hkind, -⟩)
  · cases hkind
  · cases hkind
  · cases hkind

/-! ## A capture (R49, R50) -/

theorem State.takeBuckle_stages : s.Stages (s.takeBuckle p y) [p] := by
  rw [State.takeBuckle_eq]
  refine State.Stages.trans ?_ (State.evaluate_frame _ p).stages
  unfold State.buckleTaken
  extract_lets taken
  have htaken : s.Stages taken [p] := s.modPos_stages p _
  exact .ite (htaken.trans (taken.post_cabin_stages p _ _ _)) htaken

/-- The pipeline after a capture took the sample. -/
theorem State.pipeline_stages : (s.captureTake p y).Stages (s.pipeline p y) [p] := by
  have hseated : (s.captureTake p y).Stages (s.seated p y) [p] := (State.modPos_stages _ p _).trans (State.modPos_stages _ p _)
  rw [s.pipeline_eq]
  exact hseated.trans (State.takeBuckle_stages _ p y)

end

end Sys2Proof.Machine

/-! A hand-over that delivers a sample: the record, the notices, a capture, and the wake in ECO (R34, R73, R74, R84, R130). -/

namespace Sys2Proof.Machine

/-! ## What is delivered (R34, R35) -/

section
variable {s t : State} {p : Pos} {slip : Bool} {serial : Byte} {blocks : List SlotSample} {y : SlotSample}

/-- A sample delivered to a position that fits: its injected sample, or its own slot's block. -/
def State.Delivers (s : State) (p : Pos) (blocks : List SlotSample) (y : SlotSample) : Prop :=
  (s.pos p).injection = some y ∨ ((s.pos p).injection = none ∧ blocks[(s.entry p).slot.val]? = some y)

theorem State.delivered_iff : s.delivered p slip (.sample serial blocks) = some y ↔
    slip = false ∧ (s.pos p).fit = .fits ∧ s.Delivers p blocks y := by
  unfold State.delivered State.Delivers
  cases slip <;> cases hfit : (s.pos p).fit <;> cases hinjection : (s.pos p).injection <;> simp

theorem State.delivered_unfit (h : (s.pos p).fit ≠ .fits) : s.delivered p slip (.sample serial blocks) = none := by
  refine Option.eq_none_iff_forall_ne_some.2 fun y hy => h ?_
  obtain ⟨-, hfit, -⟩ := State.delivered_iff.1 hy
  exact hfit

theorem State.delivered_congr (hpos : t.pos p = s.pos p) (hconfig : t.config = s.config) (o : PollOutcome) :
    t.delivered p slip o = s.delivered p slip o := by
  unfold State.delivered
  rw [hpos, State.entry, hconfig, State.entry]

end

/-! ## The record -/

theorem State.onlineClass_lastInstant (s : State) (p : Pos) (identified : Bool) (i : OccClass) :
    (s.onlineClass p identified (some i)).lastInstant = i := by
  have hcounted (c : ClassRec) : (c.counted i).lastInstant = i := by
    unfold ClassRec.counted ClassRec.vote
    split
    · rfl
    · split
      · rfl
      · split <;> rfl
  have hcompleted (c : ClassRec) (pr : Profile) : (c.completed pr).lastInstant = c.lastInstant := by
    unfold ClassRec.completed
    split <;> rfl
  unfold State.onlineClass
  simp only
  split
  · exact hcounted _
  · rw [hcompleted, hcounted]

/-- From s to t a position took a sample and its outcome: all but its class, reminder and watched flag is what the pipeline leaves, and
the class is that of the instant class formed from it (R34, R73). -/
structure State.Samples (s t : State) (p : Pos) (y : SlotSample) : Prop where
  record : { t.pos p with cls := (s.pos p).cls, reminder := (s.pos p).reminder, watched := (s.pos p).watched } =
    (s.pos p).sampled (s.entry p) (s.profileOf p) y
  cls : (t.pos p).cls = s.onlineClass p false (some (instantClass (s.profileOf p) (t.pos p) y.matFault))

section
variable {s t u : State} {p : Pos} {y : SlotSample}

theorem State.Samples.congr (h : s.Samples t p y) (hpos : s.pos p = u.pos p) (hconfig : s.config = u.config)
    (hhold : s.holdActive = u.holdActive) : u.Samples t p y := by
  have hprofile := State.profileOf_congr hconfig p
  have hentry : s.entry p = u.entry p := by rw [State.entry, hconfig, State.entry]
  have hcls := State.onlineClass_congr (congrArg PosRec.cls hpos) hhold hconfig false
    (some (instantClass (s.profileOf p) (t.pos p) y.matFault))
  obtain ⟨hrecord, hown⟩ := h
  rw [hpos, hprofile, hentry] at hrecord
  rw [hcls, hprofile] at hown
  exact ⟨hrecord, hown⟩

theorem State.Samples.of_pos (h : s.Samples t p y) (hpos : u.pos p = t.pos p) : s.Samples u p y := by
  obtain ⟨hrecord, hown⟩ := h
  rw [← hpos] at hrecord hown
  exact ⟨hrecord, hown⟩

section
variable (n : NodeRec) (slip : Bool) (o : PollOutcome) (hn : n.state = .online) (ho : o.identifies = false)
  (hy : s.delivered p slip o = some y) (hfit : (s.pos p).fit = .fits)

theorem State.pipeline_keeps : (s.pipeline p y).config = s.config ∧ (s.pipeline p y).holdActive = s.holdActive :=
  ⟨(s.pipeline_visits p y).config, (s.pipeline_visits p y).holdActive⟩

theorem State.handover_asks (hn : n.state = .online) (hfit : (s.pos p).fit = .fits) : (s.handover n slip o p).direct = none := by
  show directAsked n (s.pos p).fit = none
  rw [directAsked_identified _ (.inl hn), hfit]
  rfl

include hn ho hy hfit

/-- A hand-over of an ONLINE node that delivers a sample to a position that fits. -/
theorem State.handTo_samples : s.Samples (s.handTo n slip o p) p y := by
  obtain ⟨hconfig, hhold⟩ := s.pipeline_keeps (p := p) (y := y)
  have hkeeps := (State.takeOutcome_classifies (s.pipeline p y) (s.handover n slip o p) p).keeps
  have hcls := State.takeOutcome_online (s.pipeline p y) (s.handover n slip o p) p (State.handover_asks n slip o hn hfit) hn
  have hsample : (s.handover n slip o p).sample = some y.matFault := congrArg (Option.map SlotSample.matFault) hy
  have hpos := s.pipeline_pos p y
  have hsame : ((s.pipeline p y).pos p).cls = (s.pos p).cls := (s.pipeline_silent p y).cls
  rw [hsample, show (s.handover n slip o p).identified = false from ho, State.onlineClass_congr hsame hhold hconfig] at hcls
  rw [State.handTo_sample _ _ _ _ _ hy]
  refine ⟨?_, ?_⟩
  · have hrecord := congrArg (fun r : PosRec => { r with
      cls := (s.pos p).cls, reminder := (s.pos p).reminder, watched := (s.pos p).watched }) hkeeps
    refine hrecord.trans ?_
    rw [hpos]
    rfl
  · rw [hcls, Option.map_some, State.profileOf_congr hconfig, hkeeps.instantClass]

/-- The belt state that the sample changed is told, where the cabin port had room (R90). -/
theorem State.handTo_beltTold (hroom : (s.port .cabin).queue.length < 16)
    (hchanged : ((s.handTo n slip o p).pos p).buckle.belt ≠ (s.pos p).buckle.belt) : (s.handTo n slip o p).BeltTold p := by
  have hbuckle : ((s.handTo n slip o p).pos p).buckle = (s.pos p).buckled y :=
    (congrArg PosRec.buckle (State.handTo_samples n slip o hn ho hy hfit).record :)
  have hseated := s.seated_pos p y
  have hbuckled : ((s.seated p y).pos p).buckled y = (s.pos p).buckled y := by rw [hseated]; rfl
  rw [hbuckle] at hchanged
  rw [State.handTo_sample _ _ _ _ _ hy, s.pipeline_eq]
  refine State.BeltTold.classified (State.takeBuckle_tells _ p y ?_ ?_) (State.takeOutcome_classifies _ _ p)
  · rw [s.seated_port p y (by decide)]
    exact hroom
  · rw [hbuckled, hseated]
    exact hchanged

omit hn ho hfit

/-- A capture takes the delivered sample, and the hand-over leaves what it left. -/
theorem State.handTo_captured : (s.handTo n slip o p).capture = (s.captureTake p y).capture ∧
    (s.handTo n slip o p).staging = (s.captureTake p y).staging ∧
    (s.handTo n slip o p).port .service = (s.captureTake p y).port .service := by
  have hclass := State.takeOutcome_classifies (s.pipeline p y) (s.handover n slip o p) p
  have htaken := s.pipeline_stages p y
  rw [State.handTo_sample _ _ _ _ _ hy]
  exact ⟨hclass.capture.trans htaken.capture, hclass.staging.trans htaken.staging, hclass.service.trans htaken.service⟩

end

end

end Sys2Proof.Machine

/-! Which hand-overs wake the part in ECO (R20, R74, R130). -/

namespace Sys2Proof.Machine

/-- From s to t the part was woken exactly when w holds: in ECO it is then in RUN with a new scan period and its countdown judged, and
without a wake, or in RUN, mode and scan timer stay. -/
structure State.Wakes (s t : State) (w : Prop) : Prop where
  config : t.config = s.config
  asleep : s.vehicle.mode = .run ∨ ¬ w → t.vehicle.mode = s.vehicle.mode ∧ t.scanner.timer = s.scanner.timer
  running : s.vehicle.mode = .run → s.EcoGoesOn t
  woken : s.vehicle.mode = .eco → w → t.vehicle.mode = .run ∧ t.scanner.timer = some Config.runPeriod ∧
    (t.vehicle.eco = none ∨ t.vehicle.eco = some s.ecoFull)

section
variable {s t u : State} {v w : Prop}

theorem State.Slept.wakes (h : s.Slept t) : s.Wakes t False :=
  ⟨h.config, fun _ => ⟨(congrArg Vehicle.mode h.vehicle :), h.timer⟩, fun _ => h.eco, fun _ => False.elim⟩

theorem State.Wakes.of_iff (h : s.Wakes t v) (hvw : v ↔ w) : s.Wakes t w := propext hvw ▸ h

/-- A part that runs after a wake keeps running, and its countdown stays full or stopped. -/
theorem State.Wakes.awake (h : t.Wakes u v) (hmode : t.vehicle.mode = .run) {full : Nat} (hfull : t.ecoFull = full)
    (heco : t.vehicle.eco = none ∨ t.vehicle.eco = some full) :
    u.vehicle.mode = .run ∧ u.scanner.timer = t.scanner.timer ∧ (u.vehicle.eco = none ∨ u.vehicle.eco = some full) := by
  obtain ⟨hsame, htimer⟩ := h.asleep (.inl hmode)
  refine ⟨hsame.trans hmode, htimer, ?_⟩
  rcases h.running hmode with hu | hu
  · rw [hu]; exact heco
  · rw [hu, hfull]
    rcases heco with ht | ht
    · rw [ht]; exact .inl rfl
    · rw [ht]; exact .inr rfl

theorem State.Wakes.trans (h : s.Wakes t v) (k : t.Wakes u w) : s.Wakes u (v ∨ w) := by
  have hfull : t.ecoFull = s.ecoFull := by rw [State.ecoFull, h.config, State.ecoFull]
  refine ⟨k.config.trans h.config, fun hquiet => ?_, fun hrun => ?_, fun heco hwoken => ?_⟩
  · have hv : s.vehicle.mode = .run ∨ ¬ v := hquiet.imp id fun hq hv => hq (.inl hv)
    have hw : s.vehicle.mode = .run ∨ ¬ w := hquiet.imp id fun hq hw => hq (.inr hw)
    obtain ⟨hmode, htimer⟩ := h.asleep hv
    obtain ⟨hmode', htimer'⟩ := k.asleep (by rw [hmode]; exact hw)
    exact ⟨hmode'.trans hmode, htimer'.trans htimer⟩
  · obtain ⟨hmode, -⟩ := h.asleep (.inl hrun)
    unfold State.EcoGoesOn
    rcases k.running (hmode.trans hrun) with hk | hk <;> rcases h.running hrun with hh | hh <;> rw [hk, hh]
    · exact .inl rfl
    · exact .inr rfl
    · exact .inr (by rw [hfull])
    · exact .inr (by rw [hfull, Option.map_map]; rfl)
  · by_cases hv : v
    · obtain ⟨hmode, htimer, hcount⟩ := h.woken heco hv
      obtain ⟨hmode', htimer', hcount'⟩ := k.awake hmode hfull hcount
      exact ⟨hmode', htimer'.trans htimer, hcount'⟩
    · obtain ⟨hmode, -⟩ := h.asleep (.inr hv)
      rw [← hfull]
      exact k.woken (hmode.trans heco) (hwoken.resolve_left hv)

theorem State.Slept.trans_wakes (h : s.Slept t) (k : t.Wakes u w) : s.Wakes u w := (h.wakes.trans k).of_iff (by rw [false_or])

theorem State.Wakes.trans_slept (h : s.Wakes t w) (k : t.Slept u) : s.Wakes u w := (h.trans k.wakes).of_iff (by rw [or_false])

/-- A wake event (R130). -/
theorem State.wake_wakes (s : State) : s.Wakes s.wake True := by
  unfold State.wake
  split
  next h =>
    refine ⟨rfl, fun hrun => absurd h ?_, fun hrun => absurd (h.symm.trans hrun) nofun, fun _ _ => ⟨rfl, rfl, ?_⟩⟩
    · rw [hrun.resolve_right (not_not_intro trivial)]
      nofun
    · show (if _ then some _ else none) = none ∨ (if _ then some _ else none) = _
      split
      · exact .inr rfl
      · exact .inl rfl
  next h => exact ⟨rfl, fun _ => ⟨rfl, rfl⟩, fun _ => .inl rfl, fun heco => absurd heco h⟩

end

/-! ## Hand-overs -/

section
variable (s : State) (p : Pos) (y : SlotSample)

theorem State.takeInstant_wakes (m : Bool) :
    s.Wakes (s.takeInstant m p) (instantClass (s.profileOf p) (s.pos p) m ≠ (s.pos p).cls.stable) := by
  have hstored (i : OccClass) : s.Wakes (s.instantStored i p) (i ≠ (s.pos p).cls.stable) := by
    have hpos : ((s.modPos p fun r => { r with cls := { r.cls with lastInstant := i } }).pos p).cls.stable = (s.pos p).cls.stable := by
      rw [State.pos_modPos, if_pos rfl]
    have hmod : s.Slept (s.modPos p fun r => { r with cls := { r.cls with lastInstant := i } }) := (s.modPos_stages p _).slept
    unfold State.instantStored
    extract_lets t
    rw [hpos]
    split
    next h => exact (hmod.trans_wakes t.wake_wakes).of_iff (iff_of_true trivial h)
    next h => exact hmod.wakes.of_iff (iff_of_false id h)
  rw [State.takeInstant_eq]
  exact (hstored _).trans_slept (State.modPos_stages _ p _).slept

/-- The outcome of an ONLINE node with a delivered sample and no direct class asked. -/
theorem State.takeOutcome_wakes (h : Handover) (hd : h.direct = none) (hn : h.node = .online) (hid : h.identified = false) {m : Bool}
    (hm : h.sample = some m) :
    s.Wakes (s.takeOutcome h p) (instantClass (s.profileOf p) (s.pos p) m ≠ (s.standingClass p false).stable) := by
  cases hhold : s.holdActive with
  | true =>
    have hstanding : s.standingClass p false = (s.pos p).cls := by
      rw [State.standingClass, hhold]
      rfl
    have hmarked : s.markedHeld h p = s := by
      rw [State.markedHeld, hid]
      exact if_neg fun k => Bool.false_ne_true k.1
    rw [s.takeOutcome_held h p hhold, hm, hmarked, hstanding]
    exact s.takeInstant_wakes p m
  | false =>
    have hkeeps := s.standing_classifies p false
    have hinstant := (s.standing false p).takeInstant_wakes p m
    rw [s.standing_cls p false hhold, hkeeps.keeps.instantClass, State.profileOf_congr hkeeps.frame.config] at hinstant
    rw [s.takeOutcome_free h p hhold, s.classify_online h p hd hn, hm, hid]
    exact ((s.standing_slept p false).trans_wakes hinstant).trans_slept (State.completeVote_slept _ p)

theorem State.captureTake_slept : s.Slept (s.captureTake p y) := by
  unfold State.captureTake
  split
  · exact .refl s
  · have habort := s.abortCapture_rest .unstable
    exact .ite (.refl s) (.ite (.of_vehicle (congrArg State.config habort :) (congrArg State.vehicle habort :)
      (congrArg (fun u : State => u.scanner.timer) habort :)) (.ite (.of_vehicle rfl rfl rfl) (.of_vehicle rfl rfl rfl)))

/-- A hand-over of an ONLINE node that delivers a sample to a position that fits wakes the part where the instant class differs. -/
theorem State.handTo_wakes (n : NodeRec) (slip : Bool) (o : PollOutcome) (hn : n.state = .online) (ho : o.identifies = false)
    (hy : s.delivered p slip o = some y) (hfit : (s.pos p).fit = .fits) : s.Wakes (s.handTo n slip o p)
      (instantClass (s.profileOf p) ((s.handTo n slip o p).pos p) y.matFault ≠ (s.standingClass p false).stable) := by
  obtain ⟨hconfig, hhold⟩ := s.pipeline_keeps (p := p) (y := y)
  have hslept : s.Slept (s.pipeline p y) := (s.captureTake_slept p y).trans (s.pipeline_stages p y).slept
  have hkeeps := (State.takeOutcome_classifies (s.pipeline p y) (s.handover n slip o p) p).keeps
  have hsample : (s.handover n slip o p).sample = some y.matFault := congrArg (Option.map SlotSample.matFault) hy
  have hwakes := (s.pipeline p y).takeOutcome_wakes p (s.handover n slip o p) (State.handover_asks n slip o hn hfit) hn ho hsample
  have hsame : ((s.pipeline p y).pos p).cls = (s.pos p).cls := (s.pipeline_silent p y).cls
  rw [State.standingClass_congr hsame hhold hconfig, State.profileOf_congr hconfig, ← hkeeps.instantClass] at hwakes
  rw [State.handTo_sample _ _ _ _ _ hy]
  exact hslept.trans_wakes hwakes

end

end Sys2Proof.Machine

/-! Valid SAMPLE replies with the recorded serial byte (R29, R34, R49, R74, R86, R90, R130). -/

namespace Sys2Proof.Machine

/-! ## The walk of the hand-overs -/

/-- The instant class of a delivered sample differs from the stable class that its position then has (R130). -/
def State.WokenBy (s t : State) (p : Pos) (slip : Bool) (o : PollOutcome) : Prop :=
  ∃ y, s.delivered p slip o = some y ∧ instantClass (s.profileOf p) (t.pos p) y.matFault ≠ (s.standingClass p false).stable

section
variable {s t u x : State} {p : Pos} {slip : Bool} {serial : Byte} {blocks : List SlotSample} {y : SlotSample} {n : NodeRec}

theorem State.WokenBy.congr {o : PollOutcome} (hpos : u.pos p = s.pos p) (hconfig : u.config = s.config)
    (hhold : u.holdActive = s.holdActive) (hresult : x.pos p = t.pos p) : u.WokenBy x p slip o ↔ s.WokenBy t p slip o := by
  unfold State.WokenBy
  rw [State.delivered_congr hpos hconfig, State.profileOf_congr hconfig, hresult,
    State.standingClass_congr (congrArg PosRec.cls hpos) hhold hconfig]

theorem State.handTo_wokenBy (hn : n.state = .online) : s.Wakes (s.handTo n slip (.sample serial blocks) p)
    (s.WokenBy (s.handTo n slip (.sample serial blocks) p) p slip (.sample serial blocks)) := by
  cases hy : s.delivered p slip (.sample serial blocks) with
  | none =>
    refine (s.handTo_slept p n slip _ hy).wakes.of_iff (iff_of_false id ?_)
    rintro ⟨y, hsome, -⟩
    exact nomatch hy.symm.trans hsome
  | some y =>
    obtain ⟨-, hfit, -⟩ := State.delivered_iff.1 hy
    refine (s.handTo_wakes p y n slip _ hn rfl hy hfit).of_iff ⟨fun h => ⟨y, hy, h⟩, ?_⟩
    rintro ⟨z, hz, h⟩
    rw [Option.some.inj (hy.symm.trans hz)]
    exact h

/-- A walk of hand-overs wakes the part where one of them does. -/
theorem State.forPositions_wakes (hn : n.state = .online) {ps : List Pos} (hsorted : ps.Pairwise (· < ·)) (s : State) :
    s.Wakes (s.forPositions ps (State.handTo n slip (.sample serial blocks)))
      (∃ p ∈ ps, s.WokenBy (s.forPositions ps (State.handTo n slip (.sample serial blocks))) p slip (.sample serial blocks)) := by
  induction ps generalizing s with
  | nil => exact (State.Slept.refl s).wakes.of_iff (iff_of_false id fun ⟨p, hp, _⟩ => nomatch hp)
  | cons p ps ih =>
    obtain ⟨hafter, hrest⟩ := List.pairwise_cons.1 hsorted
    have hfirst := s.handTo_visits p n slip (.sample serial blocks)
    have hwalk := State.forPositions_visits (fun q u => State.handTo_visits u q n slip (.sample serial blocks)) ps
      (s.handTo n slip (.sample serial blocks) p)
    refine ((State.handTo_wokenBy hn).trans (ih hrest (s.handTo n slip (.sample serial blocks) p))).of_iff ?_
    have hhead := State.WokenBy.congr (s := s) (u := s) (slip := slip) (o := .sample serial blocks) rfl rfl rfl
      (hwalk.others p fun hp => lt_irrefl p (hafter p hp)).symm
    have htail (q : Pos) (hq : q ∈ ps) := State.WokenBy.congr (slip := slip) (o := .sample serial blocks)
      (hfirst.others q (hafter q hq).ne') hfirst.config hfirst.holdActive
      (rfl : ((s.handTo n slip (.sample serial blocks) p).forPositions ps (State.handTo n slip (.sample serial blocks))).pos q = _)
    simp only [List.mem_cons, exists_eq_or_imp]
    exact or_congr hhead (exists_congr fun q => and_congr_right (htail q))

end

/-! ## What a valid SAMPLE reply leaves -/

/-- A capture that goes on stays at its position. -/
theorem State.captureTake_position (s : State) {c : Capture} (p : Pos) (y : SlotSample) (hc : s.capture = some c) (d : Capture)
    (hd : (s.captureTake p y).capture = some d) : d.position = c.position := by
  by_cases hp : c.position = p
  · by_cases hsteady : y.matFault = true ∨ 400 ≤ y.load
    · rw [State.captureTake_unstable hc hp hsteady] at hd
      exact nomatch hd
    · obtain ⟨hm, hl⟩ := not_or.1 hsteady
      rw [State.captureTake_steady hc hp (by simpa using hm) (Nat.lt_of_not_le hl)] at hd
      split at hd
      · rw [← Option.some.inj hd]
      · exact nomatch hd
  · rw [State.captureTake_other hc hp, hc] at hd
    rw [Option.some.inj hd]

section
variable {s : State} {l : Line} {a : Fin 6} {serial : Byte} {blocks : List SlotSample} {p : Pos} {y : SlotSample}

/-- The node record after a SAMPLE reply with the recorded serial byte (R29). -/
theorem NodeRec.after_valid {n : NodeRec} (st : Bool) (h : serial = n.serialByte) : n.after st (.sample serial blocks) =
    ({ n with state := .online, misses := 0 }, none) := if_pos h

/-- The state of the ended exchange of a SAMPLE reply. -/
def State.sampled (s : State) (l : Line) (a : Fin 6) (serial : Byte) (blocks : List SlotSample) : State :=
  s.exchangeEnded l a (.sample serial blocks)

section
variable (hr : s.reasonAfter l a (.sample serial blocks) = none) (hn : (s.nodeAfter l a (.sample serial blocks)).state = .online)
include hr hn

theorem State.sampled_wakes : s.Wakes (s.sampled l a serial blocks)
    (∃ p, s.boundTo l a p = true ∧ s.WokenBy (s.sampled l a serial blocks) p false (.sample serial blocks)) := by
  have hidle : s.Slept (s.setExchange l none) := .of_vehicle rfl rfl rfl
  have hnode := s.idled_nodeAfter l a (.sample serial blocks)
  have hreason := (s.idled_reasonAfter l a (.sample serial blocks)).trans hr
  have htold : (s.setExchange l none).Slept ((s.setExchange l none).nodeTold l a (.sample serial blocks)) := by
    have hrest := (s.setExchange l none).nodeTold_rest l a (.sample serial blocks)
    exact .of_vehicle (congrArg State.config hrest :) (congrArg State.vehicle hrest :) (congrArg (fun u : State => u.scanner.timer) hrest :)
  have htaken : s.outcomeTaken l a (.sample serial blocks) = _ := (s.setExchange l none).takeNodeOutcome_handed l a (.sample serial blocks)
  rw [State.nodeRefitted_none _ _ _ _ hreason, hreason, hnode] at htaken
  have hwalk := State.forPositions_wakes (slip := decide (none = some NodeReason.slip)) (serial := serial) (blocks := blocks) hn
    ((s.setExchange l none).bound_sorted l a) ((s.setExchange l none).nodeTold l a (.sample serial blocks))
  have hwakes := (hidle.trans htold).trans_wakes (hwalk.trans_slept (State.visit_slept _ l (addressesAfter a)))
  rw [← htaken] at hwakes
  refine State.Wakes.of_iff hwakes (exists_congr fun p => ?_)
  rw [State.mem_bound]
  refine and_congr_right fun hp => ?_
  exact State.WokenBy.congr (State.nodeTold_pos _ _ _ _ _) (State.nodeTold_config _ _ _ _) (State.nodeTold_holdActive _ _ _ _)
    (s.exchangeEnded_pos l a _ hp).symm

/-- A delivered sample at a bound position (R34, R73). -/
theorem State.sampled_samples (hp : s.boundTo l a p = true) (hfit : (s.pos p).fit = .fits) (hy : s.Delivers p blocks y) :
    s.Samples (s.sampled l a serial blocks) p y := by
  obtain ⟨u, v, h⟩ := s.exchangeEnded_at (o := .sample serial blocks) hp
  have hpos := h.kept hr
  have hdelivered : v.delivered p (s.reasonAfter l a (.sample serial blocks) = some .slip) (.sample serial blocks) = some y := by
    rw [State.delivered_congr hpos h.config, hr]
    exact State.delivered_iff.2 ⟨rfl, hfit, hy⟩
  have hsamples := State.handTo_samples (s.nodeAfter l a (.sample serial blocks)) _ _ hn rfl hdelivered (by rw [hpos]; exact hfit)
  exact (hsamples.congr hpos h.config h.hold).of_pos h.result

/-- The belt state that a sample changed at the lowest bound position is told, where the cabin port had room (R90). -/
theorem State.sampled_beltTold (hp : s.boundTo l a p = true) (hfit : (s.pos p).fit = .fits) (hy : s.Delivers p blocks y)
    (hlowest : ∀ q : Pos, q < p → s.boundTo l a q = false)
    (hchanged : ((s.sampled l a serial blocks).pos p).buckle.belt ≠ (s.pos p).buckle.belt)
    (hroom : (s.port .cabin).queue.length < 16) : (s.sampled l a serial blocks).BeltTold p := by
  obtain ⟨u, v, h⟩ := (s.setExchange l none).takeNodeOutcome_at (o := .sample serial blocks) (l := l) (a := a) (p := p) hp
  have hreason := (s.idled_reasonAfter l a (.sample serial blocks)).trans hr
  have hnode := s.idled_nodeAfter l a (.sample serial blocks)
  have hpos : v.pos p = s.pos p := h.unrefitted hreason
  have hv := (h.lowest hlowest).trans (State.nodeRefitted_none _ _ _ _ hreason)
  have hdelivered : v.delivered p ((s.setExchange l none).reasonAfter l a (.sample serial blocks) = some .slip)
      (.sample serial blocks) = some y := by
    rw [State.delivered_congr hpos h.config, hreason]
    exact State.delivered_iff.2 ⟨rfl, hfit, hy⟩
  have htold := State.handTo_beltTold (p := p) ((s.setExchange l none).nodeAfter l a (.sample serial blocks)) _ _
    (by rw [hnode]; exact hn) rfl hdelivered (by rw [hpos]; exact hfit)
    (by rw [hv, State.nodeTold_port _ _ _ _ (by decide)]; exact hroom) (by
      rw [← h.result, hpos]
      unfold State.sampled at hchanged
      rw [s.exchangeEnded_pos l a _ hp] at hchanged
      exact hchanged)
  exact (htold.visited h.handed fun k => k.2 rfl).visited (s.exchangeEnded_visits l a _) (s.not_reaches_bound l a _ hp)

omit hn

/-- A capture of a bound position takes the delivered sample (R34, R49). -/
theorem State.sampled_captured {c : Capture} (hc : s.capture = some c) (hp : s.boundTo l a c.position = true)
    (hfit : (s.pos c.position).fit = .fits) (hy : s.Delivers c.position blocks y) : ∃ v : State, v.capture = some c ∧
      v.staging = s.staging ∧ v.config = s.config ∧ v.port .service = s.port .service ∧ v.scanner.number = s.scanner.number ∧
      (s.sampled l a serial blocks).capture = (v.captureTake c.position y).capture ∧
      (s.sampled l a serial blocks).staging = (v.captureTake c.position y).staging ∧
      (s.sampled l a serial blocks).port .service = (v.captureTake c.position y).port .service := by
  obtain ⟨u, v, h⟩ := (s.setExchange l none).takeNodeOutcome_at (o := .sample serial blocks) (l := l) (a := a) (p := c.position) hp
  have hreason := (s.idled_reasonAfter l a (.sample serial blocks)).trans hr
  have hpos : v.pos c.position = s.pos c.position := h.unrefitted hreason
  obtain ⟨hcapture, hstaging, hservice⟩ := h.captured fun d hd => by rw [Option.some.inj (hc.symm.trans hd)]
  have hvc : v.capture = some c := hcapture.trans hc
  have hdelivered : v.delivered c.position ((s.setExchange l none).reasonAfter l a (.sample serial blocks) = some .slip)
      (.sample serial blocks) = some y := by
    rw [State.delivered_congr hpos h.config, hreason]
    exact State.delivered_iff.2 ⟨rfl, hfit, hy⟩
  obtain ⟨hhanded, hhandedStaging, hhandedService⟩ := State.handTo_captured ((s.setExchange l none).nodeAfter l a
    (.sample serial blocks)) _ _ hdelivered
  have hposition := v.captureTake_position c.position y hvc
  have hvisits := s.exchangeEnded_visits l a (.sample serial blocks)
  obtain ⟨hT, hTStaging, hTService⟩ := h.handed.idle fun d hd k => k.2 (hposition d (hhanded.symm.trans hd))
  obtain ⟨hE, hEStaging, hEService⟩ := hvisits.idle fun d hd => by
    rw [hposition d (hhanded.symm.trans (hT.symm.trans hd))]
    exact s.not_reaches_bound l a _ hp
  refine ⟨v, hvc, hstaging, h.config, hservice.trans ((State.nodeTold_silent _ _ _ _ hreason).trans rfl), ?_,
    hE.trans (hT.trans hhanded), hEStaging.trans (hTStaging.trans hhandedStaging), hEService.trans (hTService.trans hhandedService)⟩
  have hhandTo := State.handTo_visits v c.position ((s.setExchange l none).nodeAfter l a (.sample serial blocks))
    ((s.setExchange l none).reasonAfter l a (.sample serial blocks) = some .slip) (.sample serial blocks)
  have hnumber := hvisits.number.trans (h.handed.number.trans hhandTo.number)
  exact hnumber.symm.trans s.exchangeEnded_number

end

end

end Sys2Proof.Machine

/-! Valid SAMPLE replies, settled (R29, R34 to R36, R49 to R51, R74, R86, R90, R130). -/

namespace Sys2Proof.Machine

/-! ## A capture that takes a sample (R49 to R51) -/

/-- What a capture that took a sample leaves, said of the staging area and the service port before. -/
structure State.CaptureTakes (s t : State) (c : Capture) (y : SlotSample) : Prop where
  unstable : y.matFault = true ∨ 400 ≤ y.load → t.capture = none ∧ t.staging = s.staging ∧ s.TellsCapture t c.position 15 0x1000
  counts : y.matFault = false → y.load < 400 → c.count < 15 →
    t.capture = some { c with count := c.count + 1, sum := c.sum + y.load } ∧ t.staging = s.staging
  full : y.matFault = false → y.load < 400 → c.count = 15 → c.sum ≤ 15 * 399 →
    let mean := (c.sum + y.load + 8) / 16
    let e := (s.staging.entries.get c.position).getD (s.entry c.position)
    t.capture = none ∧ s.TellsCapture t c.position 15 (BitVec.ofNat 16 mean) ∧
    t.staging.entries.get c.position = some { e with z := (mean : Int) } ∧
    ∀ q : Pos, q ≠ c.position → t.staging.entries.get q = s.staging.entries.get q

section
variable {s v : State} {c : Capture} {y : SlotSample}

/-- CAPTURE_DONE posted from a state with the service port and the scan number of s. -/
theorem State.tellsCapture_post {u t : State} {p : Pos} {x : Half} (hservice : u.port .service = s.port .service)
    (hnumber : u.scanner.number = s.scanner.number)
    (ht : t.port .service = (u.post .service .captureDone (p.val + 1) x).port .service) : s.TellsCapture t p 15 x := by
  intro hroom
  obtain ⟨n, hn, hkind, hsubject, hpayload, hscan⟩ := u.post_mem .service .captureDone (p.val + 1) x
    (.inl (by rw [hservice]; exact Nat.lt_succ_of_le hroom))
  exact ⟨n, by rw [ht]; exact hn, hkind, hsubject, hpayload, hscan.trans hnumber⟩

theorem State.captureTake_takes (hc : v.capture = some c) (hstaging : v.staging = s.staging) (hconfig : v.config = s.config)
    (hservice : v.port .service = s.port .service) (hnumber : v.scanner.number = s.scanner.number) :
    s.CaptureTakes (v.captureTake c.position y) c y := by
  refine ⟨fun h => ?_, fun hm hl hcount => ?_, fun hm hl hcount hsum => ?_⟩
  · rw [State.captureTake_unstable hc rfl h]
    exact ⟨rfl, hstaging, State.tellsCapture_post (u := { v with capture := none }) hservice hnumber rfl⟩
  · rw [State.captureTake_counts hc rfl hm hl hcount]
    exact ⟨rfl, hstaging⟩
  · have hentry : v.entry c.position = s.entry c.position := by rw [State.entry, hconfig, State.entry]
    rw [State.captureTake_full hc rfl hm hl hcount hsum, ← hstaging, ← hentry]
    refine ⟨rfl, State.tellsCapture_post (u := { v with capture := none }.stageZero c.position (captureZero (c.sum + y.load)))
      hservice hnumber rfl, ?_, fun q hq => ?_⟩
    · exact (vector_get_set _ _ _ _).trans (if_pos rfl)
    · exact (vector_get_set _ _ _ _).trans (if_neg hq)

theorem State.CaptureTakes.congr {t u : State} (h : s.CaptureTakes t c y) (hcapture : u.capture = t.capture)
    (hstaging : u.staging = t.staging) (hservice : u.port .service = t.port .service) : s.CaptureTakes u c y := by
  obtain ⟨hunstable, hcounts, hfull⟩ := h
  unfold State.TellsCapture at hunstable hfull
  rw [← hcapture, ← hstaging, ← hservice] at hunstable hfull
  rw [← hcapture, ← hstaging] at hcounts
  exact ⟨hunstable, hcounts, hfull⟩

end

/-! ## The scan mode (R20, R130) -/

section
variable {s t : State} {w : Prop}

theorem State.Wakes.heard (h : s.Wakes t w) (heco : s.vehicle.mode = .eco) (hw : w) : s.Heard t.judgeEco := by
  obtain ⟨hmode, htimer, hcount⟩ := h.woken heco hw
  have hfull : t.ecoFull = s.ecoFull := by rw [State.ecoFull, h.config, State.ecoFull]
  have hgetD : t.vehicle.eco.getD t.ecoFull = t.ecoFull := by
    rcases hcount with hcount | hcount
    · rw [hcount]; rfl
    · rw [hcount, hfull]; rfl
  refine ⟨hmode, htimer.trans (if_pos heco).symm, ?_⟩
  show (if t.ecoConditions then some (t.vehicle.eco.getD t.ecoFull) else none) = if t.ecoConditions then some t.ecoFull else none
  rw [hgetD]

end

/-! ## The record of a sampled position -/

section
variable {s t : State} {p : Pos} {y : SlotSample} (h : s.Samples t p y)
include h

theorem State.Samples.fit : (t.pos p).fit = (s.pos p).fit := (congrArg PosRec.fit h.record :)
theorem State.Samples.childCap : (t.pos p).childCap = (s.pos p).childCap := (congrArg PosRec.childCap h.record :)
theorem State.Samples.beltCap : (t.pos p).beltCap = (s.pos p).beltCap := (congrArg PosRec.beltCap h.record :)
theorem State.Samples.injection : (t.pos p).injection = (s.pos p).injection := (congrArg PosRec.injection h.record :)
theorem State.Samples.load : (t.pos p).load = (s.pos p).load.take (s.entry p) (s.profileOf p) y := (congrArg PosRec.load h.record :)
theorem State.Samples.child :
    (t.pos p).child = (s.pos p).child.take (s.pos p).childCap (s.profileOf p) (t.pos p).load.f y := by
  rw [h.load]
  exact (congrArg PosRec.child h.record :)
theorem State.Samples.buckle : (t.pos p).buckle = (s.pos p).buckled y := (congrArg PosRec.buckle h.record :)
theorem State.Samples.lastInstant : (t.pos p).cls.lastInstant = instantClass (s.profileOf p) (t.pos p) y.matFault := by
  rw [h.cls, State.onlineClass_lastInstant]

end

/-- Settles O16: the pipeline and the class of each fitting position, a misfit, the wake and a capture. -/
theorem validSampleReplyRunsPipeline : Obligations.ValidSampleReplyRunsPipeline := by
  unfold Obligations.ValidSampleReplyRunsPipeline
  intro s l x id blocks hrun hx hc hid hslots hcount hblocks
  have hexec := State.exec_sample (serial := id.id.extractLsb' 0 8) hrun hx hc hid hslots hcount hblocks
  have hvalid := NodeRec.after_valid (blocks := blocks) s.standstill (NodeRec.serialByte_of hid).symm
  have hr := State.reasonAfter_of hvalid
  have hn : s.nodeAfter l x.address _ = _ := State.nodeAfter_of hvalid
  have honline : (s.nodeAfter l x.address (.sample (id.id.extractLsb' 0 8) blocks)).state = .online := by rw [hn]
  have hunfit (p : Pos) (hmisfit : (s.pos p).fit = .misfit ∨ (s.pos p).fit = .noSlot) (v : State) (hv : v.pos p = s.pos p) :
      v.delivered p (s.reasonAfter l x.address (.sample (id.id.extractLsb' 0 8) blocks) = some .slip)
        (.sample (id.id.extractLsb' 0 8) blocks) = none := by
    refine State.delivered_unfit ?_
    rw [hv]
    rcases hmisfit with h | h <;> rw [h] <;> decide
  have hnode := (s.exchangeEnded_node l x.address (.sample (id.id.extractLsb' 0 8) blocks) l x.address).trans ((if_pos ⟨rfl, rfl⟩).trans hn)
  have hafter := s.exchangeEnded_after l x.address (.sample (id.id.extractLsb' 0 8) blocks)
  have hsilent := State.exchangeEnded_tellsNoNode hr
  have hwakes := State.sampled_wakes hr honline
  have hsamples (p : Pos) (y : SlotSample) := State.sampled_samples (p := p) (y := y) hr honline
  have hbelt (p : Pos) (y : SlotSample) := State.sampled_beltTold (p := p) (y := y) hr honline
  have hcapture (c : Capture) (y : SlotSample) (hcap : s.capture = some c) (hp : s.boundTo l x.address c.position = true)
      (hfit : (s.pos c.position).fit = .fits) (hy : s.Delivers c.position blocks y) :
      s.CaptureTakes (s.sampled l x.address (id.id.extractLsb' 0 8) blocks) c y := by
    obtain ⟨v, hvc, hstaging, hconfig, hservice, hnumber, hc', hs', hp'⟩ := State.sampled_captured hr hcap hp hfit hy
    exact (State.captureTake_takes hvc hstaging hconfig hservice hnumber).congr hc' hs' hp'
  have hclass (p : Pos) (hp : s.boundTo l x.address p = true) :=
    State.exchangeEnded_tellsClass (o := .sample (id.id.extractLsb' 0 8) blocks) hp
  have hkeeps (p : Pos) (hp : s.boundTo l x.address p = true) (hmisfit : (s.pos p).fit = .misfit ∨ (s.pos p).fit = .noSlot) :=
    State.exchangeEnded_keeps hp hr (hunfit p hmisfit)
  have hmisfits (p : Pos) (hp : s.boundTo l x.address p = true) (hmisfit : (s.pos p).fit = .misfit ∨ (s.pos p).fit = .noSlot) :=
    State.exchangeEnded_misfit hp hr (hunfit p hmisfit) (.inl honline) hmisfit
  have hunbound (p : Pos) (hp : s.boundTo l x.address p = false) :=
    State.exchangeEnded_unbound (.sample (id.id.extractLsb' 0 8) blocks) hp
  unfold State.sampled at hwakes hsamples hbelt hcapture
  generalize s.exchangeEnded l x.address (.sample (id.id.extractLsb' 0 8) blocks) = t at *
  refine ⟨_, hexec, hafter.judgeEco, hnode, hsilent, ?_, fun c y hcap hp hfit hy => ?_, fun p y hp hfit hy => ?_,
    fun p hp hmisfit => ⟨hkeeps p hp hmisfit, hmisfits p hp hmisfit, hclass p hp⟩, fun p hp => ?_⟩
  · intro differs
    have hdiffers : differs ↔ ∃ p, s.boundTo l x.address p = true ∧
        s.WokenBy t p false (.sample (id.id.extractLsb' 0 8) blocks) := by
      refine exists_congr fun p => ?_
      simp only [State.WokenBy, State.delivered_iff, true_and, exists_and_left, and_assoc]
      rfl
    rw [hdiffers]
    exact ⟨fun heco hwoken => hwakes.heard heco hwoken, hwakes.asleep⟩
  · exact ⟨(hcapture c y hcap hp hfit hy).unstable, (hcapture c y hcap hp hfit hy).counts, (hcapture c y hcap hp hfit hy).full⟩
  · have h := hsamples p y hp hfit hy
    refine ⟨hclass p hp, h.fit.trans hfit, h.childCap, h.beltCap, h.injection, h.load, h.child, h.buckle,
      fun hlowest hchanged hroom => ?_, h.lastInstant, h.cls⟩
    obtain ⟨n, hn, hkind, hsubject, hpayload, hscan⟩ := hbelt p y hp hfit hy hlowest hchanged hroom
    refine ⟨n, hn, hkind, hsubject, ?_, hscan.trans hafter.number⟩
    rw [hpayload, BitVec.toNat_ofNat]
    exact Nat.mod_eq_of_lt (lt_trans (Belt.code_lt _) (by decide))
  · obtain ⟨h, hlast⟩ := hunbound p hp
    exact ⟨h.load, h.child, hlast⟩

end Sys2Proof.Machine
